-- ==== Sys2Proof/Word.lean ====
section
/-!
DEFINITION. The names of the small fixed types of the UVS8: bytes, station addresses, channels, levels, decimal
digits, and a fixed row of decimal digits (R89).
-/

namespace Sys2Proof

/-- One byte of the controller port or of the share bus. -/
abbrev Byte := BitVec 8

/-- A station address, 0–15 (00, Numbers and ranges). Addition wraps mod 16. -/
abbrev Addr := Fin 16

/-- A channel number, 0–7. -/
abbrev Chan := Fin 8

/-- A priority level, 0 (highest) to 3. -/
abbrev Level := Fin 4

/-- A frame sequence number, mod 16 (R126). -/
abbrev Seq := Fin 16

/-- A decimal digit, 0–9. No volume field ever holds a non-decimal digit (R89). -/
abbrev Digit := Fin 10

/-- A fixed row of `n` decimal digits (R89), the least significant digit first. -/
structure Decimal (n : Nat) where
  digits : List Digit
  len : digits.length = n
  deriving DecidableEq, Repr

/-- The row of `n` zeros. -/
def Decimal.zero (n : Nat) : Decimal n := ⟨List.replicate n 0, List.length_replicate⟩

/-- The row of `n` nines: the ceiling of a volume field of `n` digits. -/
def Decimal.nines (n : Nat) : Decimal n := ⟨List.replicate n 9, List.length_replicate⟩

end Sys2Proof
end

