-- ==== Sys2Proof/Syntax.lean ====
section
/-!
DEFINITION. The commands of the block: one constructor for each row of spec/opcode_table.json, with the row's operands.
Frames carry their payload at the width it has on the line (12.1), so that content outside a field's range can be
written down; the appliers deal with it (R122, last paragraph).
-/

namespace Sys2Proof

/-- A gauge as two bytes: a presence nibble and three digit nibbles (R201, Gauge). -/
structure GaugeField where
  presence : BitVec 4
  digits : BitVec 12
  deriving DecidableEq, Repr

/-- An orphan record of a BEAT: station 1 byte, load 2 bytes (12.1). -/
structure OrphanItem where
  station : Byte
  load : BitVec 16
  deriving DecidableEq, Repr

/-- An entry item of a BEAT: channel, level, demand, and a byte with the latched nibble above the phase nibble (12.1). -/
structure EntryItem where
  channel : Byte
  level : Byte
  demand : Byte
  latched : BitVec 4
  phase : BitVec 4
  deriving DecidableEq, Repr

/-- The payload of a BEAT (12.1; R9 says what a station puts into it). The two counts are the lengths of the lists. -/
structure BeatBody where
  weight : Byte
  cap : Byte
  capacity : Byte
  gauge : GaugeField
  flags : BitVec 16
  pointers : Vector Addr 4
  haltState : Byte
  reasons : Byte
  orphans : List OrphanItem
  entries : List EntryItem
  deriving DecidableEq, Repr

/-- The ten frame kinds with their payloads (12.1). -/
inductive FrameBody where
  | beat (b : BeatBody)
  | claim (channel level demand phase cause : Byte)
  | flag (set clear : BitVec 16)
  | gauge (g : GaugeField)
  | drop (target : Byte)
  | purge (target : Byte)
  | leave
  | halt (reasons : Byte)
  | haltAck (mask : Byte)
  | release
  deriving DecidableEq, Repr

/-- A frame of the share bus: SENDER, SEQ, and kind with payload (12.1). -/
structure Frame where
  sender : Addr
  seq : Seq
  body : FrameBody
  deriving DecidableEq, Repr

/-- The two start moments a station has in an access round (R117). -/
inductive Moment where
  | urgent
  | normal
  deriving DecidableEq, Repr

/-- At which bit of its frame an attempt read back another bit than it drove (R117, R119, R121): at its own start bit, so that
the line has shown no start bit, or at a later one. The row READBACK_FAILURE carries it as the line decides it (log 22). -/
inductive Mismatch where
  | startBit
  | later
  deriving DecidableEq, Repr

/-- The levels of the strap pins at reset release (R198): ADDR3–0, WT1–0 as a number, ATM, PLE. -/
structure StrapPins where
  addr : Addr
  wt : Fin 4
  atm : Bool
  ple : Bool
  deriving DecidableEq, Repr

/-- What a METER_PULSE command says of the MTRn pin of its channel (R87): the pin goes low, the pin goes high, or the pulse is
taken at the end of the high period. -/
inductive MeterEvent where
  | falls (c : Chan)
  | rises (c : Chan)
  | taken (c : Chan)
  deriving DecidableEq, Repr

/-- The commands, in the order of the table. A host command has no operand of its own: it executes with the bytes the
port has collected (R184, log 8). The rows of the field pins stand for the movement of the pin and for the taking of its
pulse or level (log 21). -/
inductive Instr where
  -- byte cycles of the controller port
  | commandByteWrite (b : Byte)
  | argumentByteWrite (b : Byte)
  | writeWhileExecuting (cd : Bool) (b : Byte)
  | responseByteRead
  | badCommand
  -- execution of a host command
  | siteConfig
  | channelConfig
  | join
  | leaveCommand
  | submit
  | loadRun
  | cancel
  | queryRun
  | readChannel
  | clearFault
  | readLog
  | peekLog
  | logStatus
  | setFlags
  | setGauge
  | haltCommand
  | releaseCommand
  | purgeCommand
  | readRoster
  | readEntry
  | readSite
  | stationStatus
  | readEvents
  -- the line and the transmit engine
  | idleDetection
  | accessRoundExpiry
  | transmissionStart (m : Moment)
  | readbackFailure (m : Mismatch := .later)
  | frameSent
  | receiveError (chars : List Byte)
  | frameIgnored (sender : Addr) (seq : Seq) (body : FrameBody)
  | clashFrameReceived (seq : Seq) (body : FrameBody)
  -- complete frames from the line
  | beatFrame (sender : Addr) (seq : Seq) (b : BeatBody)
  | claimFrame (sender : Addr) (seq : Seq) (channel level demand phase cause : Byte)
  | flagFrame (sender : Addr) (seq : Seq) (set clear : BitVec 16)
  | gaugeFrame (sender : Addr) (seq : Seq) (g : GaugeField)
  | dropFrame (sender : Addr) (seq : Seq) (target : Byte)
  | purgeFrame (sender : Addr) (seq : Seq) (target : Byte)
  | leaveFrame (sender : Addr) (seq : Seq)
  | haltFrame (sender : Addr) (seq : Seq) (reasons : Byte)
  | haltAckFrame (sender : Addr) (seq : Seq) (mask : Byte)
  | releaseFrame (sender : Addr) (seq : Seq)
  -- timers
  | beatTimerExpiry
  | silenceExpiry (a : Addr)
  | listenWindowExpiry
  | roundTimerExpiry
  | openTimerExpiry (c : Chan)
  | closeTimerExpiry (c : Chan)
  | noFlowTimerExpiry (c : Chan)
  | openSecondsTick (c : Chan)
  | stationSecondsTick
  -- field pins
  | meterPulse (e : MeterEvent)
  | endSwitchAssertion (c : Chan)
  | plossFallingEdge
  -- steps the part takes by itself
  | selfDropRelisten
  | leaveQueued
  | haltAckQueued
  -- reset and the remaining inputs
  | reset
  | resetRelease (pins : StrapPins)
  | endSwitchDeassertion (c : Chan)
  | plossRisingEdge
  | plossLevelAtResetRelease (asserted : Bool)
  | nonSyncFirstCharacter (b : Byte)
  deriving DecidableEq, Repr

end Sys2Proof
end

