-- ==== Sys2Proof/Decode.lean ====
section
/-!
DEFINITION. Words of the opcode table. The table gives no row bits: the commands of the block are events, not words, so
no word spells one.
-/

namespace Sys2Proof

/-- The command that a word spells by the table's bits: none, since no row gives bits. -/
def decodeTableWord (nbits w : Nat) : Option Instr :=
  match nbits, w with
  | _, _ => none

end Sys2Proof
end

