-- ==== Sys2Proof/Machine/Decimal.lean ====
section
/-!
DEFINITION. Decimal arithmetic of the meter (chapter 5) and packed decimal in bytes (chapter 12), and whole numbers in
bytes, most significant byte first.
-/

namespace Sys2Proof.Machine

/-- R90: adds a quantum to a field digit by digit from the least significant digit, with the carry passed upward; the
second component is the field's overflow. Digits the quantum lacks count 0. -/
def addDigits : List Digit → List Digit → Bool → List Digit × Bool
  | [], _, carry => ([], carry)
  | d :: ds, qs, carry =>
    let sum := d.val + (qs.headD 0).val + carry.toNat
    let rest := addDigits ds qs.tail (decide (10 ≤ sum))
    (Fin.ofNat 10 sum :: rest.1, rest.2)

theorem addDigits_length (ds qs : List Digit) (carry : Bool) :
    (addDigits ds qs carry).1.length = ds.length := by
  induction ds generalizing qs carry with
  | nil => rfl
  | cons d ds ih => simp [addDigits, ih]

/-- R90 on a field: the digits after the addition, and the overflow. -/
def addDecimal {n m : Nat} (field : Decimal n) (quantum : Decimal m) : Decimal n × Bool :=
  (⟨(addDigits field.digits quantum.digits false).1, by rw [addDigits_length, field.len]⟩,
    (addDigits field.digits quantum.digits false).2)

/-- R92, R95: a field that stays at its ceiling on overflow. -/
def addSaturating {n m : Nat} (field : Decimal n) (quantum : Decimal m) : Decimal n :=
  if (addDecimal field quantum).2 then Decimal.nines n else (addDecimal field quantum).1

/-- Compares two rows of digits of one length from the highest digit down (R93). -/
def digitsGe : List Digit → List Digit → Bool
  | a :: as, b :: bs => decide (b < a) || (a == b && digitsGe as bs)
  | _, _ => true

/-- R93, R78: a volume with a guard digit, compared in tenths with the guard digit ignored, is at least `limit`. The
limit has as many or fewer whole-litre digits; missing high digits count 0. -/
def reaches {n m : Nat} (volume : Decimal n) (limit : Decimal m) : Bool :=
  digitsGe volume.digits.tail.reverse
    (List.replicate (volume.digits.tail.length - m) 0 ++ limit.digits.reverse)

/-- The number a row of digits spells, least significant digit first. -/
def digitsValue : List Digit → Nat
  | [] => 0
  | d :: ds => d.val + 10 * digitsValue ds

/-! ### Packed decimal (chapter 12) -/

/-- A nibble as a decimal digit; none for 10–15 (R89). -/
def toDigit (n : BitVec 4) : Option Digit :=
  if h : n.toNat < 10 then some ⟨n.toNat, h⟩ else none

/-- The nibbles of bytes given most significant first, least significant nibble first. -/
def nibblesLow (bytes : List Byte) : List (BitVec 4) :=
  bytes.reverse.flatMap fun b => [b.extractLsb' 0 4, b.extractLsb' 4 4]

/-- Reads a field of `n` digits from its bytes: every digit decimal, and every pad nibble 0 (R201). -/
def readDecimal (n : Nat) (bytes : List Byte) : Option (Decimal n) :=
  ((nibblesLow bytes).mapM toDigit).bind fun ds =>
    if h : (ds.take n).length = n then
      if (ds.drop n).all (· == 0) then some ⟨ds.take n, h⟩ else none
    else none

/-- Two digits in one byte, the higher in the upper four bits. -/
def digitPair (high low : Digit) : Byte := BitVec.ofNat 8 (16 * high.val + low.val)

/-- Packs digits given least significant first, two to a byte, the least significant byte first. -/
def packLow : List Digit → List Byte
  | low :: high :: ds => digitPair high low :: packLow ds
  | [low] => [digitPair 0 low]
  | [] => []

/-- A field in its bytes, most significant first, a pad nibble 0 above an odd number of digits (12, R201). -/
def decimalBytes {n : Nat} (d : Decimal n) : List Byte := (packLow d.digits).reverse

/-! ### Whole numbers in bytes -/

/-- A count, code or number in one byte. -/
def byteOf (n : Nat) : Byte := BitVec.ofNat 8 n

/-- Sixteen bits in two bytes, most significant first. -/
def bytes16 (w : BitVec 16) : List Byte := [w.extractLsb' 8 8, w.extractLsb' 0 8]

/-- Thirty-two bits in four bytes, most significant first. -/
def bytes32 (w : BitVec 32) : List Byte :=
  [w.extractLsb' 24 8, w.extractLsb' 16 8, w.extractLsb' 8 8, w.extractLsb' 0 8]

/-- Two bytes, most significant first, as sixteen bits. -/
def word16 (high low : Byte) : BitVec 16 := high ++ low

/-- Four bytes, most significant first, as thirty-two bits. -/
def word32 (a b c d : Byte) : BitVec 32 := a ++ b ++ c ++ d

end Sys2Proof.Machine
end

