-- ==== Sys2Proof/Config.lean ====
section
/-!
DEFINITION. What an implementation fixes: the durations and bounds the spec states, and the three free values the spec
leaves open (constants without a body: nothing can be proved of their values).
-/

namespace Sys2Proof.Config

/-- The demand byte that a station puts into a CLAIM GONE frame it sends. 12.1 gives the field a place and R5 says it
is not examined; no rule states its value (log 17, a free value). The argument is the counter `free` of State. -/
opaque goneClaimDemand : Nat → Byte

/-- The three digit nibbles of a gauge that a station sends as absent. R201 gives the presence nibble 0; no rule states
the digits in a frame (log 18, a free value). The argument is the counter `free` of State. -/
opaque absentGaugeDigits : Nat → BitVec 12

/-- The level that a CLAIM GONE carries when R35 and R83 take it from an announced record that is GONE and that no CLAIM
has left (log 19, a free value). The arguments are the counter `free` of State and the channel. -/
opaque unstatedLevel : Nat → Chan → Level

/-- R131: the beat timer, in ms. -/
abbrev beatMs : Nat := 2000
/-- R135: a member's silence timer, in ms. -/
abbrev silenceMs : Nat := 6000
/-- R140: the listen window, in ms. -/
abbrev listenMs : Nat := 4000
/-- R156: the round timer, 75 s, in ms. -/
abbrev roundMs : Nat := 75000
/-- R42: a channel list holds up to 6 runs. -/
abbrev listMax : Nat := 6
/-- R40: the pool holds up to 24 runs. -/
abbrev poolMax : Nat := 24
/-- R171: the log holds up to 48 records and reservations together. -/
abbrev logMax : Nat := 48
/-- R137: an orphan load is at most 8 × 63 = 504 flow units. -/
abbrev loadMax : Nat := 504

end Sys2Proof.Config
end

