-- ==== Sys2Proof/Machine/State.lean ====
section
/-!
DEFINITION. The state of one UVS8 as plain data, block by block, and its value after reset. What a rule lets one
compute from other state (heads, run lists, attributed runs, output pins, the target set as a list) is stored once and
computed where it is read (log 24).
-/

namespace Sys2Proof.Machine

/-! ### Claim table and shared site state (chapter 1) -/

/-- R1, 1.1: the phase of an entry. GONE is no phase of an entry: a gone slot holds none. -/
inductive Phase where
  | asking
  | flowing
  | yielding
  | paused
  | stuck
  deriving DecidableEq, Repr

/-- 1.2: the cause a GONE CLAIM carries. -/
inductive GoneCause where
  | complete
  | ended
  | withdrawn
  deriving DecidableEq, Repr

/-- 1.1: one entry; its key is its place in the table. `placed` is its mark in the target set of the last
recomputation (R22). -/
structure Entry where
  level : Level
  demand : Nat
  phase : Phase
  latched : Bool
  placed : Bool
  deriving DecidableEq, Repr

/-- The slots of one owner, by channel (R1: one slot for each key). -/
abbrev Row := Vector (Option Entry) 8

/-- R1: the claim table, one slot for each (owner, channel). -/
abbrev Table := Vector Row 16

/-- The claim table unit: the table and the shared site state (R19). -/
structure ClaimUnit where
  table : Table
  flags : BitVec 16
  pointers : Vector Addr 4
  capacityView : Nat
  announcedSet : List Nat
  adoptionPending : Bool
  deriving DecidableEq, Repr

/-- R22: the allocator's result, less the target set, which stands in the entries' `placed` marks. -/
structure AllocResult where
  effective : Nat
  placedDemand : Nat
  transient : Nat
  drain : Bool
  freeze : Bool
  deriving DecidableEq, Repr

/-! ### Membership (chapter 8) -/

/-- R133. -/
inductive StationState where
  | config
  | listening
  | synced
  | resync
  | leaving
  | isolated
  | clash
  deriving DecidableEq, Repr

/-- R149: why the station is ISOLATED. -/
inductive IsolationCause where
  | none
  | selfDrop
  | readback
  deriving DecidableEq, Repr

/-- 1.5: a gauge value, three decimal digits. -/
structure Gauge where
  hundreds : Digit
  tens : Digit
  units : Digit
  deriving DecidableEq, Repr

/-- R134: a roster record; its address is its place in the roster. `silence` is the time left on the silence timer
(R135), `none` when it does not run; `silent` says that it has expired since the member's last applied frame. -/
structure Member where
  weight : Nat
  cap : Nat
  capacity : Nat
  gauge : Option Gauge
  lastSeq : Seq
  heard : BitVec 32
  stale : Bool
  silence : Option Nat
  silent : Bool
  deriving DecidableEq, Repr

/-- R134: the roster, ordered by address. -/
abbrev Roster := Vector (Option Member) 16

/-- R137: an orphan record. -/
structure Orphan where
  station : Addr
  load : Nat
  deriving DecidableEq, Repr

/-- The membership unit (R152). -/
structure MemberUnit where
  station : StationState
  cause : IsolationCause
  roster : Roster
  orphans : List Orphan
  listenWindow : Option Nat
  deriving DecidableEq, Repr

/-! ### Site halt (chapter 9) -/

/-- R153. -/
inductive HaltState where
  | none
  | halted
  | settling
  deriving DecidableEq, Repr

/-- 9.1: the round status. -/
inductive RoundStatus where
  | none
  | opened
  | confirmed
  | unconfirmed
  deriving DecidableEq, Repr

/-- 9.1: the halt unit. Reasons by bit: 0 COMMAND, 1 PRESSURE, 2 LEAK, 3 MERGE (12.2). Address sets by bit. `ploss` is the
PLOSS# level as last taken (asserted), `plossTaken` says that one has been taken since reset release, `plossHeld` is how
many ms, up to 20, the pin has held its level, and `plossDue` is a level whose 20 ms are over and which has not been taken
yet (R154). -/
structure HaltUnit where
  halt : HaltState
  reasons : BitVec 4
  round : RoundStatus
  ackSet : BitVec 16
  acked : Vector (Option Byte) 16
  missing : BitVec 16
  roundTimer : Option Nat
  settle : BitVec 16
  ackPending : Bool
  ploss : Bool
  plossTaken : Bool
  plossHeld : Nat
  plossDue : Option Bool
  deriving DecidableEq, Repr

/-! ### Share bus interface (chapter 7) -/

/-- What a CLAIM that the station queues says of its entry (1.2). -/
inductive ClaimContent where
  | live (phase : Phase) (level : Level) (demand : Nat)
  | gone (level : Level) (cause : GoneCause)
  deriving DecidableEq, Repr

/-- R128: a frame waiting in the outbound set. A BEAT has no content before its transmission starts (R9). -/
inductive OutFrame where
  | claim (c : Chan) (k : ClaimContent)
  | flag (set clear : BitVec 16)
  | gauge (g : Option Gauge)
  | beat
  | drop (target : Addr)
  | purge (target : Addr)
  | leave
  | halt (reasons : BitVec 4)
  | haltAck (mask : Byte)
  | release
  deriving DecidableEq, Repr

/-- R119: the transmit engine while it sends: the frame on the line, what it was in the set, and its former place (how
many frames of the set were older). -/
structure Transmission where
  frame : Frame
  item : OutFrame
  place : Nat
  deriving DecidableEq, Repr

/-- R117: the access round as the station sees it: none runs, or a start bit has been seen in it; or it runs on a line that
has stayed recessive, with neither of the station's moments passed, its urgent moment passed, or both. -/
inductive AccessRound where
  | closed
  | fresh
  | urgentPassed
  | normalPassed
  deriving DecidableEq, Repr

/-- The share bus interface (R132). `rxReady`: idle has been detected and no frame has ended since, so that a first
character would be taken (R115). -/
structure BusUnit where
  outbound : List OutFrame
  tx : Option Transmission
  seq : Seq
  failures : Nat
  lastSender : Addr
  beatTimer : Option Nat
  rxReady : Bool
  access : AccessRound
  deriving DecidableEq, Repr

/-! ### Runs (chapters 3 and 6) -/

/-- R101: the comparison of a GAUGE gate. -/
inductive Comparison where
  | eq
  | ne
  | ge
  | lt
  deriving DecidableEq, Repr

/-- R101: a gate. -/
inductive Gate where
  | flagSet (n : Fin 16)
  | flagClear (n : Fin 16)
  | gauge (s : Addr) (cmp : Comparison) (value : Gauge)
  | after (handle : Nat)
  deriving DecidableEq, Repr

/-- R50: the closing purposes. The result of an ENDING purpose is the run's end result (R40). -/
inductive Purpose where
  | preemptLocal
  | revoked
  | halt
  | resync
  | isolate
  | leave
  | ending
  deriving DecidableEq, Repr

/-- R43: the states of a run. -/
inductive RunState where
  | gated
  | queued
  | asking
  | flowing
  | closing (p : Purpose)
  deriving DecidableEq, Repr

/-- R56: the end results. -/
inductive EndResult where
  | complete
  | cancelled
  | stopped
  | timeLimit
  | noFlow
  deriving DecidableEq, Repr

/-- R40: a run record. -/
structure Run where
  handle : Nat
  tag : BitVec 16
  channel : Chan
  level : Level
  demand : Nat
  target : Decimal 6
  delivered : Decimal 7
  saturated : Bool
  gate : Option Gate
  gateSatisfied : Bool
  stopFlag : Option (Fin 16)
  timeLimit : Option Nat
  openSeconds : Nat
  preemptions : Nat
  submitTime : BitVec 32
  state : RunState
  endResult : Option EndResult
  deriving DecidableEq, Repr

/-- The run manager: the pool in order of admission, oldest first (R104 stage 1), and the handle counter (R41). -/
structure RunUnit where
  pool : List Run
  handleCounter : Nat
  deriving DecidableEq, Repr

/-! ### Valve channels and meter (chapters 4 and 5) -/

/-- R70. -/
inductive Valve where
  | closed
  | opening
  | opened
  | closing
  | stuck
  deriving DecidableEq, Repr

/-- 4.1: the settings of a present channel. Times in seconds. -/
structure ChannelSettings where
  quantum : Decimal 4
  openTime : Nat
  closeTime : Nat
  endSwitch : Bool
  leakLimit : Decimal 5
  noFlowTime : Nat
  deriving DecidableEq, Repr

/-- R77: the fault kinds held; the fault state is NONE when there is none. -/
structure Faults where
  leak : Bool
  dry : Bool
  stuck : Bool
  deriving DecidableEq, Repr

/-- A phase with its level and demand: what a channel derives (R81) when it is not GONE. -/
structure Claimed where
  phase : Phase
  level : Level
  demand : Nat
  deriving DecidableEq, Repr

/-- R82: the announced record. GONE keeps the level its CLAIM carried, or none when no CLAIM has carried one (R84, R86). -/
inductive Announced where
  | live (k : Claimed)
  | gone (level : Option Level)
  deriving DecidableEq, Repr

/-- One valve channel with its meter. `settings` is `none` for an absent channel (R69). Timers hold the ms left, `none`
when stopped. `vsw` is the VSWn# level as last taken (`some true` asserted), `none` when none has been taken (R86),
`vswHeld` how many ms, up to 20, the pin has held its level since it is sampled, and `vswDue` a level whose 20 ms are over
and which has not been taken yet (R73). `mtrHeld` is how many ms, up to 2, MTRn has held its level since it is sampled,
`mtrLow` says that the low-time requirement is satisfied: the low level has been taken since the last pulse, and `mtrDue`
that the 2 ms high period of a pulse is over and the pulse has not been credited yet (R87, R100). The accumulator counts
0–999 ms; 1000 stands for a second whose rise is due and not yet taken (R109). -/
structure Channel where
  settings : Option ChannelSettings
  valve : Valve
  openTimer : Option Nat
  closeTimer : Option Nat
  noFlowTimer : Option Nat
  faults : Faults
  stuckValues : Option (Level × Nat)
  announced : Announced
  vsw : Option Bool
  vswHeld : Nat
  vswDue : Option Bool
  mtrHeld : Nat
  mtrLow : Bool
  mtrDue : Bool
  totalizer : Decimal 10
  wrapped : Bool
  unattributed : Decimal 7
  accumulator : Nat
  deriving DecidableEq, Repr

/-! ### Delivery log (chapter 10) -/

/-- R172: a completion record. -/
structure LogRecord where
  handle : Nat
  tag : BitVec 16
  channel : Chan
  level : Level
  result : EndResult
  target : Decimal 6
  delivered : Decimal 7
  saturated : Bool
  closeNotConfirmed : Bool
  preemptions : Nat
  openSeconds : Nat
  submitTime : BitVec 32
  endTime : BitVec 32
  deriving DecidableEq, Repr

/-- R171: the delivery log: its records oldest first, the ring place of the oldest, and the reservations. -/
structure LogUnit where
  records : List LogRecord
  readPos : Nat
  reservations : Nat
  deriving DecidableEq, Repr

/-! ### Controller port (chapter 11) -/

/-- 11.2: the port state. -/
inductive PortState where
  | idle
  | collecting
  | executing
  | done
  deriving DecidableEq, Repr

/-- R187: the result field. -/
inductive ResultCode where
  | none
  | ok
  | badCommand
  | badArg
  | wrongState
  | channelAbsent
  | channelFault
  | listFull
  | poolFull
  | logFull
  | noSuchRun
  | empty
  | notOrphan
  | inputAsserted
  deriving DecidableEq, Repr

/-- 11.2: what the port holds; `lastRead` is the byte the last read cycle with CD low returned (R185). -/
structure Port where
  state : PortState
  command : Option Byte
  args : List Byte
  response : List Byte
  result : ResultCode
  sequence : Bool
  lastRead : Byte
  deriving DecidableEq, Repr

/-- R195: the latched event bits. `site` holds, from bit 11 down to bit 0, the twelve site-class bits in the order of
the READ_EVENTS response (12.5): HALT_ENTERED, HALT_CONFIRMED, HALT_UNCONFIRMED, HALT_RELEASED, ROSTER_CHANGED,
SYNC_LOST, SYNC_REGAINED, CAPACITY_MISMATCH, VIEW_MERGED, FREEZE_CHANGED, ISOLATED, CLASH. -/
structure Events where
  faultCh : BitVec 8
  site : BitVec 12
  deriving DecidableEq, Repr

/-- R193: the site configuration. -/
structure SiteConfiguration where
  isSet : Bool
  capacity : Nat
  cap : Nat
  leakHalts : Bool
  deriving DecidableEq, Repr

/-- R199: the station seconds, and the milliseconds counted towards the next; 1000 stands for a second whose rise is due and
not yet taken. -/
structure Clock where
  seconds : BitVec 32
  millis : Nat
  deriving DecidableEq, Repr

/-! ### The field pins -/

/-- The levels that the surroundings hold on the field inputs (12.6): by channel, MTRn high and VSWn# asserted; PLOSS#
asserted. They are the outside's, as the queue of commands is: reset leaves them (log 33). -/
structure FieldPins where
  mtr : BitVec 8
  vsw : BitVec 8
  ploss : Bool
  deriving DecidableEq, Repr

/-! ### The whole state -/

/-- The state of the part: its blocks, the level of RST#, the straps, the levels on the field inputs, the queue of commands
that wait (`pending`), and the counter from which free values are drawn (`free`, logs 17–19). -/
structure State where
  pending : List Instr
  inReset : Bool
  straps : StrapPins
  pins : FieldPins
  clock : Clock
  port : Port
  events : Events
  site : SiteConfiguration
  ct : ClaimUnit
  alloc : AllocResult
  mu : MemberUnit
  hu : HaltUnit
  bus : BusUnit
  rm : RunUnit
  chans : Vector Channel 8
  log : LogUnit
  free : Nat
  deriving DecidableEq, Repr

/-- The reasons for which a step of this block stops the machine: there are none. Every command has an effect, a result
code, or no effect, as the spec gives it; the faults of the spec (LEAK, DRY, STUCK, receive errors) are state. -/
inductive Fault where
  deriving DecidableEq, Repr

/-- The reasons for which a command is turned away by the model. -/
inductive Refusal where
  /-- Raised by an arm of `exec` whose command has no meaning yet; none is left. Stopping is on the safe side: nothing
  is claimed of such a command. -/
  | notModelled (mnemonic : String)
  deriving DecidableEq, Repr

/-! ### Reset values -/

/-- R19: every slot gone. -/
def Table.empty : Table := Vector.replicate 16 (Vector.replicate 8 none)

/-- R152: no member. -/
def Roster.empty : Roster := Vector.replicate 16 none

/-- R86, R100, R113: a channel after reset. -/
def Channel.initial : Channel where
  settings := none
  valve := .closed
  openTimer := none
  closeTimer := none
  noFlowTimer := none
  faults := ⟨false, false, false⟩
  stuckValues := none
  announced := .gone none
  vsw := none
  vswHeld := 0
  vswDue := none
  mtrHeld := 0
  mtrLow := false
  mtrDue := false
  totalizer := Decimal.zero 10
  wrapped := false
  unattributed := Decimal.zero 7
  accumulator := 0

/-- R200: the port after reset; the value of `lastRead` is the model's choice (log 20). -/
def Port.initial : Port := ⟨.idle, none, [], [], .none, false, 0⟩

/-- R19. -/
def ClaimUnit.initial : ClaimUnit := ⟨Table.empty, 0, #v[0, 0, 0, 0], 0, [], false⟩

/-- R22: the allocator's result after reset. -/
def AllocResult.initial : AllocResult := ⟨0, 0, 0, true, false⟩

/-- R152. -/
def MemberUnit.initial : MemberUnit := ⟨.config, .none, Roster.empty, [], none⟩

/-- R170. -/
def HaltUnit.initial : HaltUnit where
  halt := .none
  reasons := 0
  round := .none
  ackSet := 0
  acked := Vector.replicate 16 none
  missing := 0
  roundTimer := none
  settle := 0
  ackPending := false
  ploss := false
  plossTaken := false
  plossHeld := 0
  plossDue := none

/-- R132. -/
def BusUnit.initial : BusUnit := ⟨[], none, 0, 0, 15, none, false, .closed⟩

/-- The machine right after reset: RST# released with every strap pin low (log 2, the model's choice) and
the field inputs at rest (log 33, the model's choice); every other field
as R19, R22, R67, R86, R100, R113, R132, R152, R170, R181 and R200 state. -/
def State.reset : State where
  pending := []
  inReset := false
  straps := ⟨0, 0, false, false⟩
  pins := ⟨0, 0, false⟩
  clock := ⟨0, 0⟩
  port := Port.initial
  events := ⟨0, 0⟩
  site := ⟨false, 0, 0, false⟩
  ct := ClaimUnit.initial
  alloc := AllocResult.initial
  mu := MemberUnit.initial
  hu := HaltUnit.initial
  bus := BusUnit.initial
  rm := ⟨[], 0⟩
  chans := Vector.replicate 8 Channel.initial
  log := ⟨[], 0, 0⟩
  free := 0

end Sys2Proof.Machine
end

