-- ==== Sys2Proof/Machine/Operands.lean ====
section
/-!
DEFINITION. The operand forms: the host's command codes and argument counts (11.3, 12.5), the checks and readings of
argument bytes (R45, R65, R68, R191, R193, R201), the codes of 12.2, and the readings of frame payload fields.
-/

namespace Sys2Proof.Machine

/-! ### Host commands -/

/-- The 23 commands of the host (11.3). -/
inductive HostCommand where
  | siteConfig | channelConfig | join | leave | submit | loadRun | cancel | queryRun | readChannel | clearFault
  | readLog | peekLog | logStatus | setFlags | setGauge | halt | release | purge | readRoster | readEntry | readSite
  | stationStatus | readEvents
  deriving DecidableEq, Repr

/-- 12.5: the command a command byte names; none for every other byte (BAD_COMMAND, R188). -/
def decodeCommand (b : Byte) : Option HostCommand :=
  match b.toNat with
  | 0x01 => some .siteConfig
  | 0x02 => some .channelConfig
  | 0x03 => some .join
  | 0x04 => some .leave
  | 0x10 => some .submit
  | 0x11 => some .loadRun
  | 0x12 => some .cancel
  | 0x13 => some .queryRun
  | 0x20 => some .readChannel
  | 0x21 => some .clearFault
  | 0x30 => some .readLog
  | 0x31 => some .peekLog
  | 0x32 => some .logStatus
  | 0x40 => some .setFlags
  | 0x41 => some .setGauge
  | 0x42 => some .halt
  | 0x43 => some .release
  | 0x44 => some .purge
  | 0x50 => some .readRoster
  | 0x51 => some .readEntry
  | 0x52 => some .readSite
  | 0x53 => some .stationStatus
  | 0x54 => some .readEvents
  | _ => none

/-- 11.3: how many argument bytes a command takes. -/
def HostCommand.argCount : HostCommand → Nat
  | .siteConfig => 3
  | .channelConfig => 11
  | .submit => 15
  | .loadRun => 26
  | .cancel => 1
  | .queryRun => 1
  | .readChannel => 2
  | .clearFault => 1
  | .peekLog => 1
  | .setFlags => 4
  | .setGauge => 2
  | .purge => 1
  | .readEntry => 2
  | .join | .leave | .readLog | .logStatus | .halt | .release | .readRoster | .readSite | .stationStatus
  | .readEvents => 0

/-- R183: the argument count of the command a byte names; 0 for a byte naming none. -/
def argCountOf (b : Byte) : Nat :=
  match decodeCommand b with
  | some k => k.argCount
  | none => 0

/-- The port waits for the execution of the host command `k` (R184). -/
def Port.awaits (p : Port) (k : HostCommand) : Bool :=
  p.state == .executing && p.command.bind decodeCommand == some k

/-- The port waits for the execution of a byte that names no command (R188). -/
def Port.awaitsUnknown (p : Port) : Bool :=
  p.state == .executing && (p.command.bind decodeCommand).isNone

/-- Argument byte `i`, counted from 0. -/
def Port.arg (p : Port) (i : Nat) : Byte := p.args.getD i 0

/-! ### Ranges and small fields -/

/-- A channel number from a byte; none above 7. -/
def toChan (b : Byte) : Option Chan := if h : b.toNat < 8 then some ⟨b.toNat, h⟩ else none

/-- A station address from a byte; none above 15. -/
def toAddr (b : Byte) : Option Addr := if h : b.toNat < 16 then some ⟨b.toNat, h⟩ else none

/-- A level from a byte; none above 3. -/
def toLevel (b : Byte) : Option Level := if h : b.toNat < 4 then some ⟨b.toNat, h⟩ else none

/-- A demand from a byte; none for 0 and above 63. -/
def toDemand (b : Byte) : Option Nat := if 1 ≤ b.toNat ∧ b.toNat ≤ 63 then some b.toNat else none

/-- R201: a yes/no byte; none for any value but 0 and 1. -/
def toYesNo (b : Byte) : Option Bool :=
  match b.toNat with
  | 0 => some false
  | 1 => some true
  | _ => none

/-- A time in seconds from a byte, within its range. -/
def toSeconds (low high : Nat) (b : Byte) : Option Nat := if low ≤ b.toNat ∧ b.toNat ≤ high then some b.toNat else none

/-- Three digit nibbles as a gauge value; none if one is not a decimal digit. -/
def toGauge (digits : BitVec 12) : Option Gauge :=
  match toDigit (digits.extractLsb' 8 4), toDigit (digits.extractLsb' 4 4), toDigit (digits.extractLsb' 0 4) with
  | some h, some t, some u => some ⟨h, t, u⟩
  | _, _, _ => none

/-- The three digits of a gauge value as nibbles. -/
def Gauge.nibbles (g : Gauge) : BitVec 12 :=
  BitVec.ofNat 4 g.hundreds.val ++ BitVec.ofNat 4 g.tens.val ++ BitVec.ofNat 4 g.units.val

/-- The three-digit number of a gauge, for the comparisons of R101. -/
def Gauge.number (g : Gauge) : Nat := 100 * g.hundreds.val + 10 * g.tens.val + g.units.val

/-- The gauge field two bytes spell: presence nibble, then three digits (R201). -/
def gaugeFieldOf (high low : Byte) : GaugeField := ⟨high.extractLsb' 4 4, high.extractLsb' 0 4 ++ low⟩

/-- R201, R191, R11: what a gauge field says: `some g` names a gauge value or absent, `none` is a presence nibble
other than 0 and 1, or a non-decimal digit under presence 1. The digits are not examined when it names absent. -/
def readGauge (f : GaugeField) : Option (Option Gauge) :=
  match f.presence.toNat with
  | 0 => some none
  | 1 => (toGauge f.digits).map some
  | _ => none

/-- The two bytes of a gauge in a response: absent is written as 0 throughout (R201). -/
def gaugeBytes (g : Option Gauge) : List Byte :=
  match g with
  | none => [0, 0]
  | some v => bytes16 ((1#4 ++ v.nibbles : BitVec 16))

/-! ### Run arguments (R45, R65, 12.3) -/

/-- The arguments of SUBMIT and LOAD_RUN that the third admission check examines, as read. -/
structure RunArgs where
  tag : BitVec 16
  level : Level
  demand : Nat
  target : Decimal 6
  delivered : Decimal 7
  preemptions : Nat
  openSeconds : Nat
  submitTime : BitVec 32
  gate : Option Gate
  stopFlag : Option (Fin 16)
  timeLimit : Option Nat
  deriving DecidableEq, Repr

/-- 12.2: the comparison code of a GAUGE gate. -/
def toComparison (n : BitVec 4) : Option Comparison :=
  match n.toNat with
  | 0 => some .eq
  | 1 => some .ne
  | 2 => some .ge
  | 3 => some .lt
  | _ => none

/-- R45, R201: the gate of a run from its four bytes: `none` is BAD_ARG, `some none` no gate. Bytes that the named kind
does not use are not examined. -/
def readGate (kind operand high low : Byte) : Option (Option Gate) :=
  match (kind.extractLsb' 4 4).toNat with
  | 0 => some none
  | 1 => (toAddr operand).map fun n => some (.flagSet n)
  | 2 => (toAddr operand).map fun n => some (.flagClear n)
  | 3 =>
    match toAddr operand, toComparison (kind.extractLsb' 0 4), gaugeFieldOf high low with
    | some s, some cmp, ⟨pad, digits⟩ => if pad = 0 then (toGauge digits).map fun v => some (.gauge s cmp v) else none
    | _, _, _ => none
  | 4 => if operand = 0 then none else some (some (.after operand.toNat))
  | _ => none

/-- R201: a stop flag byte: FFh no stop flag, 0–15 a flag, anything else BAD_ARG. -/
def readStopFlag (b : Byte) : Option (Option (Fin 16)) :=
  if b = 0xFF then some none else (toAddr b).map some

/-- R201: a time limit: 0 none, 1–999 minutes, above BAD_ARG. -/
def readTimeLimit (high low : Byte) : Option (Option Nat) :=
  let n := (word16 high low).toNat
  if n = 0 then some none else if n ≤ 999 then some (some n) else none

/-- R65: with a time limit present, open seconds are below the limit in minutes times 60. -/
def belowLimit (openSeconds : Nat) (limit : Option Nat) : Bool :=
  match limit with
  | none => true
  | some m => decide (openSeconds < m * 60)

/-- R45 and R65: reads bytes 1–26 of the run context (12.3, here counted from 0); none is BAD_ARG. The channel byte is
not examined here (R46, check 1). -/
def readRunContext (ctx : List Byte) : Option RunArgs :=
  let at' (i : Nat) : Byte := ctx.getD i 0
  match toLevel (at' 3), toDemand (at' 4), readDecimal 6 [at' 5, at' 6, at' 7],
      readDecimal 7 [at' 8, at' 9, at' 10, at' 11], readGate (at' 19) (at' 20) (at' 21) (at' 22),
      readStopFlag (at' 23), readTimeLimit (at' 24) (at' 25) with
  | some level, some demand, some target, some delivered, some gate, some stopFlag, some timeLimit =>
    let openSeconds := (word16 (at' 13) (at' 14)).toNat
    if target ≠ Decimal.zero 6 ∧ ¬ reaches delivered target ∧ belowLimit openSeconds timeLimit then
      some ⟨word16 (at' 0) (at' 1), level, demand, target, delivered, (at' 12).toNat, openSeconds,
        word32 (at' 15) (at' 16) (at' 17) (at' 18), gate, stopFlag, timeLimit⟩
    else none
  | _, _, _, _, _, _, _ => none

/-- 12.3: the fifteen argument bytes of SUBMIT are bytes 1–8 and 20–26 of the context; delivered, preemptions, open
seconds and submit time are not carried and stand as 0. -/
def submitContext (args : List Byte) : List Byte := args.take 8 ++ List.replicate 11 0 ++ args.drop 8

/-! ### Configuration arguments (R68) -/

/-- R68 check 3: the settings of CHANNEL_CONFIG: `none` is BAD_ARG, `some none` makes the channel absent. -/
def readSettings (p : Port) : Option (Option ChannelSettings) :=
  match toYesNo (p.arg 1) with
  | none => none
  | some false => some none
  | some true =>
    match readDecimal 4 [p.arg 2, p.arg 3], toSeconds 1 30 (p.arg 4), toSeconds 1 30 (p.arg 5), toYesNo (p.arg 6),
        readDecimal 5 [p.arg 7, p.arg 8, p.arg 9], toSeconds 5 255 (p.arg 10) with
    | some quantum, some openTime, some closeTime, some endSwitch, some leakLimit, some noFlowTime =>
      if quantum ≠ Decimal.zero 4 ∧ leakLimit ≠ Decimal.zero 5 then
        some (some ⟨quantum, openTime, closeTime, endSwitch, leakLimit, noFlowTime⟩)
      else none
    | _, _, _, _, _, _ => none

/-! ### Codes (12.2) -/

/-- The phase code of a live phase. -/
def Phase.code : Phase → Nat
  | .asking => 1
  | .flowing => 2
  | .yielding => 3
  | .paused => 4
  | .stuck => 5

/-- The phase a code names; none for 0 (GONE) and for a code that names none of the five phases. -/
def toPhase (n : Nat) : Option Phase :=
  match n with
  | 1 => some .asking
  | 2 => some .flowing
  | 3 => some .yielding
  | 4 => some .paused
  | 5 => some .stuck
  | _ => none

/-- The code of a GONE cause. -/
def GoneCause.code : GoneCause → Nat
  | .complete => 1
  | .ended => 2
  | .withdrawn => 3

/-- The cause a code names. -/
def toCause (n : Nat) : Option GoneCause :=
  match n with
  | 1 => some .complete
  | 2 => some .ended
  | 3 => some .withdrawn
  | _ => none

/-- The code of a halt state. -/
def HaltState.code : HaltState → Nat
  | .none => 0
  | .halted => 1
  | .settling => 2

/-- R166: a state code that names none of NONE, HALTED and SETTLING is taken as HALTED. -/
def toHaltState (b : Byte) : HaltState :=
  match b.toNat with
  | 0 => .none
  | 2 => .settling
  | _ => .halted

/-- R156, R166, R201: reason codes naming none of the four reasons are ignored. -/
def toReasons (b : Byte) : BitVec 4 := b.extractLsb' 0 4

/-- The code of a round status. -/
def RoundStatus.code : RoundStatus → Nat
  | .none => 0
  | .opened => 1
  | .confirmed => 2
  | .unconfirmed => 3

/-- The code of a station state. -/
def StationState.code : StationState → Nat
  | .config => 0
  | .listening => 1
  | .synced => 2
  | .resync => 3
  | .leaving => 4
  | .isolated => 5
  | .clash => 6

/-- The code of an isolation cause. -/
def IsolationCause.code : IsolationCause → Nat
  | .none => 0
  | .selfDrop => 1
  | .readback => 2

/-- The code of a run state. -/
def RunState.code : RunState → Nat
  | .gated => 1
  | .queued => 2
  | .asking => 3
  | .flowing => 4
  | .closing _ => 5

/-- The code of a run's closing purpose; 0 outside CLOSING. -/
def RunState.purposeCode : RunState → Nat
  | .closing .preemptLocal => 1
  | .closing .revoked => 2
  | .closing .halt => 3
  | .closing .resync => 4
  | .closing .isolate => 5
  | .closing .leave => 6
  | .closing .ending => 7
  | _ => 0

/-- The code of an end result. -/
def EndResult.code : EndResult → Nat
  | .complete => 1
  | .cancelled => 2
  | .stopped => 3
  | .timeLimit => 4
  | .noFlow => 5

/-- The code of an end result, 0 when there is none. -/
def endResultCode : Option EndResult → Nat
  | none => 0
  | some r => r.code

/-- The code of a valve state. -/
def Valve.code : Valve → Nat
  | .closed => 0
  | .opening => 1
  | .opened => 2
  | .closing => 3
  | .stuck => 4

/-- The code of a comparison. -/
def Comparison.code : Comparison → Nat
  | .eq => 0
  | .ne => 1
  | .ge => 2
  | .lt => 3

/-- 12.3: the four gate bytes of a run context; unused bytes 0. -/
def gateBytes : Option Gate → List Byte
  | none => [0, 0, 0, 0]
  | some (.flagSet n) => [0x10, byteOf n.val, 0, 0]
  | some (.flagClear n) => [0x20, byteOf n.val, 0, 0]
  | some (.gauge s cmp v) => [byteOf (0x30 + cmp.code), byteOf s.val] ++ bytes16 (0#4 ++ v.nibbles : BitVec 16)
  | some (.after h) => [0x40, byteOf h, 0, 0]

/-- 12.5: the result field of the status byte. -/
def ResultCode.code : ResultCode → Nat
  | .none => 0
  | .ok => 1
  | .badCommand => 2
  | .badArg => 3
  | .wrongState => 4
  | .channelAbsent => 5
  | .channelFault => 6
  | .listFull => 7
  | .poolFull => 8
  | .logFull => 9
  | .noSuchRun => 10
  | .empty => 11
  | .notOrphan => 12
  | .inputAsserted => 13

end Sys2Proof.Machine
end

