-- ==== Sys2Proof/Machine/Update.lean ====
section
/-!
DEFINITION. One named update for each part of the state. Every operation writes the state through these; their laws are
in Sys2Proof/Laws/State.lean.
-/

namespace Sys2Proof.Machine

/-- `s` with its `inReset` replaced. -/
def State.setInReset (s : State) (v : Bool) : State := { s with inReset := v }

/-- `s` with its `straps` replaced. -/
def State.setStraps (s : State) (v : StrapPins) : State := { s with straps := v }

/-- `s` with its `pins` replaced. -/
def State.setPins (s : State) (v : FieldPins) : State := { s with pins := v }

/-- `s` with its `clock` replaced. -/
def State.setClock (s : State) (v : Clock) : State := { s with clock := v }

/-- `s` with its `port` replaced. -/
def State.setPort (s : State) (v : Port) : State := { s with port := v }

/-- `s` with its `events` replaced. -/
def State.setEvents (s : State) (v : Events) : State := { s with events := v }

/-- `s` with its `site` replaced. -/
def State.setSite (s : State) (v : SiteConfiguration) : State := { s with site := v }

/-- `s` with its `ct` replaced. -/
def State.setCt (s : State) (v : ClaimUnit) : State := { s with ct := v }

/-- `s` with its `alloc` replaced. -/
def State.setAlloc (s : State) (v : AllocResult) : State := { s with alloc := v }

/-- `s` with its `mu` replaced. -/
def State.setMu (s : State) (v : MemberUnit) : State := { s with mu := v }

/-- `s` with its `hu` replaced. -/
def State.setHu (s : State) (v : HaltUnit) : State := { s with hu := v }

/-- `s` with its `bus` replaced. -/
def State.setBus (s : State) (v : BusUnit) : State := { s with bus := v }

/-- `s` with its `rm` replaced. -/
def State.setRm (s : State) (v : RunUnit) : State := { s with rm := v }

/-- `s` with its `chans` replaced. -/
def State.setChans (s : State) (v : Vector Channel 8) : State := { s with chans := v }

/-- `s` with its `log` replaced. -/
def State.setLog (s : State) (v : LogUnit) : State := { s with log := v }

/-- `s` with its `free` replaced. -/
def State.setFree (s : State) (v : Nat) : State := { s with free := v }

end Sys2Proof.Machine
end

