-- ==== Sys2Proof/Machine/Flags.lean ====
section
/-!
DEFINITION. The event summary and what is computed from it: the raising of events (R195), LOG_NONEMPTY (R179), the
status byte (R187) and the attention outputs (R197).
-/

namespace Sys2Proof.Machine

/-- The twelve site-class events (11.5). -/
inductive SiteEvent where
  | haltEntered
  | haltConfirmed
  | haltUnconfirmed
  | haltReleased
  | rosterChanged
  | syncLost
  | syncRegained
  | capacityMismatch
  | viewMerged
  | freezeChanged
  | isolated
  | clash
  deriving DecidableEq, Repr

/-- The bit of a site-class event in `Events.site` (the order of the READ_EVENTS response, 12.5). -/
def SiteEvent.bit : SiteEvent → Nat
  | .haltEntered => 11
  | .haltConfirmed => 10
  | .haltUnconfirmed => 9
  | .haltReleased => 8
  | .rosterChanged => 7
  | .syncLost => 6
  | .syncRegained => 5
  | .capacityMismatch => 4
  | .viewMerged => 3
  | .freezeChanged => 2
  | .isolated => 1
  | .clash => 0

/-- R195: to raise an event is to set its bit. -/
def State.raise (s : State) (e : SiteEvent) : State :=
  s.setEvents { s.events with site := s.events.site ||| BitVec.twoPow 12 e.bit }

/-- Raises an event when a condition holds. -/
def State.raiseIf (s : State) (p : Bool) (e : SiteEvent) : State := if p then s.raise e else s

/-- R77: sets the event bit FAULT_CHn. -/
def State.raiseFault (s : State) (c : Chan) : State :=
  s.setEvents { s.events with faultCh := s.events.faultCh ||| BitVec.twoPow 8 c.val }

/-- Whether the bit of a site-class event is set. -/
def State.hasEvent (s : State) (e : SiteEvent) : Bool := s.events.site.getLsbD e.bit

/-- R179: LOG_NONEMPTY, true while the record count is 1 or more. -/
def State.logNonempty (s : State) : Bool := !s.log.records.isEmpty

/-- R197: the run-class condition. -/
def State.runClass (s : State) : Bool := s.events.faultCh != 0 || s.logNonempty

/-- R197: the site-class condition. -/
def State.siteClass (s : State) : Bool := s.events.site != 0

/-- R197, R202: ATTN0# is low. Both outputs are high while RST# is low. -/
def State.attn0Low (s : State) : Bool :=
  !s.inReset && if s.straps.atm then s.runClass else (s.runClass || s.siteClass)

/-- R197, R202: ATTN1# is low. -/
def State.attn1Low (s : State) : Bool := !s.inReset && s.straps.atm && s.siteClass

/-- R187: READY. -/
def Port.ready (p : Port) : Bool := p.state != .executing

/-- R187: MORE. -/
def Port.more (p : Port) : Bool := p.state == .done && !p.response.isEmpty

/-- R187: the result field: NONE except in DONE. -/
def Port.resultField (p : Port) : ResultCode := if p.state == .done then p.result else .none

/-- R185: the byte at the front of the response in DONE; 0 when no byte remains, in any port state. -/
def Port.frontByte (p : Port) : Byte := if p.state == .done then p.response.headD 0 else 0

/-- R187, 12.5: the status byte: READY, MORE, ATTN, SEQUENCE in bits 7–4, the result in bits 3–0. -/
def State.statusByte (s : State) : Byte :=
  BitVec.ofBool s.port.ready ++ BitVec.ofBool s.port.more ++ BitVec.ofBool (s.runClass || s.siteClass) ++
    BitVec.ofBool s.port.sequence ++ BitVec.ofNat 4 s.port.resultField.code

/-- R196, 12.5: the three bytes of the READ_EVENTS response. -/
def State.eventBytes (s : State) : List Byte :=
  [s.events.faultCh, s.events.site.extractLsb' 4 8,
    s.events.site.extractLsb' 0 4 ++ 0#3 ++ BitVec.ofBool s.logNonempty]

end Sys2Proof.Machine
end

