-- ==== Sys2Proof/Machine/Frames.lean ====
section
/-!
DEFINITION. Frames as characters of the line: kinds and lengths (12.1), the CRC and the envelope checks of the receive
checker (R115, R122).
-/

namespace Sys2Proof.Machine

/-- 12.1: the SYNC value. -/
def syncChar : Byte := 0xC5

/-- 12.1: the KIND of a frame. -/
def kindOf : FrameBody → Nat
  | .beat _ => 1
  | .claim .. => 2
  | .flag .. => 3
  | .gauge _ => 4
  | .drop _ => 5
  | .purge _ => 6
  | .leave => 7
  | .halt _ => 8
  | .haltAck _ => 9
  | .release => 10

/-- R122: a BEAT with an orphan count above 15 or an entry count above 8 has a wrong length. -/
def bodyFits (b : FrameBody) : Bool :=
  match b with
  | .beat beat => decide (beat.orphans.length ≤ 15) && decide (beat.entries.length ≤ 8)
  | _ => true

/-! ### Sending -/

/-- The four nibbles of the rotation pointers, level 0 highest. -/
def pointerBytes (p : Vector Addr 4) : List Byte :=
  [BitVec.ofNat 4 p[0].val ++ BitVec.ofNat 4 p[1].val, BitVec.ofNat 4 p[2].val ++ BitVec.ofNat 4 p[3].val]

/-- The two bytes of a gauge field. -/
def gaugeFieldBytes (g : GaugeField) : List Byte := bytes16 (g.presence ++ g.digits : BitVec 16)

/-- An orphan record of a BEAT in its three bytes. -/
def orphanItemBytes (o : OrphanItem) : List Byte := o.station :: bytes16 o.load

/-- An entry item of a BEAT in its four bytes. -/
def entryItemBytes (e : EntryItem) : List Byte := [e.channel, e.level, e.demand, e.latched ++ e.phase]

/-- 12.1: the payload of a frame. -/
def payloadBytes (body : FrameBody) : List Byte :=
  match body with
  | .beat b =>
    [b.weight, b.cap, b.capacity] ++ gaugeFieldBytes b.gauge ++ bytes16 b.flags ++ pointerBytes b.pointers ++
      [b.haltState, b.reasons, byteOf b.orphans.length] ++ b.orphans.flatMap orphanItemBytes ++
      [byteOf b.entries.length] ++ b.entries.flatMap entryItemBytes
  | .claim channel level demand phase cause => [channel, level, demand, phase, cause]
  | .flag set clear => bytes16 set ++ bytes16 clear
  | .gauge g => gaugeFieldBytes g
  | .drop t => [t]
  | .purge t => [t]
  | .leave => []
  | .halt r => [r]
  | .haltAck m => [m]
  | .release => []

/-- The data bits of a character in the order they are sent, least significant first (R114). -/
def charBits (b : Byte) : List Bool := (List.range 8).map fun i => b.getLsbD i

/-- R122: one bit through the CRC register of polynomial x^16 + x^15 + x^2 + 1; bit i of the register is the
coefficient of x^i. -/
def crcStep (reg : BitVec 16) (bit : Bool) : BitVec 16 :=
  if (reg.getLsbD 15 ^^ bit) = true then (reg <<< 1) ^^^ 0x8005#16 else reg <<< 1

/-- R122: the CRC over characters in the order they are sent, from an initial value of 0. -/
def crcOf (chars : List Byte) : BitVec 16 := (chars.flatMap charBits).foldl crcStep 0

/-- R122: the two CRC characters; the coefficient of x^15 is data bit 0 of the first, that of x^0 data bit 7 of the
second. -/
def crcBytes (crc : BitVec 16) : List Byte := [(crc.extractLsb' 8 8).reverse, (crc.extractLsb' 0 8).reverse]

/-- The characters of a frame from KIND to the end of the payload: those the CRC covers. -/
def coveredChars (f : Frame) : List Byte :=
  [BitVec.ofNat 4 (kindOf f.body) ++ BitVec.ofNat 4 f.sender.val, BitVec.ofNat 4 f.seq.val ++ 0#4,
    byteOf (payloadBytes f.body).length] ++ payloadBytes f.body

/-- 12.1: a frame as the characters on the line. -/
def frameChars (f : Frame) : List Byte := syncChar :: coveredChars f ++ crcBytes (crcOf (coveredChars f))

/-! ### Levels of the line (R114); true is recessive, false dominant -/

/-- R114: a character as levels, one for each bit time: a dominant start bit, the eight data bits, a recessive stop bit. -/
def charLevels (b : Byte) : List Bool := false :: charBits b ++ [true]

/-- R114: the levels the transmit engine drives for a frame: its characters back to back. -/
def frameLevels (f : Frame) : List Bool := (frameChars f).flatMap charLevels

/-- The byte of eight data bits, least significant first. -/
def byteOfBits (b0 b1 b2 b3 b4 b5 b6 b7 : Bool) : Byte :=
  BitVec.ofBool b7 ++ BitVec.ofBool b6 ++ BitVec.ofBool b5 ++ BitVec.ofBool b4 ++ BitVec.ofBool b3 ++
    BitVec.ofBool b2 ++ BitVec.ofBool b1 ++ BitVec.ofBool b0

/-- R114: the characters the receive checker takes from levels that hold no idle time, `recessive` being the level before
them: one at each dominant start bit that follows a recessive level; the stop bit is passed over unchecked; a character cut
short by the end of the levels is not taken. -/
def takeChars (recessive : Bool) : List Bool → List Byte
  | [] => []
  | l :: b0 :: b1 :: b2 :: b3 :: b4 :: b5 :: b6 :: b7 :: stop :: rest =>
    if recessive && !l then byteOfBits b0 b1 b2 b3 b4 b5 b6 b7 :: takeChars stop rest
    else takeChars l (b0 :: b1 :: b2 :: b3 :: b4 :: b5 :: b6 :: b7 :: stop :: rest)
  | _ :: _ => []

/-- R115: the line is idle: the last 11 bit times were recessive. -/
def lineIdle (levels : List Bool) : Bool := decide (11 ≤ (levels.reverse.takeWhile id).length)

/-! ### Receiving -/

/-- The nibbles of the rotation pointers from their two bytes. -/
def readPointers (a b : Byte) : Vector Addr 4 :=
  #v[(a.extractLsb' 4 4).toFin, (a.extractLsb' 0 4).toFin, (b.extractLsb' 4 4).toFin, (b.extractLsb' 0 4).toFin]

/-- `n` orphan records from the front of the bytes, with the bytes that follow. -/
def readOrphans : Nat → List Byte → Option (List OrphanItem × List Byte)
  | 0, bytes => some ([], bytes)
  | n + 1, s :: h :: l :: bytes => (readOrphans n bytes).map fun r => (⟨s, word16 h l⟩ :: r.1, r.2)
  | _ + 1, _ => none

/-- `n` entry items from the front of the bytes, with the bytes that follow. -/
def readEntries : Nat → List Byte → Option (List EntryItem × List Byte)
  | 0, bytes => some ([], bytes)
  | n + 1, c :: l :: d :: p :: bytes =>
    (readEntries n bytes).map fun r => (⟨c, l, d, p.extractLsb' 4 4, p.extractLsb' 0 4⟩ :: r.1, r.2)
  | _ + 1, _ => none

/-- The payload of a BEAT; none when its length is not the one its two counts give, or a count is too large (R122). -/
def readBeat (payload : List Byte) : Option BeatBody :=
  match payload with
  | w :: cap :: capacity :: gh :: gl :: fh :: fl :: pa :: pb :: halt :: reasons :: orphanCount :: rest =>
    if orphanCount.toNat ≤ 15 then
      match readOrphans orphanCount.toNat rest with
      | some (orphans, entryCount :: rest) =>
        if entryCount.toNat ≤ 8 then
          match readEntries entryCount.toNat rest with
          | some (entries, []) =>
            some ⟨w, cap, capacity, gaugeFieldOf gh gl, word16 fh fl, readPointers pa pb, halt, reasons, orphans,
              entries⟩
          | _ => none
        else none
      | _ => none
    else none
  | _ => none

/-- R122 checks 2 and 4: the payload read by its KIND; none for an unknown KIND or a wrong length. -/
def readPayload (kind : Nat) (payload : List Byte) : Option FrameBody :=
  match kind, payload with
  | 1, p => (readBeat p).map .beat
  | 2, [channel, level, demand, phase, cause] => some (.claim channel level demand phase cause)
  | 3, [a, b, c, d] => some (.flag (word16 a b) (word16 c d))
  | 4, [a, b] => some (.gauge (gaugeFieldOf a b))
  | 5, [t] => some (.drop t)
  | 6, [t] => some (.purge t)
  | 7, [] => some .leave
  | 8, [r] => some (.halt r)
  | 9, [m] => some (.haltAck m)
  | 10, [] => some .release
  | _, _ => none

/-- What the characters taken between two idle detections are (R115, R122). -/
inductive Received where
  /-- The first character does not hold SYNC. -/
  | notSync
  /-- The line became idle before a frame was complete. -/
  | fragment
  /-- A frame failed an envelope check. -/
  | error
  /-- A frame passed every envelope check. -/
  | frame (f : Frame)
  deriving DecidableEq, Repr

/-- R122: the envelope of a complete frame: its KIND and SENDER character, its third character, the characters from
the fifth to the end of the payload, and its two CRC characters. -/
def readEnvelope (kindSender third length : Byte) (payload crc : List Byte) : Received :=
  if third.extractLsb' 0 4 = 0 ∧ crc = crcBytes (crcOf ([kindSender, third, length] ++ payload)) then
    match readPayload (kindSender.extractLsb' 4 4).toNat payload with
    | some body => .frame ⟨(kindSender.extractLsb' 0 4).toFin, (third.extractLsb' 4 4).toFin, body⟩
    | none => .error
  else .error

/-- R115, R122: the receive checker over the characters since idle detection. Characters after the last of a frame are
not taken into any frame. A LENGTH above 96 fails the frame at that character. -/
def receiveChars (chars : List Byte) : Received :=
  match chars with
  | [] => .fragment
  | first :: rest =>
    if first = syncChar then
      match rest with
      | kindSender :: third :: length :: rest =>
        if 96 < length.toNat then .error
        else if rest.length < length.toNat + 2 then .fragment
        else readEnvelope kindSender third length (rest.take length.toNat) ((rest.drop length.toNat).take 2)
      | _ => .fragment
    else .notSync

end Sys2Proof.Machine
end

