-- ==== Sys2Proof/Machine/Tables.lean ====
section
/-!
DEFINITION. Access to the parts of the state that are rows of like things: channels, slots of the claim table, roster
records, and sets of addresses held as sixteen bits.
-/

namespace Sys2Proof.Machine

/-- The addresses in ascending order. -/
def allAddrs : List Addr := [0, 1, 2, 3, 4, 5, 6, 7, 8, 9, 10, 11, 12, 13, 14, 15]

/-- The channels in ascending order. -/
def allChans : List Chan := [0, 1, 2, 3, 4, 5, 6, 7]

/-- The levels, highest priority first. -/
def allLevels : List Level := [0, 1, 2, 3]

/-- A vector with every element replaced by its image. -/
def mapVec {α β : Type} {n : Nat} (f : α → β) (v : Vector α n) : Vector β n :=
  ⟨⟨v.toList.map f⟩, by simp⟩

/-! ### Channels -/

/-- Channel `c`. -/
def State.chan (s : State) (c : Chan) : Channel := s.chans[c.val]

/-- `s` with channel `c` replaced. -/
def State.setChan (s : State) (c : Chan) (ch : Channel) : State := s.setChans (s.chans.set c.val ch)

/-- The channel is configured present (R68). -/
def Channel.present (ch : Channel) : Bool := ch.settings.isSome

/-- The channel has an end switch (R68). -/
def Channel.hasSwitch (ch : Channel) : Bool := ch.settings.any (·.endSwitch)

/-- R77: some fault kind is held. -/
def Channel.inFault (ch : Channel) : Bool := ch.faults.leak || ch.faults.dry || ch.faults.stuck

/-- R70: the valve is OPENING or OPEN, so VDRVn is on. -/
def Valve.driven : Valve → Bool
  | .opening => true
  | .opened => true
  | _ => false

/-- R159, R150: the valve is OPENING, OPEN or CLOSING. -/
def Valve.moving : Valve → Bool
  | .opening => true
  | .opened => true
  | .closing => true
  | _ => false

/-- R159, R150: no present channel has its valve OPENING, OPEN or CLOSING. -/
def State.settled (s : State) : Bool := allChans.all fun c => !((s.chan c).present && (s.chan c).valve.moving)

/-- R147: every present channel's valve is CLOSED. -/
def State.allClosed (s : State) : Bool := allChans.all fun c => !(s.chan c).present || (s.chan c).valve == .closed

/-- R159: the stuck-channel mask: the channels whose valve is STUCK. -/
def State.stuckMask (s : State) : Byte :=
  allChans.foldl (fun m c => if (s.chan c).valve = .stuck then m ||| BitVec.twoPow 8 c.val else m) 0

/-- R202, R70: the output VDRVn; low while RST# is low. -/
def State.vdrv (s : State) (c : Chan) : Bool := !s.inReset && (s.chan c).valve.driven

/-! ### Claim table -/

/-- The slot of key (a, c) (R1). -/
def slot (t : Table) (a : Addr) (c : Chan) : Option Entry := (t[a.val])[c.val]

/-- The table with the slot of key (a, c) replaced. -/
def setSlot (t : Table) (a : Addr) (c : Chan) (e : Option Entry) : Table :=
  t.set a.val ((t[a.val]).set c.val e)

/-- R2: the table with every entry of owner `a` removed. -/
def clearRow (t : Table) (a : Addr) : Table := t.set a.val (Vector.replicate 8 none)

/-- The table with every entry replaced by its image. -/
def mapEntries (f : Entry → Entry) (t : Table) : Table := mapVec (mapVec (Option.map f)) t

/-- The sum of `f` over the entries of one owner. -/
def sumRow (f : Entry → Nat) (r : Row) : Nat := (r.toList.map fun e => e.elim 0 f).sum

/-- The sum of `f` over every entry of the table. -/
def sumTable (f : Entry → Nat) (t : Table) : Nat := (t.toList.map (sumRow f)).sum

/-- `s` with the claim table replaced. -/
def State.setTable (s : State) (t : Table) : State := s.setCt { s.ct with table := t }

/-! ### Roster -/

/-- The roster record of address `a`. -/
def State.member (s : State) (a : Addr) : Option Member := s.mu.roster[a.val]

/-- Whether `a` is a member. -/
def State.isMember (s : State) (a : Addr) : Bool := (s.member a).isSome

/-- `s` with the roster record of address `a` replaced. -/
def State.setMember (s : State) (a : Addr) (m : Option Member) : State :=
  s.setMu { s.mu with roster := s.mu.roster.set a.val m }

/-- `s` with the record of address `a` changed by `f` if it is a member. -/
def State.modMember (s : State) (a : Addr) (f : Member → Member) : State := s.setMember a ((s.member a).map f)

/-- The station's own address (R198). -/
abbrev State.own (s : State) : Addr := s.straps.addr

/-! ### Sets of addresses -/

/-- Whether address `a` is in the set. -/
def inSet (m : BitVec 16) (a : Addr) : Bool := m.getLsbD a.val

/-- The set with `a` added. -/
def insertAddr (m : BitVec 16) (a : Addr) : BitVec 16 := m ||| BitVec.twoPow 16 a.val

/-- The set with `a` removed. -/
def removeAddr (m : BitVec 16) (a : Addr) : BitVec 16 := m &&& ~~~(BitVec.twoPow 16 a.val)

/-- The set of the addresses for which `p` holds. -/
def addrsWhere (p : Addr → Bool) : BitVec 16 := allAddrs.foldl (fun m a => if p a then insertAddr m a else m) 0

/-- The present roster as a set (R156, R164). -/
def State.rosterSet (s : State) : BitVec 16 := addrsWhere s.isMember

end Sys2Proof.Machine
end

