-- ==== Sys2Proof/Machine/Ops.lean ====
section
/-!
DEFINITION. The shared operations over runs, valves, the outbound set and the log: queueing (R128–R130), the derived
phase and the CLAIM it asks for (R81–R83), head selection (R44), closes (R50, R72, R73), ends and departures (R56–R62),
the grant and revocation notices (R35, R36).
-/

namespace Sys2Proof.Machine

/-! ### Guards -/

/-- R202, R182: while RST# is low no cycle is taken and no edge has an effect. -/
def State.whenReleased (s : State) (f : State → State) : State := if s.inReset then s else f s

/-! ### The outbound set (7.7) -/

/-- R81–R82, R128: in CONFIG, LISTENING, ISOLATED and CLASH the station queues no CLAIM. -/
def StationState.silent : StationState → Bool
  | .synced => false
  | .resync => false
  | .leaving => false
  | _ => true

/-- R128: whether the outbound set takes a frame in a station state. -/
def StationState.takes (st : StationState) (f : OutFrame) : Bool :=
  match st with
  | .synced => true
  | .resync => true
  | .leaving => true
  | .listening => f == .beat
  | _ => false

/-- R128: two frames have one key. -/
def OutFrame.sameKey : OutFrame → OutFrame → Bool
  | .claim c _, .claim d _ => c == d
  | .flag .., .flag .. => true
  | .gauge _, .gauge _ => true
  | .beat, .beat => true
  | .drop t, .drop u => t == u
  | .purge _, .purge _ => true
  | .leave, .leave => true
  | .halt _, .halt _ => true
  | .haltAck _, .haltAck _ => true
  | .release, .release => true
  | _, _ => false

/-- R129, R119: a pending frame combined with a newer one of its key. -/
def OutFrame.combine (older newer : OutFrame) : OutFrame :=
  match older, newer with
  | .flag ps pc, .flag ns nc => .flag ((ps &&& ~~~nc) ||| ns) ((pc &&& ~~~ns) ||| nc)
  | .halt r, .halt q => .halt (r ||| q)
  | .claim .., f => f
  | .gauge _, f => f
  | .haltAck _, f => f
  | .purge _, f => f
  | f, _ => f

/-- R129: a frame takes a new place as the newest, or is combined with the pending frame of its key in its place. -/
def insertOut (f : OutFrame) : List OutFrame → List OutFrame
  | [] => [f]
  | g :: gs => if g.sameKey f then g.combine f :: gs else g :: insertOut f gs

/-- R128, R129: queues a frame; in a station state that does not take it the request is discarded. -/
def State.enqueue (s : State) (f : OutFrame) : State :=
  if s.mu.station.takes f then s.setBus { s.bus with outbound := insertOut f s.bus.outbound } else s

/-- R117: the urgent kinds. -/
def OutFrame.urgent : OutFrame → Bool
  | .halt _ => true
  | .haltAck _ => true
  | .release => true
  | _ => false

/-- R130: the place of the front frame: the oldest urgent frame, or else the oldest frame. -/
def frontPlace (out : List OutFrame) : Nat := (out.findIdx? OutFrame.urgent).getD 0

/-- R119: a frame whose transmission failed goes back to its former place, combined there with a frame of its key that
was queued during the attempt. -/
def restoreOut (place : Nat) (f : OutFrame) (out : List OutFrame) : List OutFrame :=
  let others := out.filter fun g => !g.sameKey f
  let back := ((out.find? fun g => g.sameKey f).map f.combine).getD f
  others.take place ++ back :: others.drop place

/-! ### Runs of a channel (3.2) -/

/-- R43: ASKING, FLOWING and CLOSING are the states of a head. -/
def RunState.isHead : RunState → Bool
  | .gated => false
  | .queued => false
  | _ => true

/-- A run that is CLOSING, for whatever purpose. -/
def RunState.isClosing : RunState → Bool
  | .closing _ => true
  | _ => false

/-- R42: the run list of a channel, by level and within a level by admission. -/
def listOf (pool : List Run) (c : Chan) : List Run :=
  allLevels.flatMap fun l => pool.filter fun r => r.channel == c && r.level == l

/-- R42, R43: the head of a channel. -/
def headOf (pool : List Run) (c : Chan) : Option Run := pool.find? fun r => r.channel == c && r.state.isHead

/-- R44: the first run of the list that is not GATED. -/
def firstEligible (pool : List Run) (c : Chan) : Option Run := (listOf pool c).find? fun r => r.state != .gated

/-- The live run holding a handle. -/
def findRun (pool : List Run) (h : Nat) : Option Run := pool.find? fun r => r.handle == h

/-- The pool with the run holding a handle changed. -/
def updateRun (pool : List Run) (h : Nat) (f : Run → Run) : List Run :=
  pool.map fun r => if r.handle == h then f r else r

/-- `s` with the pool replaced. -/
def State.setPool (s : State) (pool : List Run) : State := s.setRm { s.rm with pool := pool }

/-- `s` with the run holding a handle changed. -/
def State.modRun (s : State) (h : Nat) (f : Run → Run) : State := s.setPool (updateRun s.rm.pool h f)

/-- `s` with the state of a run changed. -/
def State.setRunState (s : State) (h : Nat) (st : RunState) : State := s.modRun h fun r => { r with state := st }

/-- The head of a channel. -/
def State.head (s : State) (c : Chan) : Option Run := headOf s.rm.pool c

/-- R76: the run to which a channel credits pulses. -/
def State.attributed (s : State) (c : Chan) : Option Run :=
  match (s.chan c).valve with
  | .opening => s.head c
  | .opened => s.head c
  | .closing => (s.head c).filter fun r => r.state.isClosing
  | .closed => none
  | .stuck => none

/-! ### The derived phase and CLAIM requests (4.4) -/

/-- R81, third and fourth lines: a closing valve announces the head it closes under, or the largest demand. -/
def deriveClosing (head : Option Run) : Claimed :=
  match head with
  | some r => if r.state.isClosing then ⟨.yielding, r.level, r.demand⟩ else ⟨.yielding, 3, 63⟩
  | none => ⟨.yielding, 3, 63⟩

/-- R81: the derived phase of a channel with its level and demand; none is GONE. -/
def State.derive (s : State) (c : Chan) : Option Claimed :=
  let ch := s.chan c
  if ch.present then
    match ch.valve with
    | .stuck => let v := ch.stuckValues.getD (3, 63); some ⟨.stuck, v.1, v.2⟩
    | .opening => (s.head c).map fun r => ⟨.flowing, r.level, r.demand⟩
    | .opened => (s.head c).map fun r => ⟨.flowing, r.level, r.demand⟩
    | .closing => some (deriveClosing (s.head c))
    | .closed =>
      if ch.inFault then none
      else (s.head c).map fun r =>
        ⟨if s.mu.station = .resync then .paused else .asking, r.level, r.demand⟩
  else none

/-- The announced record a CLAIM leaves (R82). -/
def ClaimContent.announces : ClaimContent → Announced
  | .live phase level demand => .live ⟨phase, level, demand⟩
  | .gone level _ => .gone (some level)

/-- R82: queues a CLAIM for a channel and sets its announced record; nothing while the station is silent. -/
def State.queueClaim (s : State) (c : Chan) (k : ClaimContent) : State :=
  if s.mu.station.silent then s
  else (s.enqueue (.claim c k)).setChan c { s.chan c with announced := k.announces }

/-- The level of an announced record (R83); of a GONE record that no CLAIM has left, a free level (log 19). -/
def Announced.levelFor (free : Nat) (c : Chan) : Announced → Level
  | .live k => k.level
  | .gone l => l.getD (Config.unstatedLevel free c)

/-- R82: compares the derivation of a channel with its announced record and queues a CLAIM when they differ. A GONE so
queued carries WITHDRAWN and the level of the announced record (R83). -/
def State.announce (s : State) (c : Chan) : State :=
  match s.derive c, (s.chan c).announced with
  | none, .gone _ => s
  | none, .live k => s.queueClaim c (.gone k.level .withdrawn)
  | some d, .gone _ => s.queueClaim c (.live d.phase d.level d.demand)
  | some d, .live k => if d = k then s else s.queueClaim c (.live d.phase d.level d.demand)

/-- R82, R84: the comparison on every channel. -/
def State.announceAll (s : State) : State := allChans.foldl State.announce s

/-- The content of the CLAIM that is pending for a channel. -/
def pendingClaim (out : List OutFrame) (c : Chan) : Option ClaimContent :=
  out.findSome? fun f =>
    match f with
    | .claim d k => if d = c then some k else none
    | _ => none

/-- R35, R36: queues a CLAIM with the current derivation whatever the announced record holds. A GONE carries the cause
and level of a GONE CLAIM still pending, or else WITHDRAWN and the level of the announced record (R83). -/
def State.queueCurrent (s : State) (c : Chan) : State :=
  match s.derive c with
  | some d => s.queueClaim c (.live d.phase d.level d.demand)
  | none =>
    match pendingClaim s.bus.outbound c with
    | some (.gone l cause) => s.queueClaim c (.gone l cause)
    | _ => s.queueClaim c (.gone ((s.chan c).announced.levelFor s.free c) .withdrawn)

/-! ### Head selection and closes (3.2, 3.4, 3.5, 4.2) -/

/-- R44 with no head: the first eligible run, if any, becomes head in ASKING. -/
def State.pickHead (s : State) (c : Chan) : State :=
  match firstEligible s.rm.pool c with
  | some r => s.setRunState r.handle .asking
  | none => s

/-- R72: the close timer's load in ms: the close time, or the confirmation limit of twice that with an end switch. -/
def Channel.closeLoad (ch : Channel) : Nat :=
  match ch.settings with
  | some set => 1000 * (if set.endSwitch then 2 * set.closeTime else set.closeTime)
  | none => 0

/-- R72: the effect of a close demand on the valve: from OPENING or OPEN to CLOSING, with the close timer loaded in
full; no change in any other state. -/
def Channel.beginClose (ch : Channel) : Channel :=
  if ch.valve.driven then
    { ch with valve := .closing, openTimer := none, noFlowTimer := none, closeTimer := some ch.closeLoad }
  else ch

/-- R73: the end switch confirms closure: it is configured, and its level as last taken is asserted. -/
def Channel.confirmed (ch : Channel) : Bool := ch.hasSwitch && ch.vsw == some true

/-- R73: the valve reaches CLOSED and the close timer stops. -/
def Channel.endClose (ch : Channel) : Channel := { ch with valve := .closed, closeTimer := none }

/-- R52: the run that was closing becomes QUEUED and head selection is carried out. -/
def State.requeue (s : State) (c : Chan) (h : Nat) : State := (s.setRunState h .queued).pickHead c

/-- R54: a FLOWING head is preempted: CLOSING for PREEMPT-LOCAL with its preemptions count raised, its valve closing;
an end switch already asserted completes the close at once (R73), and head selection follows. -/
def State.preempt (s : State) (c : Chan) (r : Run) : State :=
  let s1 := s.modRun r.handle fun q =>
    { q with state := .closing .preemptLocal, preemptions := min 255 (q.preemptions + 1) }
  let ch := (s1.chan c).beginClose
  if ch.valve = .closing ∧ ch.confirmed then (s1.setChan c ch.endClose).requeue c r.handle else s1.setChan c ch

/-- R44: head selection on a channel. -/
def State.headSelect (s : State) (c : Chan) : State :=
  match s.head c with
  | none => s.pickHead c
  | some a =>
    match a.state, firstEligible s.rm.pool c with
    | .asking, some r =>
      if r.handle = a.handle then s else (s.setRunState a.handle .queued).setRunState r.handle .asking
    | .flowing, some r => if r.handle = a.handle then s else s.preempt c a
    | _, _ => s

/-- Head selection on each of several channels. -/
def State.headSelectAll (s : State) (cs : List Chan) : State := cs.foldl State.headSelect s

/-! ### Departures (3.6, chapter 10) -/

/-- R172: the completion record of a run at its departure. A run that departs has an end result. -/
def completionRecord (r : Run) (notConfirmed : Bool) (now : BitVec 32) : LogRecord where
  handle := r.handle
  tag := r.tag
  channel := r.channel
  level := r.level
  result := r.endResult.getD .cancelled
  target := r.target
  delivered := r.delivered
  saturated := r.saturated
  closeNotConfirmed := notConfirmed
  preemptions := r.preemptions
  openSeconds := r.openSeconds
  submitTime := r.submitTime
  endTime := now

/-- R174: the completion record is placed as the newest, in the place of the run's reservation. -/
def State.appendRecord (s : State) (rec : LogRecord) : State :=
  s.setLog { s.log with records := s.log.records ++ [rec], reservations := s.log.reservations - 1 }

/-- A GATED run waits on handle `h` by its gate AFTER. -/
def waitsOn (h : Nat) (r : Run) : Bool := r.state == .gated && r.gate == some (.after h)

/-- R102: the gate of a run is satisfied and the run becomes QUEUED. -/
def passGate (r : Run) : Run := { r with gateSatisfied := true, state := .queued }

/-- The channels of the runs for which `p` holds, ascending, each once. -/
def channelsWhere (pool : List Run) (p : Run → Bool) : List Chan :=
  allChans.filter fun c => pool.any fun r => r.channel == c && p r

/-- R61 step 3: every GATED run waiting on the departed handle becomes QUEUED, with head selection on its channel. -/
def State.releaseWaiting (s : State) (h : Nat) : State :=
  (s.setPool (s.rm.pool.map fun r => if waitsOn h r then passGate r else r)).headSelectAll
    (channelsWhere s.rm.pool (waitsOn h))

/-- R62: the CLAIM queued at the departure of a run that was head. -/
def State.queueDeparture (s : State) (r : Run) : State :=
  let ch := s.chan r.channel
  match ch.valve, ch.inFault, s.head r.channel with
  | .closed, false, none =>
    s.queueClaim r.channel (.gone r.level (if r.endResult = some .complete then .complete else .ended))
  | .closed, false, some hd => s.queueClaim r.channel (.live .asking hd.level hd.demand)
  | .closed, true, none => s.queueClaim r.channel (.gone r.level .ended)
  | .closed, true, some _ => s.queueClaim r.channel (.gone r.level .withdrawn)
  | .closing, _, _ => s.queueClaim r.channel (.live .yielding 3 63)
  | .stuck, _, _ => let v := ch.stuckValues.getD (3, 63); s.queueClaim r.channel (.live .stuck v.1 v.2)
  | _, _, _ => s

/-- R61 steps 1 and 2: the run leaves the pool and its completion record goes to the log. -/
def State.removeRun (s : State) (r : Run) (notConfirmed : Bool) : State :=
  (s.setPool (s.rm.pool.eraseP fun q => q.handle == r.handle)).appendRecord
    (completionRecord r notConfirmed s.clock.seconds)

/-- R61: the departure of the live run holding a handle. -/
def State.depart (s : State) (h : Nat) (notConfirmed : Bool) : State :=
  match findRun s.rm.pool h with
  | none => s
  | some r =>
    let s1 := ((s.removeRun r notConfirmed).releaseWaiting h).headSelect r.channel
    if r.state.isHead then s1.queueDeparture r else s1

/-! ### Close completion and ends (3.4, 3.6, 4.2) -/

/-- R73, R52, R61: the close of a channel completes: the valve is CLOSED; a head CLOSING for ENDING departs, any other
CLOSING head becomes QUEUED and head selection is carried out. -/
def State.completeClose (s : State) (c : Chan) : State :=
  let s1 := s.setChan c (s.chan c).endClose
  match s1.head c with
  | some r =>
    match r.state with
    | .closing .ending => s1.depart r.handle false
    | .closing _ => s1.requeue c r.handle
    | _ => s1
  | none => s1

/-- R50, R72, R73: a close demand with a purpose on a channel whose head is FLOWING; no effect on any other. -/
def State.demandClose (s : State) (c : Chan) (p : Purpose) : State :=
  match s.head c with
  | some r =>
    if r.state = .flowing then
      let s1 := s.setRunState r.handle (.closing p)
      let ch := (s1.chan c).beginClose
      let s2 := s1.setChan c ch
      if ch.valve = .closing ∧ ch.confirmed then s2.completeClose c else s2
    else s
  | none => s

/-- R50, R66: a station-wide close demand: every channel whose head is FLOWING. -/
def State.closeAll (s : State) (p : Purpose) : State := allChans.foldl (fun s c => s.demandClose c p) s

/-- R56–R60, R51: a live run takes an end. A run that already has an end result is not changed. -/
def State.endRun (s : State) (h : Nat) (result : EndResult) : State :=
  match findRun s.rm.pool h with
  | none => s
  | some r =>
    if r.endResult.isSome then s
    else
      let s1 := s.modRun h fun q => { q with endResult := some result }
      match r.state with
      | .gated => s1.depart h false
      | .queued => s1.depart h false
      | .asking => s1.depart h false
      | .flowing => s1.demandClose r.channel .ending
      | .closing _ => s1.setRunState h (.closing .ending)

/-! ### Faults (4.3) -/

/-- R77: adds fault kinds to a channel; the first kind sets the event bit FAULT_CHn. -/
def State.addFault (s : State) (c : Chan) (f : Faults → Faults) : State :=
  let ch := s.chan c
  let s1 := if ch.inFault then s else s.raiseFault c
  s1.setChan c { ch with faults := f ch.faults }

/-! ### Notices of the allocator (2.7) -/

/-- R35: the tests a grant notice must pass for the owner to open. -/
def State.canOpen (s : State) (c : Chan) : Bool :=
  let ch := s.chan c
  s.mu.station == .synced && ch.present && !ch.inFault && ch.valve == .closed &&
    match s.head c, slot s.ct.table s.own c with
    | some r, some e => r.state == .asking && r.level == e.level && r.demand == e.demand
    | _, _ => false

/-- R71: the valve starts to open: VDRVn on, open timer loaded, unattributed volume and open-time accumulator at 0. -/
def Channel.beginOpen (ch : Channel) : Channel :=
  { ch with
    valve := .opening
    openTimer := ch.settings.map fun set => 1000 * set.openTime
    unattributed := Decimal.zero 7
    accumulator := 0 }

/-- R35, R71, R109: a grant notice: the head becomes FLOWING and its valve OPENING, or a CLAIM with the current
derivation is queued. -/
def State.grantNotice (s : State) (c : Chan) : State :=
  if s.canOpen c then
    match s.head c with
    | some r => ((s.setRunState r.handle .flowing).setChan c (s.chan c).beginOpen).announce c
    | none => s
  else s.queueCurrent c

/-- R36, R49: a revocation notice: the FLOWING head becomes CLOSING for REVOKED and a CLAIM is queued. -/
def State.revocationNotice (s : State) (c : Chan) : State := (s.demandClose c .revoked).queueCurrent c

end Sys2Proof.Machine
end

