-- ==== Sys2Proof/Machine/Gates.lean ====
section
/-!
DEFINITION. The gate evaluator (chapter 6): the tests of gates and the evaluation of the station's runs.
-/

namespace Sys2Proof.Machine

/-- R101: the gauge compared with the value of the gate. -/
def Comparison.holds (cmp : Comparison) (gauge value : Gauge) : Bool :=
  match cmp with
  | .eq => gauge.number == value.number
  | .ne => gauge.number != value.number
  | .ge => decide (value.number ≤ gauge.number)
  | .lt => decide (gauge.number < value.number)

/-- R101: site flag `n` is set in the station's copy. -/
def State.flag (s : State) (n : Fin 16) : Bool := s.ct.flags.getLsbD n.val

/-- R101: whether a gate is satisfied against the state as it stands. -/
def State.gateHolds (s : State) (g : Gate) : Bool :=
  match g with
  | .flagSet n => s.flag n
  | .flagClear n => !s.flag n
  | .gauge a cmp v => (s.member a).any fun m => m.gauge.any fun x => cmp.holds x v
  | .after h => (findRun s.rm.pool h).isNone

/-- R101: a run without a gate, or whose gate is satisfied. -/
def State.gateOpen (s : State) (g : Option Gate) : Bool := g.all s.gateHolds

/-- R108: the stop flag of a run is present and set in the station's copy. -/
def State.stopSet (s : State) (flag : Option (Fin 16)) : Bool := flag.any s.flag

/-- R104 stage 1: the live runs whose stop flag is set and which have no end result, newest first. -/
def State.stopping (s : State) : List Nat :=
  ((s.rm.pool.filter fun r => s.stopSet r.stopFlag && r.endResult.isNone).map Run.handle).reverse

/-- R104 stage 1: the stop watch. -/
def State.stopWatch (s : State) : State := s.stopping.foldl (fun s h => s.endRun h .stopped) s

/-- R104 stage 2: a GATED run whose gate is satisfied. -/
def State.passes (s : State) (r : Run) : Bool := r.state == .gated && s.gateOpen r.gate

/-- R104 stages 2 and 3: the gate test, and head selection once on each channel that gained a QUEUED run. -/
def State.gateTest (s : State) : State :=
  (s.setPool (s.rm.pool.map fun r => if s.passes r then passGate r else r)).headSelectAll
    (channelsWhere s.rm.pool s.passes)

/-- R104: one evaluation. -/
def State.evaluate (s : State) : State := s.stopWatch.gateTest

/-- An evaluation when it is called for (R103). -/
def State.evaluateIf (s : State) (p : Bool) : State := if p then s.evaluate else s

end Sys2Proof.Machine
end

