-- ==== Sys2Proof/Machine/Allocation.lean ====
section
/-!
DEFINITION. The allocator (chapter 2): effective capacity, candidate order, target set, transient load, drain condition,
latching, and the notices to the station's own channels.
-/

namespace Sys2Proof.Machine

/-- A key of the claim table. -/
abbrev Key := Addr × Chan

/-- R24: a candidate that is committed: FLOWING, or ASKING with its latched mark. -/
def Entry.committed (e : Entry) : Bool :=
  match e.phase with
  | .flowing => true
  | .asking => e.latched
  | _ => false

/-- R24: a candidate that is uncommitted: ASKING without its latched mark. -/
def Entry.uncommitted (e : Entry) : Bool := e.phase == .asking && !e.latched

/-- R23: the demand an entry withdraws from the effective capacity: that of a STUCK entry. -/
def Entry.stuckDemand (e : Entry) : Nat := if e.phase = .stuck then e.demand else 0

/-- R23: the effective capacity; a result below 0 is taken as 0. -/
def effectiveCapacity (view : Nat) (t : Table) (orphans : List Orphan) : Nat :=
  view - sumTable Entry.stuckDemand t - (orphans.map Orphan.load).sum

/-- R26: the channels of one owner with an entry of a class at a level, ascending. -/
def channelsOf (r : Row) (l : Level) (cls : Entry → Bool) : List Chan :=
  allChans.filter fun c => (r[c.val]).any fun e => e.level == l && cls e

/-- R26 step 1: the sixteen addresses ascending from a rotation pointer, wrapping from 15 to 0. -/
def addressesFrom (p : Addr) : List Addr := allAddrs.map fun i => p + i

/-- R26 step 2: what a member contributes to round `k` (from 0): its candidates not yet taken, up to its weight. -/
def contribution (k : Nat) (weight : Nat) (cs : List Chan) : List Chan := (cs.drop (k * weight)).take weight

/-- R26: the weighted rotation order of one class of candidates at a level. A member has at most 8 candidates and a
weight of at least 1, so eight rounds take every one. -/
def rotationOrder (t : Table) (roster : Roster) (p : Addr) (l : Level) (cls : Entry → Bool) : List Key :=
  let queues := (addressesFrom p).filterMap fun a =>
    (roster[a.val]).map fun m => (a, m.weight, channelsOf (t[a.val]) l cls)
  (List.range 8).flatMap fun k => queues.flatMap fun q => (contribution k q.2.1 q.2.2).map fun c => (q.1, c)

/-- R25: the one order of the candidates: level by level, committed before uncommitted. -/
def candidateOrder (t : Table) (roster : Roster) (pointers : Vector Addr 4) : List Key :=
  allLevels.flatMap fun l =>
    rotationOrder t roster (pointers[l.val]) l Entry.committed ++
      rotationOrder t roster (pointers[l.val]) l Entry.uncommitted

/-- R27: the walk over the order: what remains of the effective capacity and of each member's cap, the candidates
placed so far, and their demand. -/
structure Walk where
  remaining : Nat
  caps : Vector Nat 16
  placed : List Key
  total : Nat
  deriving DecidableEq, Repr

/-- R27: one candidate of the walk: placed when its demand is no greater than both remainders. -/
def Walk.visit (t : Table) (w : Walk) (k : Key) : Walk :=
  match slot t k.1 k.2 with
  | none => w
  | some e =>
    if e.demand ≤ w.remaining ∧ e.demand ≤ w.caps[k.1.val] then
      ⟨w.remaining - e.demand, w.caps.set k.1.val (w.caps[k.1.val] - e.demand), w.placed ++ [k], w.total + e.demand⟩
    else w

/-- R27: the walk before its first candidate. -/
def Walk.start (effective : Nat) (roster : Roster) : Walk :=
  ⟨effective, mapVec (fun m => m.elim 0 Member.cap) roster, [], 0⟩

/-- R27: the walk over the whole order. -/
def targetWalk (effective : Nat) (t : Table) (roster : Roster) (pointers : Vector Addr 4) : Walk :=
  (candidateOrder t roster pointers).foldl (Walk.visit t) (Walk.start effective roster)

/-- R22: sets the placed mark of one entry. -/
def markPlaced (t : Table) (k : Key) : Table :=
  setSlot t k.1 k.2 ((slot t k.1 k.2).map fun e => { e with placed := true })

/-- R29: what an entry adds to the transient load. -/
def Entry.transientLoad (e : Entry) : Nat :=
  if e.placed then 0
  else
    match e.phase with
    | .flowing => e.demand
    | .yielding => e.demand
    | .asking => if e.latched then e.demand else 0
    | _ => 0

/-- R30: an entry that qualifies for a latched grant. -/
def Entry.qualifies (e : Entry) : Bool := e.placed && e.phase == .asking && !e.latched

/-- R30: sets the latched mark of a qualifying entry. -/
def Entry.latch (e : Entry) : Entry := if e.qualifies then { e with latched := true } else e

/-- R31: clears the latched mark. -/
def Entry.clearMark (e : Entry) : Entry := { e with latched := false }

/-- R32: freeze is in force exactly when the orphan list holds a record. -/
def State.frozen (s : State) : Bool := !s.mu.orphans.isEmpty

/-- R31: the table with every mark cleared when the orphan list is non-empty or the halt state is not NONE; every
placed mark of the last result is dropped (R22, R27). -/
def State.clearedTable (s : State) : Table :=
  mapEntries (fun e => { (if s.frozen || s.hu.halt != .none then e.clearMark else e) with placed := false }) s.ct.table

/-- What one recomputation computes: the table with its new marks, the channels of the station whose own entry it
latched, and the result (R22, R30, R34). -/
structure Allocation where
  table : Table
  granted : List Chan
  result : AllocResult
  deriving DecidableEq, Repr

/-- R21–R32: the recomputation proper, from the replicated state alone. -/
def State.allocate (s : State) : Allocation :=
  let t0 := s.clearedTable
  let effective := effectiveCapacity s.ct.capacityView t0 s.mu.orphans
  let walk := targetWalk effective t0 s.mu.roster s.ct.pointers
  let t1 := walk.placed.foldl markPlaced t0
  let transient := sumTable Entry.transientLoad t1
  let drain := decide (walk.total + transient ≤ effective)
  let latching := drain && s.hu.halt == .none && !s.frozen
  ⟨if latching then mapEntries Entry.latch t1 else t1,
    if latching then allChans.filter fun c => (slot t1 s.own c).any Entry.qualifies else [],
    ⟨effective, walk.total, transient, drain, s.frozen⟩⟩

/-- R34: the revocation condition of a channel: its head is FLOWING, and the own entry is absent or not placed. -/
def State.revoked (s : State) (c : Chan) : Bool :=
  (s.head c).any fun r => r.state == .flowing && !(slot s.ct.table s.own c).any Entry.placed

/-- R34: the notices of one recomputation, handed over channel by channel in ascending order (log 12). -/
def State.notices (s : State) (granted revoked : List Chan) : State :=
  allChans.foldl
    (fun s c => if c ∈ granted then s.grantNotice c else if c ∈ revoked then s.revocationNotice c else s) s

/-- R20: the recomputation: the table takes its marks, the result is replaced whole, and the notices follow. -/
def State.recompute (s : State) : State :=
  let a := s.allocate
  let s1 := (s.setTable a.table).setAlloc a.result
  s1.notices a.granted (allChans.filter s1.revoked)

end Sys2Proof.Machine
end

