-- ==== Sys2Proof/Machine/Halt.lean ====
section
/-!
DEFINITION. The halt unit (chapter 9): entries to HALTED, the ack round, acknowledging, release and settling, and the
halt part of a BEAT.
-/

namespace Sys2Proof.Machine

/-- 12.2: the reason COMMAND. -/
def reasonCommand : BitVec 4 := 1
/-- 12.2: the reason PRESSURE. -/
def reasonPressure : BitVec 4 := 2
/-- 12.2: the reason LEAK. -/
def reasonLeak : BitVec 4 := 4
/-- 12.2: the reason MERGE. -/
def reasonMerge : BitVec 4 := 8

/-- SYNCED, RESYNC and LEAVING: the states in which the station is a member of its own roster (R133), owes a HALT_ACK
(R159), queues HALT for its own causes (R154, R78) and DROP for silent members (R135), and takes a self-drop (R136). -/
def StationState.active : StationState → Bool
  | .synced => true
  | .resync => true
  | .leaving => true
  | _ => false

/-- The PLOSS# input counts and is asserted (R154, R163, R164). -/
def State.pressureLost (s : State) : Bool := s.straps.ple && s.hu.ploss

/-! ### The round (9.5) -/

/-- The acked set as a set of addresses. -/
def HaltUnit.ackedSet (h : HaltUnit) : BitVec 16 := addrsWhere fun a => (h.acked[a.val]).isSome

/-- The round record cleared, an OPEN round abandoned without result (R164, R169). -/
def HaltUnit.clearRound (h : HaltUnit) : HaltUnit :=
  { h with round := .none, ackSet := 0, acked := Vector.replicate 16 none, missing := 0, roundTimer := none }

/-- R162: the round ends when the acked set equals the ack set. -/
def State.testRound (s : State) : State :=
  if s.hu.round = .opened ∧ s.hu.ackedSet = s.hu.ackSet then
    if s.hu.missing = 0 then
      (s.setHu { s.hu with round := .confirmed, roundTimer := none }).raise .haltConfirmed
    else (s.setHu { s.hu with round := .unconfirmed, roundTimer := none }).raise .haltUnconfirmed
  else s

/-- R161: the removal of a member while the round is OPEN. -/
def State.roundRemoval (s : State) (a : Addr) : State :=
  if s.hu.round = .opened ∧ inSet s.hu.ackSet a ∧ (s.hu.acked[a.val]).isNone then
    (s.setHu { s.hu with ackSet := removeAddr s.hu.ackSet a, missing := insertAddr s.hu.missing a }).testRound
  else s

/-- R160: the acknowledgement of sender `a`. -/
def State.applyHaltAck (s : State) (a : Addr) (mask : Byte) : State :=
  if s.hu.round = .opened ∧ inSet s.hu.ackSet a ∧ (s.hu.acked[a.val]).isNone then
    (s.setHu { s.hu with acked := s.hu.acked.set a.val (some mask) }).testRound
  else s

/-- R162: the round timer expires on an OPEN round. -/
def State.expireRound (s : State) : State :=
  if s.hu.round = .opened then
    (s.setHu { s.hu with
      round := .unconfirmed
      missing := s.hu.missing ||| (s.hu.ackSet &&& ~~~s.hu.ackedSet)
      roundTimer := none }).raise .haltUnconfirmed
  else s

/-! ### Settling (9.6) -/

/-- R165: an empty settle set in SETTLING returns the halt state to NONE with the reasons emptied. -/
def State.testSettle (s : State) : State :=
  if s.hu.halt = .settling ∧ s.hu.settle = 0 then s.setHu { s.hu with halt := .none, reasons := 0 } else s

/-- R165: the sender of an applied BEAT, or a member that is removed, leaves the settle set, and the set is tested. -/
def State.settleRemoval (s : State) (a : Addr) : State :=
  (s.setHu { s.hu with settle := removeAddr s.hu.settle a }).testSettle

/-- R169: at an entry to ISOLATED or CLASH the own address, if it is in the settle set, leaves it as R165 states. That no test
is made here where it is not in the set is the model's choice (log 35); a member that leaves has had its test (tellHalt). -/
def State.settleOwn (s : State) : State := if inSet s.hu.settle s.own then s.settleRemoval s.own else s

/-- The halt unit is told that `a` has left the roster (R161, R165). -/
def State.tellHalt (s : State) (a : Addr) : State := (s.roundRemoval a).settleRemoval a

/-! ### Entering HALTED (9.3) -/

/-- What every entry to HALTED does, with the round record the entry leaves: HALT_ENTERED, the closes of R158, and ack
pending as R159 states. -/
def State.enterHalted (s : State) (reasons : BitVec 4) (withRound : HaltUnit → HaltUnit) : State :=
  let hu := withRound { s.hu with
    halt := .halted, reasons := reasons, settle := 0, ackPending := s.hu.ackPending || s.mu.station.active }
  (((s.setHu hu).testRound).raise .haltEntered).closeAll .halt

/-- R156 step 2: a new round over the present roster. -/
def HaltUnit.openRound (roster : BitVec 16) (h : HaltUnit) : HaltUnit :=
  { h with
    round := .opened
    ackSet := roster
    acked := Vector.replicate 16 none
    missing := 0
    roundTimer := some Config.roundMs }

/-- R156, R157: an applied HALT frame with its reasons. -/
def State.applyHalt (s : State) (reasons : BitVec 4) : State :=
  if s.hu.halt = .halted then s.setHu { s.hu with reasons := s.hu.reasons ||| reasons }
  else if s.mu.station = .listening then s.enterHalted reasons HaltUnit.clearRound
  else s.enterHalted reasons (HaltUnit.openRound s.rosterSet)

/-- R164: an applied RELEASE frame. -/
def State.applyRelease (s : State) : State :=
  if s.hu.halt = .halted then
    let settle := if s.mu.station = .listening then insertAddr s.rosterSet s.own else s.rosterSet
    let s1 := s.setHu { s.hu.clearRound with halt := .settling, ackPending := false, settle := settle }
    let s2 := s1.testSettle.raise .haltReleased
    if s2.pressureLost && s2.mu.station.active then s2.enqueue (.halt reasonPressure) else s2
  else s

/-! ### The halt part of a BEAT (9.7) -/

/-- R167: adoption of a BEAT's halt part. -/
def State.adoptHalt (s : State) (halt : HaltState) (reasons : BitVec 4) : State :=
  match halt with
  | .none =>
    (s.setHu { s.hu.clearRound with halt := .none, reasons := 0, settle := 0, ackPending := false }).raiseIf
      (s.hu.halt == .halted) .haltReleased
  | .halted =>
    if s.hu.halt = .halted then s.setHu { s.hu with reasons := reasons, settle := 0 }
    else s.enterHalted reasons HaltUnit.clearRound
  | .settling =>
    (s.setHu { s.hu.clearRound with
      halt := .settling
      reasons := reasons
      ackPending := false
      settle := insertAddr s.rosterSet s.own }).raiseIf (s.hu.halt == .halted) .haltReleased

/-- R168: merge of a BEAT's halt part. -/
def State.mergeHalt (s : State) (halt : HaltState) (reasons : BitVec 4) : State :=
  match s.hu.halt, halt with
  | .halted, .halted => s.setHu { s.hu with reasons := s.hu.reasons ||| reasons }
  | _, .halted =>
    if s.hu.halt = .halted then s else s.enterHalted (reasons ||| reasonMerge) HaltUnit.clearRound
  | _, _ => s

/-! ### Acknowledging (9.4) -/

/-- R159: with ack pending and no valve OPENING, OPEN or CLOSING, a HALT_ACK with the stuck-channel mask is queued and
ack pending is cleared. -/
def State.ackTest (s : State) : State :=
  if s.hu.ackPending ∧ s.settled then
    (s.enqueue (.haltAck s.stuckMask)).setHu { s.hu with ackPending := false }
  else s

end Sys2Proof.Machine
end

