-- ==== Sys2Proof/Machine/Membership.lean ====
section
/-!
DEFINITION. The membership unit (chapter 8): roster and orphan list, the capacity view, the changes of station state,
and what follows an event (the comparisons of R82 and the tests of R147, R150 and R159).
-/

namespace Sys2Proof.Machine

/-! ### Capacity view (1.7) -/

/-- The announced capacities of the present members, in address order. -/
def State.capacities (s : State) : List Nat := allAddrs.filterMap fun a => (s.member a).map Member.capacity

/-- A value into an ascending list without repeats. -/
def insertValue (v : Nat) : List Nat → List Nat
  | [] => [v]
  | w :: ws => if v < w then v :: w :: ws else if v = w then w :: ws else w :: insertValue v ws

/-- R14: the set of distinct values, ascending. -/
def valueSet (vs : List Nat) : List Nat := vs.foldr insertValue []

/-- R13, R14: the site capacity view (the least announced value, 0 with an empty roster) and the announced set formed
anew, with CAPACITY_MISMATCH when the set changed to two or more values. -/
def State.refreshView (s : State) : State :=
  let new := valueSet s.capacities
  (s.setCt { s.ct with capacityView := new.headD 0, announcedSet := new }).raiseIf
    (new != s.ct.announcedSet && decide (2 ≤ new.length)) .capacityMismatch

/-! ### Roster and orphan list -/

/-- R137: replaces the orphan list; FREEZE_CHANGED when it turns empty or non-empty. -/
def State.setOrphans (s : State) (os : List Orphan) : State :=
  (s.setMu { s.mu with orphans := os }).raiseIf (os.isEmpty != s.mu.orphans.isEmpty) .freezeChanged

/-- The station has an orphan record for address `a`. -/
def State.hasOrphan (s : State) (a : Addr) : Bool := s.mu.orphans.any fun o => o.station == a

/-- The orphan list without the record of `a`. -/
def State.dropOrphan (s : State) (a : Addr) : State :=
  if s.hasOrphan a then s.setOrphans (s.mu.orphans.filter fun o => o.station != a) else s

/-- R2, R13, R14, R134: a member leaves the roster with its entries and gauge; the view is formed anew; the halt unit is
told. No effect on an address that is not a member. -/
def State.removeMember (s : State) (a : Addr) : State :=
  if s.isMember a then
    ((((s.setTable (clearRow s.ct.table a)).setMember a none).refreshView).raise .rosterChanged).tellHalt a
  else s

/-- R19, R134, R137: roster, table, gauges, announced set and orphan list emptied, and the capacity view 0. -/
def State.emptyCopy (s : State) : State :=
  let s1 := s.raiseIf (s.rosterSet != 0) .rosterChanged
  ((s1.setMu { s1.mu with roster := Roster.empty }).setCt
    { s1.ct with table := Table.empty, capacityView := 0, announcedSet := [] }).setOrphans []

/-- R134: the values a BEAT announces, clamped to the nearest bound of their ranges. -/
def clampWeight (b : Byte) : Nat := max 1 (min 4 b.toNat)
/-- R134: a cap or capacity of 0 is taken as 1. -/
def clampCapacity (b : Byte) : Nat := max 1 b.toNat

/-! ### Announced records -/

/-- R84: every channel's announced record becomes GONE, with no level. -/
def State.announceGone (s : State) : State := s.setChans (mapVec (fun ch => { ch with announced := .gone none }) s.chans)

/-- Every other member is marked stale (R144, R145). -/
def State.markStale (s : State) : State :=
  allAddrs.foldl (fun s a => if a = s.own then s else s.modMember a fun m => { m with stale := true }) s

/-- The stale set emptied. -/
def State.clearStale (s : State) : State :=
  s.setMu { s.mu with roster := mapVec (Option.map fun m => { m with stale := false }) s.mu.roster }

/-- R145: some member is marked stale. -/
def State.anyStale (s : State) : Bool := allAddrs.any fun a => (s.member a).any Member.stale

/-- `s` with the adoption pending condition set (R15). -/
def State.setAdoption (s : State) (b : Bool) : State := s.setCt { s.ct with adoptionPending := b }

/-- `s` in another station state. -/
def State.setStation (s : State) (st : StationState) : State := s.setMu { s.mu with station := st }

/-! ### Changes of station state -/

/-- R135: queues DROP for a silent member. The station's own address has no DROP place. -/
def State.queueDrop (s : State) (a : Addr) : State := if a = s.own then s else s.enqueue (.drop a)

/-- R143: DROP is queued for every member silent at entry to SYNCED. -/
def State.dropSilent (s : State) : State :=
  allAddrs.foldl (fun s a => if (s.member a).any Member.silent then s.queueDrop a else s) s

/-- R143, R84, R135, R154: entry to SYNCED. -/
def State.enterSynced (s : State) : State :=
  let s1 := (((s.setStation .synced).raise .syncRegained).clearStale.setAdoption false).announceAll.dropSilent
  if s1.pressureLost && s1.hu.halt != .halted then s1.enqueue (.halt reasonPressure) else s1

/-- R145: in RESYNC an empty stale set returns the station to SYNCED. -/
def State.staleTest (s : State) : State :=
  if s.mu.station = .resync ∧ ¬ s.anyStale then s.enterSynced else s

/-- R144: entry to RESYNC, with the test of the stale set at entry. -/
def State.enterResync (s : State) : State :=
  ((((s.setStation .resync).raise .syncLost).markStale.setAdoption true).closeAll .resync).announceAll.staleTest

/-- R145: a further error or gap in RESYNC restarts the stale marking, with the test at the restart. -/
def State.restartMarking (s : State) : State := (s.markStale.setAdoption true).staleTest

/-- R140 steps 2 to 5, R142, R169: what JOIN, a restart of the listen window and the entry to LISTENING after a
self-drop share; the failure count is `failures`. The recomputation is followed by an evaluation when a member was
removed (R103). -/
def State.startListening (s : State) (failures : Nat) : State :=
  let s1 := s.emptyCopy.announceGone.setAdoption true
  let s2 := (s1.setBus { s1.bus with outbound := [], seq := 0, failures := failures, beatTimer := none }).setHu
    { s1.hu.clearRound with settle := 0, ackPending := false }
  (s2.setMu { s2.mu with listenWindow := some Config.listenMs }).recompute.evaluateIf (s.rosterSet != 0)

/-- R140, R150: entry to LISTENING by JOIN or after a self-drop. -/
def State.enterListening (s : State) : State :=
  (s.setMu { s.mu with station := .listening, cause := .none }).startListening 0

/-- R142: a restart of the listen window; the failure count is kept. -/
def State.restartListening (s : State) : State := s.startListening s.bus.failures

/-- R146: entry to LEAVING. -/
def State.enterLeaving (s : State) : State :=
  (((s.setStation .leaving).clearStale.setAdoption false).closeAll .leave).announceAll

/-- R149, R169: entry to ISOLATED, less the recomputation (R20) and the evaluation (R103), which end the event that
causes it (log 14). -/
def State.enterIsolated (s : State) (cause : IsolationCause) : State :=
  let s1 := (s.setMu { s.mu with station := .isolated, cause := cause, listenWindow := none }).raise .isolated
  let s2 := (((s1.removeMember s1.own).settleOwn.clearStale.setAdoption false).closeAll .isolate).announceGone
  (s2.setHu { s2.hu with ackPending := false }).setBus
    { s2.bus with outbound := [], failures := 0, beatTimer := none }

/-- R151, R169: entry to CLASH, with its recomputation and the evaluation that a removal calls for. -/
def State.enterClash (s : State) : State :=
  let s1 := (s.setMu { s.mu with station := .clash, listenWindow := none }).raise .clash
  let s2 := ((s1.removeMember s1.own).settleOwn.clearStale.setAdoption false).closeAll .isolate
  let s3 := (s2.setHu { s2.hu with ackPending := false }).setBus { s2.bus with outbound := [], beatTimer := none }
  s3.recompute.evaluateIf (s.isMember s.own)

/-- R147, R169: entry to CONFIG at the clean send of the station's LEAVE. -/
def State.enterConfig (s : State) : State :=
  let s1 := ((s.setStation .config).emptyCopy.announceGone).setAdoption false
  let s2 := (s1.setBus { s1.bus with outbound := [], beatTimer := none }).setHu
    { s1.hu.clearRound with settle := 0, ackPending := false }
  (s2.setMu { s2.mu with listenWindow := none }).recompute.evaluateIf (s.rosterSet != 0)

/-! ### Reports of the bus (R123, R126) -/

/-- R123, R126: a receive error or a gap, by the station state at that moment. -/
def State.lostFrame (s : State) : State :=
  match s.mu.station with
  | .synced => s.enterResync
  | .resync => s.restartMarking
  | .listening => s.restartListening
  | _ => s

/-! ### What follows an event -/

/-- R147: in LEAVING with every present valve CLOSED, LEAVE is queued, unless it is pending or being sent already. -/
def State.leaveTest (s : State) : State :=
  if s.mu.station = .leaving ∧ s.allClosed ∧ s.bus.tx.all (fun t => t.item != .leave) then s.enqueue .leave else s

/-- R150: in ISOLATED by self-drop with no valve OPENING, OPEN or CLOSING, the station enters LISTENING by itself. -/
def State.relistenTest (s : State) : State :=
  if s.mu.station = .isolated ∧ s.mu.cause = .selfDrop ∧ s.settled then s.enterListening else s

/-- The end of an event that may have changed valves, heads, faults or the station state: the comparison of R82 on
every channel, then the tests of R159, R147 and R150 (log 11). -/
def State.conclude (s : State) : State := s.announceAll.ackTest.leaveTest.relistenTest

end Sys2Proof.Machine
end

