-- ==== Sys2Proof/Machine/Responses.lean ====
section
/-!
DEFINITION. The responses of the host's read commands, byte by byte as 12.3, 12.4 and 12.5 lay them out. Undefined bits
and pad nibbles are 0, and an absent field is its absent encoding, or 0 (R201).
-/

namespace Sys2Proof.Machine

/-- A mark, level or indication as a number: 1 when it holds, 0 when not. For latched, stale, configuration set and the
present byte of READ_ENTRY the value 1 is the model's choice (log 30); 12.5 gives READ_ENTRY's 0 for gone. -/
def bitOf (b : Bool) : Nat := if b then 1 else 0

/-- 12.3: bytes 24–26, the stop flag and the time limit. -/
def conditionBytes (r : Run) : List Byte :=
  (r.stopFlag.elim 0xFF fun n => byteOf n.val) :: bytes16 (BitVec.ofNat 16 (r.timeLimit.getD 0))

/-- R64, 12.3: the 31 bytes of the run record. -/
def runBytes (r : Run) : List Byte :=
  bytes16 r.tag ++ [byteOf r.channel.val, byteOf r.level.val, byteOf r.demand] ++ decimalBytes r.target ++
    decimalBytes r.delivered ++ [byteOf r.preemptions] ++ bytes16 (BitVec.ofNat 16 r.openSeconds) ++
    bytes32 r.submitTime ++ gateBytes r.gate ++ conditionBytes r ++
    [byteOf r.handle, byteOf r.state.code, byteOf r.state.purposeCode, byteOf (endResultCode r.endResult),
      byteOf (bitOf r.saturated + 2 * bitOf r.gateSatisfied)]

/-- 12.4: the 25 bytes of a log record. -/
def recordBytes (r : LogRecord) : List Byte :=
  [byteOf r.handle] ++ bytes16 r.tag ++ [byteOf r.channel.val, byteOf r.level.val, byteOf r.result.code] ++
    decimalBytes r.target ++ decimalBytes r.delivered ++
    [byteOf (bitOf r.saturated + 2 * bitOf r.closeNotConfirmed), byteOf r.preemptions] ++
    bytes16 (BitVec.ofNat 16 r.openSeconds) ++ bytes32 r.submitTime ++ bytes32 r.endTime

/-- 12.5: the first ten bytes of READ_CHANNEL: present and the settings, all 0 for an absent channel. -/
def settingsBytes (settings : Option ChannelSettings) : List Byte :=
  match settings with
  | none => List.replicate 10 0
  | some set =>
    [1] ++ decimalBytes set.quantum ++ [byteOf set.openTime, byteOf set.closeTime, byteOf (bitOf set.endSwitch)] ++
      decimalBytes set.leakLimit ++ [byteOf set.noFlowTime]

/-- 12.2: the fault kinds by bit. -/
def Faults.code (f : Faults) : Nat := bitOf f.leak + 2 * bitOf f.dry + 4 * bitOf f.stuck

/-- 12.5: the announced record in its three bytes; a GONE carries its level and demand 0. -/
def announcedBytes (a : Announced) : List Byte :=
  match a with
  | .live k => [byteOf k.phase.code, byteOf k.level.val, byteOf k.demand]
  | .gone l => [0, byteOf (l.elim 0 Fin.val), 0]

/-- R85: the stuck values, reported when the valve is STUCK. -/
def stuckBytes (ch : Channel) : List Byte :=
  match ch.valve, ch.stuckValues with
  | .stuck, some v => [byteOf v.1.val, byteOf v.2]
  | _, _ => [0, 0]

/-- The handle of a run, 0 for none. -/
def handleByte (r : Option Run) : Byte := r.elim 0 fun r => byteOf r.handle

/-- R85: the head a channel reports: none for an absent channel. -/
def State.reportedHead (s : State) (c : Chan) : Option Run := if (s.chan c).present then s.head c else none

/-- R85, R98, 12.5: the 29 bytes of READ_CHANNEL. -/
def State.channelBytes (s : State) (c : Chan) : List Byte :=
  let ch := s.chan c
  settingsBytes ch.settings ++
    [byteOf ch.valve.code,
      byteOf (bitOf ch.valve.driven + 2 * bitOf (ch.vsw == some true) + 4 * bitOf ch.wrapped), byteOf ch.faults.code] ++
    stuckBytes ch ++ [handleByte (s.reportedHead c), handleByte (s.attributed c)] ++ announcedBytes ch.announced ++
    decimalBytes ch.totalizer ++ decimalBytes ch.unattributed

/-- R192, 12.5: the seven bytes of READ_ENTRY; the values of its present and latched bytes: log 30. -/
def entryBytes (a : Addr) (c : Chan) (e : Option Entry) : List Byte :=
  match e with
  | none => List.replicate 7 0
  | some e =>
    [1, byteOf a.val, byteOf c.val, byteOf e.level.val, byteOf e.demand, byteOf e.phase.code, byteOf (bitOf e.latched)]

/-- R152, 12.5: the twelve bytes of one member; the value of its stale byte: log 30. -/
def memberBytes (a : Addr) (m : Member) : List Byte :=
  [byteOf a.val, byteOf m.weight, byteOf m.cap, byteOf m.capacity] ++ gaugeBytes m.gauge ++ [byteOf m.lastSeq.val] ++
    bytes32 m.heard ++ [byteOf (bitOf m.stale)]

/-- The members in address order. -/
def State.members (s : State) : List (Addr × Member) := allAddrs.filterMap fun a => (s.member a).map fun m => (a, m)

/-- R192, 12.5: READ_ROSTER. -/
def State.rosterBytes (s : State) : List Byte :=
  byteOf s.members.length :: s.members.flatMap fun m => memberBytes m.1 m.2

/-- The rotation pointers in two bytes, level 0 in the high nibble of the first (12.1). -/
def State.pointerBytes (s : State) : List Byte := Sys2Proof.Machine.pointerBytes s.ct.pointers

/-- An orphan record in three bytes. -/
def orphanBytes (o : Orphan) : List Byte := byteOf o.station.val :: bytes16 (BitVec.ofNat 16 o.load)

/-- R170: the time left on the round timer in whole seconds while the round is OPEN, 0 otherwise (log 23). -/
def HaltUnit.secondsLeft (h : HaltUnit) : Nat := if h.round = .opened then h.roundTimer.getD 0 / 1000 else 0

/-- R39: the remaining capacity. -/
def AllocResult.remaining (a : AllocResult) : Nat := a.effective - a.placedDemand

/-- R39, R170, R192, 12.5: READ_SITE. -/
def State.siteBytes (s : State) : List Byte :=
  bytes16 s.ct.flags ++ s.pointerBytes ++
    [byteOf s.ct.capacityView, byteOf s.alloc.effective, byteOf s.alloc.placedDemand, byteOf s.alloc.remaining] ++
    bytes16 (BitVec.ofNat 16 s.alloc.transient) ++
    [byteOf (bitOf s.alloc.drain + 2 * bitOf s.alloc.freeze + 4 * bitOf s.hu.ploss), byteOf s.mu.orphans.length] ++
    s.mu.orphans.flatMap orphanBytes ++
    [byteOf s.hu.halt.code, s.hu.reasons.setWidth 8, byteOf s.hu.round.code] ++
    bytes16 s.hu.ackSet ++ bytes16 s.hu.ackedSet ++ bytes16 s.hu.missing ++ [byteOf s.hu.secondsLeft] ++
    bytes16 s.hu.settle ++ allAddrs.filterMap fun a => s.hu.acked[a.val]

/-- 12.5: the straps in one byte. -/
def strapByte (p : StrapPins) : Byte :=
  byteOf (p.addr.val + 16 * p.wt.val + 64 * bitOf p.atm + 128 * bitOf p.ple)

/-- R152: the isolation cause, reported in ISOLATED. -/
def State.reportedCause (s : State) : IsolationCause := if s.mu.station = .isolated then s.mu.cause else .none

/-- R192, 12.5: STATION_STATUS; the value of the configuration set byte: log 30. -/
def State.statusBytes (s : State) : List Byte :=
  [byteOf s.mu.station.code, byteOf s.reportedCause.code, strapByte s.straps, byteOf (bitOf s.site.isSet),
    byteOf s.site.capacity, byteOf s.site.cap, byteOf (bitOf s.site.leakHalts)] ++ bytes32 s.clock.seconds

end Sys2Proof.Machine
end

