-- ==== Sys2Proof/Machine/PortCycles.lean ====
section
/-!
DEFINITION. The port's pins: which byte cycles their levels make, and what the port drives on D0–D7 (R182, R202); and the
meanings of the byte cycles (11.1, 11.2): COMMAND_BYTE_WRITE, ARGUMENT_BYTE_WRITE, WRITE_WHILE_EXECUTING, RESPONSE_BYTE_READ,
and of BAD_COMMAND.
-/

namespace Sys2Proof.Machine

/-! ### Pins (R182) -/

/-- The levels of the port's inputs: CS#, RD# and WR# asserted, CD high, and the byte the host puts on D0–D7. -/
structure PortPins where
  cs : Bool
  rd : Bool
  wr : Bool
  cd : Bool
  data : Byte
  deriving DecidableEq, Repr

/-- R182: with CS# asserted, RD# and WR# are asserted together, or have been earlier in the same cycle; it is taken as neither.
Such a cycle lasts until both strobes, or CS#, are deasserted (log 34). -/
def spoils (spoiled : Bool) (p : PortPins) : Bool := p.cs && (p.rd && p.wr || spoiled && (p.rd || p.wr))

/-- R182: what the part drives on D0–D7: in a read cycle the status byte (CD high) or the byte at the front of the response
(CD low; 0 with none left, R185); nothing outside read cycles or while RST# is low (R202). That a cycle in which RD# and WR#
are asserted together is no read cycle for the lines either, as long as it lasts, is the model's choice (log 34). -/
def State.dataOut (s : State) (spoiled : Bool) (p : PortPins) : Option Byte :=
  if s.inReset || !p.cs || !p.rd || spoils spoiled p then none
  else some (if p.cd then s.statusByte else s.port.frontByte)

/-- R182: the cycle taken at a change of the pins from `p` to `q`: a write cycle where WR# is deasserted, a read cycle where
RD# is, CS# being asserted on both sides. That a read is one with CD low by the level of CD after the change is the model's
choice (log 34). A read with CD high removes nothing and has no row. -/
def cycleTaken (spoiled : Bool) (p q : PortPins) : Option Instr :=
  if spoiled || !p.cs || !q.cs then none
  else if p.wr && !q.wr then some (if q.cd then .commandByteWrite q.data else .argumentByteWrite q.data)
  else if p.rd && !q.rd && !q.cd then some .responseByteRead
  else none

/-- R182: the byte cycles that successive levels of the pins make, from the levels `p`. -/
def cyclesTaken (spoiled : Bool) (p : PortPins) : List PortPins → List Instr
  | [] => []
  | q :: qs => (cycleTaken (spoils spoiled p) p q).toList ++ cyclesTaken (spoils spoiled p) q qs

/-! ### Byte cycles -/

/-- R186: the SEQUENCE flag is set. -/
def State.setSequence (s : State) : State := s.setPort { s.port with sequence := true }

/-- R183: a command byte starts a new command; one written while EXECUTING is lost and sets SEQUENCE (R186). -/
def State.takeCommandByte (s : State) (b : Byte) : State :=
  if s.port.state = .executing then s.setSequence
  else
    s.setPort { s.port with
      state := if argCountOf b = 0 then .executing else .collecting
      command := some b
      args := []
      response := []
      result := .none
      sequence := false }

/-- The argument count of the command the port holds. -/
def Port.argsWanted (p : Port) : Nat := p.command.elim 0 argCountOf

/-- R184: an argument byte is placed in the buffer while COLLECTING, the last one starting the execution; in any other
port state it is not taken and sets SEQUENCE (R184, R186). -/
def State.takeArgumentByte (s : State) (b : Byte) : State :=
  if s.port.state = .collecting then
    s.setPort { s.port with
      args := s.port.args ++ [b]
      state := if s.port.argsWanted ≤ s.port.args.length + 1 then .executing else .collecting }
  else s.setSequence

/-- R185: a read cycle with CD low returns and removes the front byte in DONE; with no byte left, or in another port
state, it returns 0 and sets SEQUENCE. -/
def State.readResponse (s : State) : State :=
  match s.port.state, s.port.response with
  | .done, _ :: rest => s.setPort { s.port with response := rest, lastRead := s.port.frontByte }
  | _, _ => s.setPort { s.port with lastRead := s.port.frontByte, sequence := true }

/-- R184, R187: a command has executed: its result code and response stand, and the port is DONE. -/
def State.finish (s : State) (code : ResultCode) (response : List Byte) : State :=
  s.setPort { s.port with state := .done, result := code, response := response }

/-- COMMAND_BYTE_WRITE (R183). -/
def execCommandByteWrite (b : Byte) (s : State) : Host.Outcome State Fault Refusal :=
  .next (s.whenReleased fun s => s.takeCommandByte b)

/-- ARGUMENT_BYTE_WRITE (R184). -/
def execArgumentByteWrite (b : Byte) (s : State) : Host.Outcome State Fault Refusal :=
  .next (s.whenReleased fun s => s.takeArgumentByte b)

/-- WRITE_WHILE_EXECUTING (R186): the byte is lost and SEQUENCE is set. In any other port state the cycle is the
ordinary write its level of CD makes it. -/
def execWriteWhileExecuting (cd : Bool) (b : Byte) (s : State) : Host.Outcome State Fault Refusal :=
  .next (s.whenReleased fun s =>
    if s.port.state = .executing then s.setSequence else if cd then s.takeCommandByte b else s.takeArgumentByte b)

/-- RESPONSE_BYTE_READ (R185). -/
def execResponseByteRead (s : State) : Host.Outcome State Fault Refusal := .next (s.whenReleased State.readResponse)

/-- R188: a byte naming no command executes with BAD_COMMAND, no response and no change of state. -/
def State.runBadCommand (s : State) : State := if s.port.awaitsUnknown then s.finish .badCommand [] else s

/-- BAD_COMMAND (R188). -/
def execBadCommand (s : State) : Host.Outcome State Fault Refusal := .next (s.whenReleased State.runBadCommand)

end Sys2Proof.Machine
end

