-- ==== Sys2Proof/Machine/ConfigCommands.lean ====
section
/-!
DEFINITION. The meanings of the host commands that configure the part and take it onto and off the bus: SITE_CONFIG,
CHANNEL_CONFIG, JOIN, LEAVE_COMMAND; and the frame every host command stands in (R184).
-/

namespace Sys2Proof.Machine

/-- R184: the host command `k` executes when the port waits for its execution, with the argument bytes the port holds
(log 8). -/
def State.onCommand (s : State) (k : HostCommand) (f : State → State) : State := if s.port.awaits k then f s else s

/-- R188: a refusal changes no state and forms no response. -/
def State.refuse (s : State) (code : ResultCode) : State := s.finish code []

/-- An accepted command. -/
def State.accept (s : State) (response : List Byte) : State := s.finish .ok response

/-! ### SITE_CONFIG (R193) -/

/-- R193 check 2: the three values. -/
def readSiteConfig (p : Port) : Option SiteConfiguration :=
  match toYesNo (p.arg 2) with
  | some leakHalts =>
    if 1 ≤ (p.arg 0).toNat ∧ 1 ≤ (p.arg 1).toNat then some ⟨true, (p.arg 0).toNat, (p.arg 1).toNat, leakHalts⟩
    else none
  | none => none

/-- R193. -/
def State.runSiteConfig (s : State) : State :=
  if s.mu.station = .config then
    match readSiteConfig s.port with
    | some site => (s.setSite site).accept []
    | none => s.refuse .badArg
  else s.refuse .wrongState

/-! ### CHANNEL_CONFIG (R68, R69) -/

/-- R69, present to absent: settings cleared, fault state NONE, valve CLOSED; the meter values are kept. -/
def Channel.makeAbsent (ch : Channel) : Channel :=
  { ch with
    settings := none
    valve := .closed
    openTimer := none
    closeTimer := none
    noFlowTimer := none
    faults := ⟨false, false, false⟩
    stuckValues := none
    vsw := none
    vswHeld := 0
    vswDue := none
    mtrHeld := 0
    mtrLow := false
    mtrDue := false }

/-- R69, R87: the sampling of VSWn# and MTRn of a channel made present from absent begins when the command executes. -/
def Channel.beginSampling (ch : Channel) : Channel :=
  if ch.present then ch else { ch with vswHeld := 0, vswDue := none, mtrHeld := 0, mtrLow := false, mtrDue := false }

/-- R69, to present: the settings replace those held; the valve is CLOSED, or CLOSING under no run when an end switch is
configured and is not asserted. -/
def Channel.makePresent (ch : Channel) (set : ChannelSettings) : Channel :=
  let ch1 := { ch.beginSampling with settings := some set }
  if set.endSwitch ∧ ch.vsw ≠ some true then { ch1 with valve := .closing, closeTimer := some ch1.closeLoad }
  else { ch1 with valve := .closed }

/-- R69: a channel with new settings, or made absent. -/
def Channel.configure (ch : Channel) (set : Option ChannelSettings) : Channel :=
  match set with
  | some v => ch.makePresent v
  | none => ch.makeAbsent

/-- R68 checks 4 and 5: a channel that may be configured so. -/
def State.mayConfigure (s : State) (c : Chan) (set : Option ChannelSettings) : Bool :=
  (set.isSome || (listOf s.rm.pool c).isEmpty) && (s.chan c).valve != .closing && (s.chan c).valve != .stuck

/-- R68, R69. -/
def State.runChannelConfig (s : State) : State :=
  if s.mu.station = .config then
    match toChan (s.port.arg 0), readSettings s.port with
    | some c, some set =>
      if s.mayConfigure c set then ((s.setChan c ((s.chan c).configure set)).conclude).accept []
      else s.refuse .wrongState
    | _, _ => s.refuse .badArg
  else s.refuse .wrongState

/-! ### JOIN and LEAVE (R140, R146) -/

/-- R140: JOIN is accepted in CONFIG with the site configuration set, and in ISOLATED. -/
def State.mayJoin (s : State) : Bool :=
  match s.mu.station with
  | .config => s.site.isSet
  | .isolated => true
  | _ => false

/-- R140. -/
def State.runJoin (s : State) : State :=
  if s.mayJoin then s.enterListening.conclude.accept [] else s.refuse .wrongState

/-- R189: the station states in which a site command may be accepted. -/
def StationState.takesSiteCommand : StationState → Bool
  | .synced => true
  | .resync => true
  | _ => false

/-- R146 check 2: a present channel's valve is STUCK. -/
def State.anyStuck (s : State) : Bool := allChans.any fun c => (s.chan c).present && (s.chan c).valve == .stuck

/-- R146, R147. -/
def State.runLeave (s : State) : State :=
  if s.mu.station.takesSiteCommand && !s.anyStuck then s.enterLeaving.conclude.accept [] else s.refuse .wrongState

/-! ### Meanings -/

/-- SITE_CONFIG (R193). -/
def execSiteConfig (s : State) : Host.Outcome State Fault Refusal :=
  .next (s.whenReleased fun s => s.onCommand .siteConfig State.runSiteConfig)

/-- CHANNEL_CONFIG (R68, R69). -/
def execChannelConfig (s : State) : Host.Outcome State Fault Refusal :=
  .next (s.whenReleased fun s => s.onCommand .channelConfig State.runChannelConfig)

/-- JOIN (R140). -/
def execJoin (s : State) : Host.Outcome State Fault Refusal :=
  .next (s.whenReleased fun s => s.onCommand .join State.runJoin)

/-- LEAVE_COMMAND (R146). -/
def execLeaveCommand (s : State) : Host.Outcome State Fault Refusal :=
  .next (s.whenReleased fun s => s.onCommand .leave State.runLeave)

end Sys2Proof.Machine
end

