-- ==== Sys2Proof/Machine/RunCommands.lean ====
section
/-!
DEFINITION. The meanings of the host commands on runs: SUBMIT, LOAD_RUN (admission, R46, R47), CANCEL, QUERY_RUN.
-/

namespace Sys2Proof.Machine

/-! ### Handles (R41) -/

/-- R41: the handle after one, wrapping from 255 to 1. -/
def handleAfter (h : Nat) : Nat := if 255 ≤ h then 1 else h + 1

/-- R41: the first handle after `h`, within `fuel` steps, that no live run holds. -/
def freeHandle (pool : List Run) : Nat → Nat → Nat
  | 0, h => handleAfter h
  | fuel + 1, h =>
    if (findRun pool (handleAfter h)).isSome then freeHandle pool fuel (handleAfter h) else handleAfter h

/-- R41: the handle the next admission assigns; the pool holds at most 24 runs, so 24 steps pass over every live one. -/
def RunUnit.nextHandle (rm : RunUnit) : Nat := freeHandle rm.pool 24 rm.handleCounter

/-! ### Admission (R46, R47) -/

/-- R46: what the six checks give: a result code, or the channel and the arguments of the new run. -/
inductive Admission where
  | refused (code : ResultCode)
  | admitted (c : Chan) (args : RunArgs)
  deriving DecidableEq, Repr

/-- R46 check 1: the present channel that a byte names. -/
def State.presentChan (s : State) (b : Byte) : Option Chan := (toChan b).filter fun c => (s.chan c).present

/-- R46 checks 4 to 6: the bounds of list, pool and log; none when all hold. -/
def State.fullness (s : State) (c : Chan) : Option ResultCode :=
  if Config.listMax ≤ (listOf s.rm.pool c).length then some .listFull
  else if Config.poolMax ≤ s.rm.pool.length then some .poolFull
  else if Config.logMax ≤ s.rm.pool.length + s.log.records.length then some .logFull
  else none

/-- R46: the six checks in their order over the bytes of a run context. -/
def State.admission (s : State) (ctx : List Byte) : Admission :=
  match s.presentChan (ctx.getD 2 0) with
  | none => .refused .channelAbsent
  | some c =>
    if (s.chan c).inFault then .refused .channelFault
    else
      match readRunContext ctx with
      | none => .refused .badArg
      | some args =>
        match s.fullness c with
        | some code => .refused code
        | none => .admitted c args

/-- R47 steps 2 and 3, R40: the record of a new run, with its gate evaluated. -/
def State.newRun (s : State) (c : Chan) (args : RunArgs) : Run where
  handle := s.rm.nextHandle
  tag := args.tag
  channel := c
  level := args.level
  demand := args.demand
  target := args.target
  delivered := args.delivered
  saturated := false
  gate := args.gate
  gateSatisfied := s.gateOpen args.gate
  stopFlag := args.stopFlag
  timeLimit := args.timeLimit
  openSeconds := args.openSeconds
  preemptions := args.preemptions
  submitTime := args.submitTime
  state := if s.gateOpen args.gate then .queued else .gated
  endResult := none

/-- R47 steps 1 and 2: the reservation is taken and the handle counter moves. -/
def State.reserve (s : State) : State :=
  (s.setLog { s.log with reservations := s.log.reservations + 1 }).setRm
    { s.rm with handleCounter := s.rm.nextHandle }

/-- R47 step 4: the new run ends STOPPED and departs without entering its list. -/
def State.stopAtAdmission (s : State) (r : Run) : State :=
  (s.appendRecord (completionRecord { r with endResult := some .stopped } false s.clock.seconds)).releaseWaiting
    r.handle

/-- R47 step 5: the new run enters its channel's list, and head selection is carried out. -/
def State.enterList (s : State) (r : Run) : State := (s.setPool (s.rm.pool ++ [r])).headSelect r.channel

/-- R47: an accepted admission. -/
def State.beginRun (s : State) (c : Chan) (args : RunArgs) : State :=
  let r := s.newRun c args
  let s1 := s.reserve
  (if s.stopSet r.stopFlag then s1.stopAtAdmission r else s1.enterList r).conclude

/-- R46, R47: SUBMIT and LOAD_RUN; `time` gives the submit time of the new run. -/
def State.runAdmission (s : State) (ctx : List Byte) (time : BitVec 32 → BitVec 32) : State :=
  match s.admission ctx with
  | .refused code => s.refuse code
  | .admitted c args =>
    (s.beginRun c { args with submitTime := time args.submitTime }).accept [byteOf s.rm.nextHandle]

/-- R45, R47: SUBMIT; the submit time is the present station seconds. -/
def State.runSubmit (s : State) : State := s.runAdmission (submitContext s.port.args) fun _ => s.clock.seconds

/-- R65: LOAD_RUN; the submit time is the loaded one. -/
def State.runLoadRun (s : State) : State := s.runAdmission s.port.args id

/-! ### CANCEL and QUERY_RUN (R63, R64) -/

/-- R63. -/
def State.runCancel (s : State) : State :=
  match findRun s.rm.pool (s.port.arg 0).toNat with
  | some r => (s.endRun r.handle .cancelled).conclude.accept []
  | none => s.refuse .noSuchRun

/-- R64. -/
def State.runQueryRun (s : State) : State :=
  match findRun s.rm.pool (s.port.arg 0).toNat with
  | some r => s.accept (runBytes r)
  | none => s.refuse .noSuchRun

/-! ### Meanings -/

/-- SUBMIT (R45–R47). -/
def execSubmit (s : State) : Host.Outcome State Fault Refusal :=
  .next (s.whenReleased fun s => s.onCommand .submit State.runSubmit)

/-- LOAD_RUN (R65). -/
def execLoadRun (s : State) : Host.Outcome State Fault Refusal :=
  .next (s.whenReleased fun s => s.onCommand .loadRun State.runLoadRun)

/-- CANCEL (R63). -/
def execCancel (s : State) : Host.Outcome State Fault Refusal :=
  .next (s.whenReleased fun s => s.onCommand .cancel State.runCancel)

/-- QUERY_RUN (R64). -/
def execQueryRun (s : State) : Host.Outcome State Fault Refusal :=
  .next (s.whenReleased fun s => s.onCommand .queryRun State.runQueryRun)

end Sys2Proof.Machine
end

