-- ==== Sys2Proof/Machine/ChannelCommands.lean ====
section
/-!
DEFINITION. The meanings of the host commands on channels and on the delivery log: READ_CHANNEL, CLEAR_FAULT, READ_LOG,
PEEK_LOG, LOG_STATUS.
-/

namespace Sys2Proof.Machine

/-- R98: the clear-wrapped option. -/
def State.clearWrapped (s : State) (c : Chan) (option : Byte) : State :=
  if option.getLsbD 0 then s.setChan c { s.chan c with wrapped := false } else s

/-- R85, R98. -/
def State.runReadChannel (s : State) : State :=
  match toChan (s.port.arg 0) with
  | some c => (s.clearWrapped c (s.port.arg 1)).accept (s.channelBytes c)
  | none => s.refuse .badArg

/-- R80 step 1: a STUCK valve is taken as CLOSED, which derives GONE before the fault is cleared. -/
def State.takeStuckClosed (s : State) (c : Chan) : State :=
  if (s.chan c).valve = .stuck then
    (s.setChan c { s.chan c with valve := .closed, stuckValues := none }).announce c
  else s

/-- R80 steps 2 and 3. -/
def State.clearFaults (s : State) (c : Chan) : State :=
  s.setChan c { s.chan c with faults := ⟨false, false, false⟩, unattributed := Decimal.zero 7 }

/-- R80. -/
def State.runClearFault (s : State) : State :=
  match s.presentChan (s.port.arg 0) with
  | none => s.refuse .channelAbsent
  | some c =>
    if (s.chan c).inFault ∧ (s.chan c).valve ≠ .closing then
      ((s.takeStuckClosed c).clearFaults c).conclude.accept []
    else s.refuse .wrongState

/-- R176: the oldest record leaves the log. -/
def LogUnit.dropOldest (l : LogUnit) : LogUnit :=
  { l with records := l.records.tail, readPos := if l.readPos = 47 then 0 else l.readPos + 1 }

/-- R176. -/
def State.runReadLog (s : State) : State :=
  match s.log.records with
  | r :: _ => (s.setLog s.log.dropOldest).accept (recordBytes r)
  | [] => s.refuse .empty

/-- R177. -/
def State.runPeekLog (s : State) : State :=
  match s.log.records[(s.port.arg 0).toNat]? with
  | some r => s.accept (recordBytes r)
  | none => s.refuse .badArg

/-- R178. -/
def State.runLogStatus (s : State) : State :=
  s.accept [byteOf s.log.records.length, byteOf s.log.reservations]

/-- READ_CHANNEL (R85, R98). -/
def execReadChannel (s : State) : Host.Outcome State Fault Refusal :=
  .next (s.whenReleased fun s => s.onCommand .readChannel State.runReadChannel)

/-- CLEAR_FAULT (R80). -/
def execClearFault (s : State) : Host.Outcome State Fault Refusal :=
  .next (s.whenReleased fun s => s.onCommand .clearFault State.runClearFault)

/-- READ_LOG (R176). -/
def execReadLog (s : State) : Host.Outcome State Fault Refusal :=
  .next (s.whenReleased fun s => s.onCommand .readLog State.runReadLog)

/-- PEEK_LOG (R177). -/
def execPeekLog (s : State) : Host.Outcome State Fault Refusal :=
  .next (s.whenReleased fun s => s.onCommand .peekLog State.runPeekLog)

/-- LOG_STATUS (R178). -/
def execLogStatus (s : State) : Host.Outcome State Fault Refusal :=
  .next (s.whenReleased fun s => s.onCommand .logStatus State.runLogStatus)

end Sys2Proof.Machine
end

