-- ==== Sys2Proof/Machine/Timers.lean ====
section
/-!
DEFINITION. The meanings of the timer expiries and of the counts of seconds. An expiry is taken when no time is left on its
timer (log 5); a row whose timer is stopped or has time left changes nothing (log 1).
-/

namespace Sys2Proof.Machine

/-- A timer that runs and has no time left: its expiry is due. -/
def ranOut (t : Option Nat) : Bool := t == some 0

/-! ### Bus and site timers -/

/-- R131: the beat timer expires. -/
def State.expireBeat (s : State) : State :=
  if ranOut s.bus.beatTimer then
    let s1 := s.setBus { s.bus with beatTimer := none }
    if s1.mu.station.active then s1.enqueue .beat else s1
  else s

/-- R135: the silence timer of a member expires. -/
def State.expireSilence (s : State) (a : Addr) : State :=
  if (s.member a).any fun m => ranOut m.silence then
    let s1 := s.modMember a fun m => { m with silence := none, silent := true }
    if s1.mu.station.active then s1.queueDrop a else s1
  else s

/-- R141: the listen window expires. -/
def State.expireListen (s : State) : State :=
  if ranOut s.mu.listenWindow then (s.setMu { s.mu with listenWindow := none }).enqueue .beat else s

/-- R162: the round timer expires. -/
def State.expireRoundTimer (s : State) : State :=
  if ranOut s.hu.roundTimer then (s.setHu { s.hu with roundTimer := none }).expireRound else s

/-! ### Valve timers -/

/-- R79: the no-flow timer's load in ms. -/
def Channel.noFlowLoad (ch : Channel) : Nat := ch.settings.elim 0 fun set => 1000 * set.noFlowTime

/-- R71: the open timer expires with the valve OPENING. -/
def State.expireOpen (s : State) (c : Chan) : State :=
  let ch := s.chan c
  if ranOut ch.openTimer ∧ ch.valve = .opening then
    s.setChan c { ch with valve := .opened, openTimer := none, noFlowTimer := some ch.noFlowLoad }
  else s

/-- R74 step 2: the stuck values. -/
def stuckValuesOf (head : Option Run) : Level × Nat :=
  match head with
  | some r => if r.state.isClosing then (r.level, r.demand) else (3, 63)
  | none => (3, 63)

/-- R74: the valve is declared STUCK, and the closing head is dealt with as R53 states. -/
def State.declareStuck (s : State) (c : Chan) : State :=
  let head := s.head c
  let s1 := s.setChan c { s.chan c with valve := .stuck, closeTimer := none, stuckValues := some (stuckValuesOf head) }
  let s2 := s1.addFault c fun f => { f with stuck := true }
  match head with
  | some r =>
    match r.state with
    | .closing .ending => s2.depart r.handle true
    | .closing _ => s2.requeue c r.handle
    | _ => s2
  | none => s2

/-- R73, R74: the close timer expires with the valve CLOSING. -/
def State.expireClose (s : State) (c : Chan) : State :=
  let ch := s.chan c
  if ranOut ch.closeTimer ∧ ch.valve = .closing then
    (if ch.hasSwitch ∧ ¬ ch.confirmed then s.declareStuck c else s.completeClose c).conclude
  else s

/-- R79: the no-flow timer expires with the valve OPEN. -/
def State.expireNoFlow (s : State) (c : Chan) : State :=
  let ch := s.chan c
  if ranOut ch.noFlowTimer ∧ ch.valve = .opened then
    let s1 := (s.setChan c { ch with noFlowTimer := none }).addFault c fun f => { f with dry := true }
    (match s1.head c with
      | some r => s1.endRun r.handle .noFlow
      | none => s1).conclude
  else s

/-! ### Seconds -/

/-- R109: a second of open time credited to a run. -/
def creditSecond (r : Run) : Run := { r with openSeconds := min 65535 (r.openSeconds + 1) }

/-- R110: the limit of a run is reached. -/
def Run.limitReached (r : Run) : Bool := r.timeLimit.any fun m => decide (m * 60 ≤ r.openSeconds)

/-- R109: the open-time accumulator has passed 999 and the rise has not been taken. -/
def Channel.secondDue (ch : Channel) : Bool := decide (1000 ≤ ch.accumulator)

/-- R109, R110: the rise of open seconds when the accumulator passes 999 with the valve OPENING or OPEN. -/
def State.riseOpenSeconds (s : State) (c : Chan) : State :=
  let ch := s.chan c
  if ch.valve.driven ∧ ch.secondDue then
    let s1 := s.setChan c { ch with accumulator := 0 }
    match s1.head c with
    | some r =>
      let s2 := s1.modRun r.handle creditSecond
      if (creditSecond r).limitReached then (s2.endRun r.handle .timeLimit).conclude else s2
    | none => s1
  else s

/-- R199: at 1000 ms the station seconds rise by one, wrapping. -/
def State.riseStationSeconds (s : State) : State :=
  if 1000 ≤ s.clock.millis then s.setClock ⟨s.clock.seconds + 1, 0⟩ else s

/-! ### Meanings -/

/-- BEAT_TIMER_EXPIRY (R131). -/
def execBeatTimerExpiry (s : State) : Host.Outcome State Fault Refusal := .next (s.whenReleased State.expireBeat)

/-- SILENCE_EXPIRY (R135). -/
def execSilenceExpiry (a : Addr) (s : State) : Host.Outcome State Fault Refusal :=
  .next (s.whenReleased fun s => s.expireSilence a)

/-- LISTEN_WINDOW_EXPIRY (R141). -/
def execListenWindowExpiry (s : State) : Host.Outcome State Fault Refusal := .next (s.whenReleased State.expireListen)

/-- ROUND_TIMER_EXPIRY (R162). -/
def execRoundTimerExpiry (s : State) : Host.Outcome State Fault Refusal :=
  .next (s.whenReleased State.expireRoundTimer)

/-- OPEN_TIMER_EXPIRY (R71). -/
def execOpenTimerExpiry (c : Chan) (s : State) : Host.Outcome State Fault Refusal :=
  .next (s.whenReleased fun s => s.expireOpen c)

/-- CLOSE_TIMER_EXPIRY (R73, R74). -/
def execCloseTimerExpiry (c : Chan) (s : State) : Host.Outcome State Fault Refusal :=
  .next (s.whenReleased fun s => s.expireClose c)

/-- NO_FLOW_TIMER_EXPIRY (R79). -/
def execNoFlowTimerExpiry (c : Chan) (s : State) : Host.Outcome State Fault Refusal :=
  .next (s.whenReleased fun s => s.expireNoFlow c)

/-- OPEN_SECONDS_TICK (R109, R110). -/
def execOpenSecondsTick (c : Chan) (s : State) : Host.Outcome State Fault Refusal :=
  .next (s.whenReleased fun s => s.riseOpenSeconds c)

/-- STATION_SECONDS_TICK (R199). -/
def execStationSecondsTick (s : State) : Host.Outcome State Fault Refusal :=
  .next (s.whenReleased State.riseStationSeconds)

end Sys2Proof.Machine
end

