-- ==== Sys2Proof/Machine/Field.lean ====
section
/-!
DEFINITION. The meanings of the field pins (METER_PULSE, the end switches, PLOSS#) and of the three steps the part takes
by itself.
-/

namespace Sys2Proof.Machine

/-! ### Input pins (12.6) -/

/-- The bit of channel `c` set to a level. -/
def withBit (m : BitVec 8) (c : Chan) (level : Bool) : BitVec 8 :=
  if level then m ||| BitVec.twoPow 8 c.val else m &&& ~~~(BitVec.twoPow 8 c.val)

/-- MTRn is high at the pin. -/
def State.mtrPin (s : State) (c : Chan) : Bool := s.pins.mtr.getLsbD c.val

/-- VSWn# is asserted at the pin. -/
def State.vswPin (s : State) (c : Chan) : Bool := s.pins.vsw.getLsbD c.val

/-- R87: MTRn moves to a level; the time it has held its level starts from 0. -/
def State.moveMtr (s : State) (c : Chan) (high : Bool) : State :=
  if s.mtrPin c = high then s
  else (s.setPins { s.pins with mtr := withBit s.pins.mtr c high }).whenReleased fun t =>
    t.setChan c { t.chan c with mtrHeld := 0 }

/-- R73: VSWn# moves to a level. -/
def State.moveVsw (s : State) (c : Chan) (asserted : Bool) : State :=
  if s.vswPin c = asserted then s
  else (s.setPins { s.pins with vsw := withBit s.pins.vsw c asserted }).whenReleased fun t =>
    t.setChan c { t.chan c with vswHeld := 0 }

/-- R154: PLOSS# moves to a level. -/
def State.movePloss (s : State) (asserted : Bool) : State :=
  if s.pins.ploss = asserted then s
  else (s.setPins { s.pins with ploss := asserted }).whenReleased fun t => t.setHu { t.hu with plossHeld := 0 }

/-! ### Pulses (chapter 5) -/

/-- R87: a pulse is due on a present channel: its 2 ms high period is over. -/
def State.pulseDue (s : State) (c : Chan) : Bool := (s.chan c).present && (s.chan c).mtrDue

/-- R91, R92: a quantum credited to a run. -/
def creditRun {m : Nat} (quantum : Decimal m) (r : Run) : Run :=
  { r with
    delivered := addSaturating r.delivered quantum
    saturated := r.saturated || (addDecimal r.delivered quantum).2 }

/-- R96, R97: a quantum added to the totalizer. -/
def Channel.totalize (ch : Channel) (set : ChannelSettings) : Channel :=
  { ch with
    totalizer := (addDecimal ch.totalizer set.quantum).1
    wrapped := ch.wrapped || (addDecimal ch.totalizer set.quantum).2 }

/-- R79: a pulse while OPEN reloads the no-flow timer. -/
def Channel.reloadNoFlow (ch : Channel) : Channel :=
  if ch.valve = .opened then { ch with noFlowTimer := some ch.noFlowLoad } else ch

/-- R95: a quantum added to the unattributed volume. -/
def Channel.addUnattributed (ch : Channel) (set : ChannelSettings) : Channel :=
  { ch with unattributed := addSaturating ch.unattributed set.quantum }

/-- R78: the leak test of a pulse finds a leak. -/
def Channel.leaks (ch : Channel) (set : ChannelSettings) : Bool :=
  ch.valve == .closed && !ch.faults.leak && reaches ch.unattributed set.leakLimit

/-- R78: LEAK is detected. -/
def State.detectLeak (s : State) (c : Chan) : State :=
  let s1 := (s.addFault c fun f => { f with leak := true }).announce c
  if s1.site.leakHalts && s1.mu.station.active then s1.enqueue (.halt reasonLeak) else s1

/-- R93, R60: the completion test of a run after a pulse credited to it. -/
def State.testCompletion (s : State) (h : Nat) : State :=
  match findRun s.rm.pool h with
  | some r => if reaches r.delivered r.target then s.endRun h .complete else s
  | none => s

/-- R88: a pulse at a present channel with its settings. -/
def State.takePulse (s : State) (c : Chan) (set : ChannelSettings) : State :=
  match s.attributed c with
  | some r =>
    ((s.modRun r.handle (creditRun set.quantum)).setChan c ((s.chan c).totalize set).reloadNoFlow).testCompletion
      r.handle
  | none =>
    let ch := (((s.chan c).addUnattributed set).totalize set).reloadNoFlow
    let s1 := s.setChan c ch
    if ch.leaks set then s1.detectLeak c else s1

/-- R87: the pulse that was due is taken. -/
def Channel.spendPulse (ch : Channel) : Channel := { ch with mtrDue := false }

/-- R87, R88: a pulse that is due is taken; an absent channel takes none. -/
def State.meterPulse (s : State) (c : Chan) : State :=
  match (s.chan c).settings with
  | some set => if s.pulseDue c then ((s.setChan c (s.chan c).spendPulse).takePulse c set).conclude else s
  | none => s

/-! ### End switches (4.2) -/

/-- R75: the switch releases a STUCK valve. The fault kinds stay. -/
def Channel.releaseStuck (ch : Channel) : Channel := { ch with valve := .closed, stuckValues := none }

/-- R73, R75: what an assertion of the end switch does to a channel with a switch configured. -/
def State.switchCloses (s : State) (c : Chan) : State :=
  match (s.chan c).valve with
  | .closing => s.completeClose c
  | .stuck => s.setChan c (s.chan c).releaseStuck
  | _ => s

/-- R73: a level of VSWn# is due on a present channel: its 20 ms are over. -/
def State.switchDue (s : State) (c : Chan) (asserted : Bool) : Bool :=
  (s.chan c).present && (s.chan c).vswDue == some asserted

/-- R73: a level of VSWn# as taken. -/
def Channel.takeVsw (ch : Channel) (asserted : Bool) : Channel := { ch with vsw := some asserted, vswDue := none }

/-- R73, R75, R69: VSWn# is taken asserted (log 27). -/
def State.assertSwitch (s : State) (c : Chan) : State :=
  if s.switchDue c true then
    let s1 := s.setChan c ((s.chan c).takeVsw true)
    (if (s.chan c).hasSwitch then s1.switchCloses c else s1).conclude
  else s

/-- R73: VSWn# is taken deasserted (log 27). -/
def State.deassertSwitch (s : State) (c : Chan) : State :=
  if s.switchDue c false then s.setChan c ((s.chan c).takeVsw false) else s

/-! ### Pressure loss (R154) -/

/-- R154: with PLE set, a level of PLOSS# is due: its 20 ms are over. -/
def State.plossReady (s : State) (asserted : Bool) : Bool := s.straps.ple && s.hu.plossDue == some asserted

/-- The PLOSS# level as taken. -/
def State.takePloss (s : State) (asserted : Bool) : State :=
  s.setHu { s.hu with ploss := asserted, plossTaken := true, plossDue := none }

/-- R154: a level of PLOSS# is due as an edge: it follows the other level, which has been taken. -/
def State.plossEdgeDue (s : State) (asserted : Bool) : Bool :=
  s.plossReady asserted && s.hu.plossTaken && s.hu.ploss != asserted

/-- R154: a falling edge: the asserted level is taken after the deasserted level. -/
def State.plossFalls (s : State) : State :=
  if s.plossEdgeDue true then
    let s1 := s.takePloss true
    if s1.mu.station.active then s1.enqueue (.halt reasonPressure) else s1
  else s

/-- R154: a rising edge; it queues nothing. -/
def State.plossRises (s : State) : State := if s.plossEdgeDue false then s.takePloss false else s

/-- R154: the first level after reset release is taken once and is no edge (log 25). -/
def State.plossAtRelease (s : State) (asserted : Bool) : State :=
  if s.plossReady asserted && !s.hu.plossTaken then s.takePloss asserted else s

/-! ### Meanings -/

/-- METER_PULSE (R87, R88, R78, R93): MTRn goes low or high, or the pulse that is due is taken. -/
def execMeterPulse (e : MeterEvent) (s : State) : Host.Outcome State Fault Refusal :=
  .next (match e with
    | .falls c => s.moveMtr c false
    | .rises c => s.moveMtr c true
    | .taken c => s.whenReleased fun s => s.meterPulse c)

/-- END_SWITCH_ASSERTION (R73, R75): the asserted level is taken where it is due; otherwise VSWn# goes asserted. -/
def execEndSwitchAssertion (c : Chan) (s : State) : Host.Outcome State Fault Refusal :=
  .next (if s.switchDue c true then s.whenReleased fun s => s.assertSwitch c else s.moveVsw c true)

/-- END_SWITCH_DEASSERTION (R73): the deasserted level is taken where it is due; otherwise VSWn# goes deasserted. -/
def execEndSwitchDeassertion (c : Chan) (s : State) : Host.Outcome State Fault Refusal :=
  .next (if s.switchDue c false then s.whenReleased fun s => s.deassertSwitch c else s.moveVsw c false)

/-- PLOSS_FALLING_EDGE (R154): the edge is taken where it is due; otherwise PLOSS# goes asserted. -/
def execPlossFallingEdge (s : State) : Host.Outcome State Fault Refusal :=
  .next (if s.plossEdgeDue true then s.whenReleased State.plossFalls else s.movePloss true)

/-- PLOSS_RISING_EDGE (R154): the edge is taken where it is due; otherwise PLOSS# goes deasserted. -/
def execPlossRisingEdge (s : State) : Host.Outcome State Fault Refusal :=
  .next (if s.plossEdgeDue false then s.whenReleased State.plossRises else s.movePloss false)

/-- PLOSS_LEVEL_AT_RESET_RELEASE (R154): a level of PLOSS# is taken as the first one after reset release, where it is due. -/
def execPlossLevelAtResetRelease (asserted : Bool) (s : State) : Host.Outcome State Fault Refusal :=
  .next (s.whenReleased fun s => s.plossAtRelease asserted)

/-- SELF_DROP_RELISTEN (R150). -/
def execSelfDropRelisten (s : State) : Host.Outcome State Fault Refusal := .next (s.whenReleased State.relistenTest)

/-- LEAVE_QUEUED (R147). -/
def execLeaveQueued (s : State) : Host.Outcome State Fault Refusal := .next (s.whenReleased State.leaveTest)

/-- HALT_ACK_QUEUED (R159). -/
def execHaltAckQueued (s : State) : Host.Outcome State Fault Refusal := .next (s.whenReleased State.ackTest)

end Sys2Proof.Machine
end

