-- ==== Sys2Proof/Machine/ReadCommands.lean ====
section
/-!
DEFINITION. The meanings of the host commands that report state (R192) and of READ_EVENTS (R196).
-/

namespace Sys2Proof.Machine

/-- R192: READ_ROSTER. -/
def State.runReadRoster (s : State) : State := s.accept s.rosterBytes

/-- R192: READ_ENTRY. -/
def State.runReadEntry (s : State) : State :=
  match toAddr (s.port.arg 0), toChan (s.port.arg 1) with
  | some a, some c => s.accept (entryBytes a c (slot s.ct.table a c))
  | _, _ => s.refuse .badArg

/-- R192: READ_SITE. -/
def State.runReadSite (s : State) : State := s.accept s.siteBytes

/-- R192: STATION_STATUS. -/
def State.runStationStatus (s : State) : State := s.accept s.statusBytes

/-- R196: every latched bit is reported and cleared. -/
def State.runReadEvents (s : State) : State := (s.setEvents ⟨0, 0⟩).accept s.eventBytes

/-- READ_ROSTER (R192). -/
def execReadRoster (s : State) : Host.Outcome State Fault Refusal :=
  .next (s.whenReleased fun s => s.onCommand .readRoster State.runReadRoster)

/-- READ_ENTRY (R192). -/
def execReadEntry (s : State) : Host.Outcome State Fault Refusal :=
  .next (s.whenReleased fun s => s.onCommand .readEntry State.runReadEntry)

/-- READ_SITE (R192). -/
def execReadSite (s : State) : Host.Outcome State Fault Refusal :=
  .next (s.whenReleased fun s => s.onCommand .readSite State.runReadSite)

/-- STATION_STATUS (R192). -/
def execStationStatus (s : State) : Host.Outcome State Fault Refusal :=
  .next (s.whenReleased fun s => s.onCommand .stationStatus State.runStationStatus)

/-- READ_EVENTS (R196). -/
def execReadEvents (s : State) : Host.Outcome State Fault Refusal :=
  .next (s.whenReleased fun s => s.onCommand .readEvents State.runReadEvents)

end Sys2Proof.Machine
end

