-- ==== Sys2Proof/Machine/SiteCommands.lean ====
section
/-!
DEFINITION. The meanings of the site commands that queue a frame (R189): SET_FLAGS, SET_GAUGE, HALT_COMMAND,
RELEASE_COMMAND, PURGE_COMMAND.
-/

namespace Sys2Proof.Machine

/-- R189: a site command is refused WRONG_STATE outside SYNCED and RESYNC by its first check. -/
def State.siteCommand (s : State) (f : State → State) : State :=
  if s.mu.station.takesSiteCommand then f s else s.refuse .wrongState

/-- R190, R129: the FLAG request of two masks: a flag named in both is named in the clear-mask alone. -/
def flagRequest (set clear : BitVec 16) : OutFrame := .flag (set &&& ~~~clear) clear

/-- R190. -/
def State.runSetFlags (s : State) : State :=
  s.siteCommand fun s =>
    (s.enqueue (flagRequest (word16 (s.port.arg 0) (s.port.arg 1)) (word16 (s.port.arg 2) (s.port.arg 3)))).accept []

/-- R191. -/
def State.runSetGauge (s : State) : State :=
  s.siteCommand fun s =>
    match readGauge (gaugeFieldOf (s.port.arg 0) (s.port.arg 1)) with
    | some g => (s.enqueue (.gauge g)).accept []
    | none => s.refuse .badArg

/-- R155. -/
def State.runHalt (s : State) : State := s.siteCommand fun s => (s.enqueue (.halt reasonCommand)).accept []

/-- R163. -/
def State.runRelease (s : State) : State :=
  s.siteCommand fun s =>
    if s.hu.halt ≠ .halted then s.refuse .wrongState
    else if s.pressureLost then s.refuse .inputAsserted
    else (s.enqueue .release).accept []

/-- R138. -/
def State.runPurge (s : State) : State :=
  s.siteCommand fun s =>
    match toAddr (s.port.arg 0) with
    | none => s.refuse .badArg
    | some t =>
      if s.hasOrphan t ∧ ¬ s.isMember t then (s.enqueue (.purge t)).accept [] else s.refuse .notOrphan

/-- SET_FLAGS (R190). -/
def execSetFlags (s : State) : Host.Outcome State Fault Refusal :=
  .next (s.whenReleased fun s => s.onCommand .setFlags State.runSetFlags)

/-- SET_GAUGE (R191). -/
def execSetGauge (s : State) : Host.Outcome State Fault Refusal :=
  .next (s.whenReleased fun s => s.onCommand .setGauge State.runSetGauge)

/-- HALT_COMMAND (R155). -/
def execHaltCommand (s : State) : Host.Outcome State Fault Refusal :=
  .next (s.whenReleased fun s => s.onCommand .halt State.runHalt)

/-- RELEASE_COMMAND (R163). -/
def execReleaseCommand (s : State) : Host.Outcome State Fault Refusal :=
  .next (s.whenReleased fun s => s.onCommand .release State.runRelease)

/-- PURGE_COMMAND (R138). -/
def execPurgeCommand (s : State) : Host.Outcome State Fault Refusal :=
  .next (s.whenReleased fun s => s.onCommand .purge State.runPurge)

end Sys2Proof.Machine
end

