-- ==== Sys2Proof/Machine/Clock.lean ====
section
/-!
DEFINITION. One millisecond of the timebase, which is what a step with an empty queue is (log 4): a waiting host command
executes (log 7), what is due is taken in a fixed order (log 6), and every running timer and count moves by one.
-/

namespace Sys2Proof.Machine

/-- R184: the execution of the command the port waits with. -/
def State.runCommand (s : State) : Option HostCommand → State
  | some .siteConfig => s.runSiteConfig
  | some .channelConfig => s.runChannelConfig
  | some .join => s.runJoin
  | some .leave => s.runLeave
  | some .submit => s.runSubmit
  | some .loadRun => s.runLoadRun
  | some .cancel => s.runCancel
  | some .queryRun => s.runQueryRun
  | some .readChannel => s.runReadChannel
  | some .clearFault => s.runClearFault
  | some .readLog => s.runReadLog
  | some .peekLog => s.runPeekLog
  | some .logStatus => s.runLogStatus
  | some .setFlags => s.runSetFlags
  | some .setGauge => s.runSetGauge
  | some .halt => s.runHalt
  | some .release => s.runRelease
  | some .purge => s.runPurge
  | some .readRoster => s.runReadRoster
  | some .readEntry => s.runReadEntry
  | some .readSite => s.runReadSite
  | some .stationStatus => s.runStationStatus
  | some .readEvents => s.runReadEvents
  | none => s.runBadCommand

/-- A waiting command executes. -/
def State.runWaiting (s : State) : State :=
  if s.port.state = .executing then s.runCommand (s.port.command.bind decodeCommand) else s

/-! ### Counting -/

/-- A running timer loses one millisecond. -/
def countDown (t : Option Nat) : Option Nat := t.map fun n => n - 1

/-- One millisecond of a channel's timers, and of its accumulator while the valve is OPENING or OPEN (R109). -/
def Channel.count (ch : Channel) : Channel :=
  { ch with
    openTimer := countDown ch.openTimer
    closeTimer := countDown ch.closeTimer
    noFlowTimer := countDown ch.noFlowTimer
    accumulator := if ch.valve.driven then ch.accumulator + 1 else ch.accumulator }

/-- R87: a sample of MTRn: the time its level has held. At 2 ms the low level is taken; at 2 ms of the high level after it a
pulse is due, and the low level is required anew. -/
def Channel.sampleMtr (ch : Channel) (high : Bool) : Channel :=
  let held := min 2 (ch.mtrHeld + 1)
  let taken := decide (held = 2)
  { ch with
    mtrHeld := held
    mtrLow := if taken then !high else ch.mtrLow
    mtrDue := ch.mtrDue || (taken && high && ch.mtrLow) }

/-- R73: a sample of VSWn#: the time its level has held. At 20 ms a level other than the last taken is due. -/
def Channel.sampleVsw (ch : Channel) (asserted : Bool) : Channel :=
  let held := min 20 (ch.vswHeld + 1)
  { ch with
    vswHeld := held
    vswDue := if held = 20 ∧ ch.vsw ≠ some asserted then some asserted else ch.vswDue }

/-- One millisecond of a channel, which samples its inputs while it is present (R73, R87). -/
def State.countChan (s : State) (c : Chan) : Channel :=
  let ch := (s.chan c).count
  if ch.present then (ch.sampleMtr (s.mtrPin c)).sampleVsw (s.vswPin c) else ch

/-- One millisecond of a member's silence timer. -/
def Member.count (m : Member) : Member := { m with silence := countDown m.silence }

/-- R154: a sample of PLOSS#: the time its level has held. At 20 ms the first level, or a level other than the last taken, is
due. -/
def HaltUnit.samplePloss (h : HaltUnit) (asserted : Bool) : HaltUnit :=
  let held := min 20 (h.plossHeld + 1)
  { h with
    plossHeld := held
    plossDue := if held = 20 ∧ (h.plossTaken = false ∨ h.ploss ≠ asserted) then some asserted else h.plossDue }

/-- One millisecond of the halt unit: the round timer, and PLOSS#, which is sampled with PLE set (R154). -/
def State.countHalt (s : State) : HaltUnit :=
  let h := { s.hu with roundTimer := countDown s.hu.roundTimer }
  if s.straps.ple then h.samplePloss s.pins.ploss else h

/-- One millisecond of every timer and count. -/
def State.count (s : State) : State :=
  ((((s.setChans (Vector.ofFn s.countChan)).setMu { s.mu with
        roster := mapVec (Option.map Member.count) s.mu.roster
        listenWindow := countDown s.mu.listenWindow }).setHu s.countHalt).setBus { s.bus with
    beatTimer := countDown s.bus.beatTimer }).setClock ⟨s.clock.seconds, s.clock.millis + 1⟩

/-! ### What is due -/

/-- What is due at one channel: its inputs, the open second, then the open, close and no-flow timers. -/
def State.channelDue (s : State) (c : Chan) : State :=
  (((((((s.assertSwitch c).deassertSwitch c).meterPulse c).riseOpenSeconds c).expireOpen c).expireClose c).expireNoFlow c)

/-- R154: a level of PLOSS# that is due, as the first one or as an edge. -/
def State.takePlossDue (s : State) : State :=
  (((s.plossAtRelease true).plossAtRelease false).plossFalls).plossRises

/-- Everything that is due, in the model's order (log 6): station seconds, PLOSS#, channels ascending, beat timer, silence
timers ascending, listen window, round timer. Each of them changes nothing when it is not due. -/
def State.takeDue (s : State) : State :=
  let s1 := (allChans.foldl State.channelDue s.riseStationSeconds.takePlossDue).expireBeat
  (allAddrs.foldl State.expireSilence s1).expireListen.expireRoundTimer

/-- A step with an empty queue: a waiting command executes, what is due is taken, and one millisecond is counted; nothing
while RST# is low. What the count makes due waits for its row, or for the next such step (log 5). -/
def State.tick (s : State) : State := s.whenReleased fun s => s.runWaiting.takeDue.count

end Sys2Proof.Machine
end

