-- ==== Sys2Proof/Machine/Appliers.lean ====
section
/-!
DEFINITION. The application of frames (R127): CLAIM, FLAG and GAUGE by the claim table, DROP, PURGE and LEAVE by the
membership unit, HALT, HALT_ACK and RELEASE by the halt unit, and BEAT in the stages of R7; then recomputation,
evaluation and the report of a gap.
-/

namespace Sys2Proof.Machine

/-! ### CLAIM, FLAG, GAUGE (1.2, 1.4, 1.5) -/

/-- R3, R4, R5: a CLAIM of sender `a`; out-of-range content changes nothing. The demand of a GONE is not examined. -/
def State.applyClaim (s : State) (a : Addr) (channel level demand phase cause : Byte) : State :=
  match toChan channel, toLevel level with
  | some c, some l =>
    if phase = 0 then
      match toCause cause.toNat with
      | some k =>
        let s1 := s.setTable (setSlot s.ct.table a c none)
        if k = .complete then s1.setCt { s1.ct with pointers := s1.ct.pointers.set l.val (a + 1) } else s1
      | none => s
    else
      match toPhase phase.toNat, toDemand demand with
      | some p, some d => s.setTable (setSlot s.ct.table a c (some ⟨l, d, p, false, false⟩))
      | _, _ => s
  | _, _ => s

/-- R10: a FLAG frame sets and then clears. -/
def State.applyFlag (s : State) (set clear : BitVec 16) : State :=
  s.setCt { s.ct with flags := (s.ct.flags ||| set) &&& ~~~clear }

/-- R11: the gauge a frame or BEAT leaves a member with: unchanged by a wrong presence nibble or a non-decimal digit. -/
def gaugeAfter (g : GaugeField) (old : Option Gauge) : Option Gauge := (readGauge g).getD old

/-- The gauge the copy holds for an address. -/
def State.gaugeOf (s : State) (a : Addr) : Option Gauge := (s.member a).bind Member.gauge

/-- R11: a GAUGE frame of sender `a`, and stage 2 of a BEAT. -/
def State.applyGauge (s : State) (a : Addr) (g : GaugeField) : State :=
  s.modMember a fun m => { m with gauge := gaugeAfter g m.gauge }

/-! ### DROP, PURGE, LEAVE (8.3, 8.4, 8.7) -/

/-- R136: what an entry leaves on the main when its owner is dropped. -/
def Entry.orphanLoad (e : Entry) : Nat :=
  match e.phase with
  | .flowing => e.demand
  | .yielding => e.demand
  | .stuck => e.demand
  | .asking => if e.latched then e.demand else 0
  | .paused => 0

/-- R136: the load of all entries of an owner. -/
def State.ownerLoad (s : State) (a : Addr) : Nat := sumRow Entry.orphanLoad s.ct.table[a.val]

/-- R136: a DROP naming a member other than the station. -/
def State.dropMember (s : State) (t : Addr) : State :=
  let load := s.ownerLoad t
  let s1 := if 0 < load then s.setOrphans (s.mu.orphans ++ [⟨t, load⟩]) else s
  s1.removeMember t

/-- R136, R139: a DROP or PURGE naming the station itself: a self-drop in SYNCED, RESYNC and LEAVING. -/
def State.selfDrop (s : State) : State := if s.mu.station.active then s.enterIsolated .selfDrop else s

/-- R136: an applied DROP. -/
def State.applyDrop (s : State) (target : Byte) : State :=
  match toAddr target with
  | none => s
  | some t => if t = s.own then s.selfDrop else if s.isMember t then s.dropMember t else s

/-- R139: an applied PURGE. -/
def State.applyPurge (s : State) (target : Byte) : State :=
  match toAddr target with
  | none => s
  | some t =>
    if t = s.own then s.selfDrop
    else if s.hasOrphan t then s.dropOrphan t
    else s.removeMember t

/-- R148: an applied LEAVE of a member other than the station. -/
def State.applyLeave (s : State) (a : Addr) : State := if a = s.own then s else s.removeMember a

/-! ### BEAT (1.3, 1.8) -/

/-- R134, R137, R143: stage 1 for a sender that is not a member: its record is added and its orphan record removed;
the station's own first BEAT in LISTENING makes it SYNCED. -/
def State.addMember (s : State) (a : Addr) (seq : Seq) (b : BeatBody) : State :=
  let m : Member :=
    { weight := clampWeight b.weight, cap := clampCapacity b.cap, capacity := clampCapacity b.capacity, gauge := none,
      lastSeq := seq, heard := s.clock.seconds, stale := false,
      silence := if a = s.own then none else some Config.silenceMs, silent := false }
  let s1 := ((s.setMember a (some m)).raise .rosterChanged).dropOrphan a
  if a = s.own ∧ s.mu.station = .listening then s1.enterSynced else s1

/-- R7 stage 1: the sender is added or its announcements are written. -/
def State.beatStation (s : State) (a : Addr) (seq : Seq) (b : BeatBody) : State :=
  if s.isMember a then
    s.modMember a fun m =>
      { m with weight := clampWeight b.weight, cap := clampCapacity b.cap, capacity := clampCapacity b.capacity }
  else s.addMember a seq b

/-- R16, R17: an orphan record of a BEAT that may enter the receiver's list beside `list`. -/
def State.acceptsOrphan (s : State) (list : List Orphan) (o : OrphanItem) : Option Orphan :=
  match toAddr o.station with
  | none => none
  | some t =>
    if t = s.own ∨ s.isMember t ∨ list.any (·.station == t) ∨ o.load = 0 ∨ Config.loadMax < o.load.toNat then none
    else some ⟨t, o.load.toNat⟩

/-- The receiver's orphan list with the acceptable records of a BEAT appended in the BEAT's order (R17; R16 from the
empty list). -/
def State.appendOrphans (s : State) (list : List Orphan) (items : List OrphanItem) : List Orphan :=
  items.foldl (fun acc o => acc ++ (s.acceptsOrphan acc o).toList) list

/-- R16: adoption of a BEAT's view. -/
def State.adoptView (s : State) (b : BeatBody) : State :=
  let s1 := s.setCt { s.ct with flags := b.flags, pointers := b.pointers, adoptionPending := false }
  (s1.setOrphans (s1.appendOrphans [] b.orphans)).adoptHalt (toHaltState b.haltState) (toReasons b.reasons)

/-- R17, R18: merge of a BEAT's view from sender `a`, with VIEW_MERGED when it changes any part. -/
def State.mergeView (s : State) (a : Addr) (b : BeatBody) : State :=
  let flags := s.ct.flags ||| b.flags
  let pointers := if a < s.own then b.pointers else s.ct.pointers
  let orphans := s.appendOrphans s.mu.orphans b.orphans
  let s1 := ((s.setCt { s.ct with flags := flags, pointers := pointers }).setOrphans orphans).mergeHalt
    (toHaltState b.haltState) (toReasons b.reasons)
  s1.raiseIf
    (flags != s.ct.flags || pointers != s.ct.pointers || orphans != s.mu.orphans ||
      (s.hu.halt != .halted && s1.hu.halt == .halted)) .viewMerged

/-- R15: the treatment of the view part. `adopt` says that adoption was pending when the application of the BEAT began
(log 13). -/
def State.beatView (s : State) (a : Addr) (b : BeatBody) (adopt : Bool) : State :=
  match s.mu.station with
  | .isolated => s
  | .clash => s
  | .config => s
  | _ => if adopt then s.adoptView b else s.mergeView a b

/-- R8: one item of the entry list: none when it is skipped. -/
def readItem (mayLatch : Bool) (i : EntryItem) : Option (Chan × Entry) :=
  match toChan i.channel, toLevel i.level, toDemand i.demand, toPhase i.phase.toNat with
  | some c, some l, some d, some p => some (c, ⟨l, d, p, mayLatch && p == .asking && i.latched == 1, false⟩)
  | _, _, _, _ => none

/-- R8 stage 4: the entries of an owner replaced by the list, the items taken in list order. -/
def replaceEntries (t : Table) (a : Addr) (mayLatch : Bool) (items : List EntryItem) : Table :=
  (items.filterMap (readItem mayLatch)).foldl (fun t i => setSlot t a i.1 (some i.2)) (clearRow t a)

/-- R7 stage 4, R145: the sender's entries replaced; the sender is no longer stale. -/
def State.beatEntries (s : State) (a : Addr) (items : List EntryItem) : State :=
  (s.setTable (replaceEntries s.ct.table a (s.hu.halt == .none && !s.frozen) items)).modMember a fun m =>
    { m with stale := false }

/-- R7 stages 1 to 5 of a BEAT. -/
def State.applyBeat (s : State) (a : Addr) (seq : Seq) (b : BeatBody) : State :=
  let s1 := s.beatStation a seq b
  let s2 := s1.applyGauge a b.gauge
  let s3 := (s2.beatView a b s.ct.adoptionPending).settleRemoval a
  (s3.beatEntries a b.entries).refreshView

/-! ### The whole of one frame (R126, R127) -/

/-- R127: the applier of a frame by its kind. -/
def State.applyBody (s : State) (f : Frame) : State :=
  match f.body with
  | .beat b => s.applyBeat f.sender f.seq b
  | .claim channel level demand phase cause => s.applyClaim f.sender channel level demand phase cause
  | .flag set clear => s.applyFlag set clear
  | .gauge g => s.applyGauge f.sender g
  | .drop t => s.applyDrop t
  | .purge t => s.applyPurge t
  | .leave => s.applyLeave f.sender
  | .halt r => s.applyHalt (toReasons r)
  | .haltAck m => s.applyHaltAck f.sender m
  | .release => s.applyRelease

/-- R103: whether an applied frame that took `s` to `t` calls for an evaluation: every FLAG; a change of the sender's
gauge, of a flag, or an adoption or addition by a BEAT; the removal of a member. -/
def evaluationDue (f : Frame) (s t : State) : Bool :=
  match f.body with
  | .flag .. => true
  | .gauge _ => s.gaugeOf f.sender != t.gaugeOf f.sender
  | .beat _ =>
    s.gaugeOf f.sender != t.gaugeOf f.sender || s.ct.flags != t.ct.flags || !s.isMember f.sender ||
      (s.ct.adoptionPending && !t.ct.adoptionPending)
  | .drop _ => s.rosterSet != t.rosterSet
  | .purge _ => s.rosterSet != t.rosterSet
  | .leave => s.rosterSet != t.rosterSet
  | _ => false

/-- R126: the frame of a member has a gap. -/
def State.hasGap (s : State) (f : Frame) : Bool := (s.member f.sender).any fun m => f.seq != m.lastSeq + 1

/-- R126, R134, R135: what every applied frame of a member writes into its record: last SEQ, time last heard, and a
silence timer started again (the station's own record has none). -/
def State.hear (s : State) (f : Frame) : State :=
  s.modMember f.sender fun m =>
    { m with
      lastSeq := f.seq
      heard := s.clock.seconds
      silence := if f.sender = s.own then none else some Config.silenceMs
      silent := false }

/-- R127, R20, R103, R126, R145: the application of one frame: its applier, the recomputation, the evaluation it calls
for, the report of a gap, and the test of the stale set. -/
def State.applyFrame (s : State) (f : Frame) : State :=
  let s1 := s.hear f
  let s2 := s1.applyBody f
  let s3 := s2.recompute.evaluateIf (evaluationDue f s1 s2)
  let s4 := if s.hasGap f then s3.lostFrame else s3
  s4.staleTest.conclude

/-! ### The receive checker's hand-off (7.4) -/

/-- R124: a frame of another station's making that passed the envelope checks: the last sender is updated, a frame
with the own address is a clash, frames of members and BEATs are applied, others ignored; in CONFIG nothing is
applied. -/
def State.classify (s : State) (f : Frame) : State :=
  let s1 := s.setBus { s.bus with lastSender := f.sender }
  if f.sender = s.own then
    if s.mu.station = .clash then s1 else s1.enterClash.conclude
  else if s.mu.station = .config then s1
  else
    match f.body with
    | .beat _ => s1.applyFrame f
    | _ => if s.isMember f.sender then s1.applyFrame f else s1

/-- R115: the receiver would take a first character: idle has been detected since the last frame, and the station does
not hold the line itself. -/
def State.canReceive (s : State) : Bool := s.bus.rxReady && s.bus.tx.isNone

/-- R115, R117: the receiver takes no further character until the next idle detection, and a start bit has been seen in the
round. -/
def State.endReception (s : State) : State := s.setBus { s.bus with rxReady := false, access := .closed }

/-- R123: a receive error: the frame is discarded, and the membership unit is told. -/
def State.receiveError (s : State) : State := s.lostFrame.conclude

/-- R115, R122, R124: a complete frame crosses the line. One that cannot be told by its counts (R122 check 4) is a
receive error. -/
def State.receiveFrame (s : State) (f : Frame) : State :=
  if s.canReceive then
    if bodyFits f.body then s.endReception.classify f else s.endReception.receiveError
  else s

/-- R115, R122: the characters of the line since idle detection. A fragment is discarded at the next idle detection. -/
def State.receiveLine (s : State) (chars : List Byte) : State :=
  if s.canReceive then
    match receiveChars chars with
    | .notSync => s.endReception
    | .fragment => if chars.isEmpty then s else s.endReception
    | .error => s.endReception.receiveError
    | .frame f => s.endReception.classify f
  else s

end Sys2Proof.Machine
end

