-- ==== Sys2Proof/Machine/FrameEvents.lean ====
section
/-!
DEFINITION. The meanings of the ten rows for complete frames from the line. Each frame goes through the classification
of R124 (log 10) and, where that hands it on, to its applier.
-/

namespace Sys2Proof.Machine

/-- A frame from the line with its envelope fields. -/
def State.takeFrame (s : State) (sender : Addr) (seq : Seq) (body : FrameBody) : State :=
  s.whenReleased fun s => s.receiveFrame ⟨sender, seq, body⟩

/-- BEAT_FRAME (R7, R8, R13–R18). -/
def execBeatFrame (sender : Addr) (seq : Seq) (b : BeatBody) (s : State) : Host.Outcome State Fault Refusal :=
  .next (s.takeFrame sender seq (.beat b))

/-- CLAIM_FRAME (R3, R4, R5). -/
def execClaimFrame (sender : Addr) (seq : Seq) (channel level demand phase cause : Byte) (s : State) :
    Host.Outcome State Fault Refusal :=
  .next (s.takeFrame sender seq (.claim channel level demand phase cause))

/-- FLAG_FRAME (R10). -/
def execFlagFrame (sender : Addr) (seq : Seq) (set clear : BitVec 16) (s : State) :
    Host.Outcome State Fault Refusal :=
  .next (s.takeFrame sender seq (.flag set clear))

/-- GAUGE_FRAME (R11). -/
def execGaugeFrame (sender : Addr) (seq : Seq) (g : GaugeField) (s : State) : Host.Outcome State Fault Refusal :=
  .next (s.takeFrame sender seq (.gauge g))

/-- DROP_FRAME (R136). -/
def execDropFrame (sender : Addr) (seq : Seq) (target : Byte) (s : State) : Host.Outcome State Fault Refusal :=
  .next (s.takeFrame sender seq (.drop target))

/-- PURGE_FRAME (R139). -/
def execPurgeFrame (sender : Addr) (seq : Seq) (target : Byte) (s : State) : Host.Outcome State Fault Refusal :=
  .next (s.takeFrame sender seq (.purge target))

/-- LEAVE_FRAME (R148). -/
def execLeaveFrame (sender : Addr) (seq : Seq) (s : State) : Host.Outcome State Fault Refusal :=
  .next (s.takeFrame sender seq .leave)

/-- HALT_FRAME (R156, R157). -/
def execHaltFrame (sender : Addr) (seq : Seq) (reasons : Byte) (s : State) : Host.Outcome State Fault Refusal :=
  .next (s.takeFrame sender seq (.halt reasons))

/-- HALT_ACK_FRAME (R160, R162). -/
def execHaltAckFrame (sender : Addr) (seq : Seq) (mask : Byte) (s : State) : Host.Outcome State Fault Refusal :=
  .next (s.takeFrame sender seq (.haltAck mask))

/-- RELEASE_FRAME (R164, R165). -/
def execReleaseFrame (sender : Addr) (seq : Seq) (s : State) : Host.Outcome State Fault Refusal :=
  .next (s.takeFrame sender seq .release)

end Sys2Proof.Machine
end

