-- ==== Sys2Proof/Machine/Reset.lean ====
section
/-!
DEFINITION. The meanings of RESET and RESET_RELEASE (R198, R202).
-/

namespace Sys2Proof.Machine

/-- RESET (R202, R19, R22, R67, R86, R100, R113, R132, R152, R170, R181, R200): RST# low or power-up returns every block
to its reset state and holds it there. The queue of commands is the outside's, and the strap latch is written at the
release (log 3); the levels on the field inputs are the outside's too (log 33). -/
def execReset (s : State) : Host.Outcome State Fault Refusal :=
  .next { State.reset with pending := s.pending, inReset := true, straps := s.straps, pins := s.pins, free := s.free }

/-- RESET_RELEASE (R198, R199): at the rising edge of RST# the straps are sampled and station seconds start from 0. With
RST# high there is no rising edge and nothing changes. -/
def execResetRelease (pins : StrapPins) (s : State) : Host.Outcome State Fault Refusal :=
  .next (if s.inReset then ((s.setInReset false).setStraps pins).setClock ⟨0, 0⟩ else s)

end Sys2Proof.Machine
end

