-- ==== Sys2Proof/Machine/Transmit.lean ====
section
/-!
DEFINITION. The line and the transmit engine (chapter 7): rank and start moments, the building of a frame, and the
meanings of IDLE_DETECTION, ACCESS_ROUND_EXPIRY, TRANSMISSION_START, READBACK_FAILURE, FRAME_SENT, RECEIVE_ERROR,
FRAME_IGNORED, CLASH_FRAME_RECEIVED and NON_SYNC_FIRST_CHARACTER.
-/

namespace Sys2Proof.Machine

/-! ### Access (7.2) -/

/-- R116: the rank, (own address − last sender − 1) mod 16. -/
def State.rank (s : State) : Addr := s.own - s.bus.lastSender - 1

/-- R117: a start moment, in bit times from the start of the round. -/
def State.momentAt (s : State) (m : Moment) : Nat :=
  match m with
  | .urgent => s.rank.val * 3
  | .normal => 48 + s.rank.val * 3

/-- R130: the front frame. -/
def State.front (s : State) : Option OutFrame := s.bus.outbound[frontPlace s.bus.outbound]?

/-- R117: a moment of the station is still to come in the round, on a line that has stayed recessive. -/
def AccessRound.awaits : AccessRound → Moment → Bool
  | .fresh, _ => true
  | .urgentPassed, .normal => true
  | _, _ => false

/-- R117: the round with a moment of the station passed. -/
def AccessRound.after : Moment → AccessRound
  | .urgent => .urgentPassed
  | .normal => .normalPassed

/-- R117: the frame the station starts at a moment: the front frame, at the urgent moment only when it is urgent. -/
def State.startable (s : State) (m : Moment) : Option OutFrame := s.front.filter fun f => m == .normal || f.urgent

/-! ### Building a frame (R9, R119, 12.1) -/

/-- A gauge as a frame carries it; the digits of an absent gauge are free (log 18). -/
def gaugeFieldFor (free : Nat) (g : Option Gauge) : GaugeField :=
  match g with
  | some v => ⟨1, v.nibbles⟩
  | none => ⟨0, Config.absentGaugeDigits free⟩

/-- R9, 12.1: an entry item for channel `c`. The high nibble of an unlatched item is the model's choice (log 32): any value
but 1 says not latched. -/
def entryItem (c : Chan) (level : Level) (demand : Nat) (latched : Bool) (phase : Phase) : EntryItem :=
  ⟨byteOf c.val, byteOf level.val, byteOf demand, if latched then 1 else 0, BitVec.ofNat 4 phase.code⟩

/-- R9: the station's own entries as they stand in its copy, in channel order. -/
def State.ownItems (s : State) : List EntryItem :=
  allChans.filterMap fun c => (slot s.ct.table s.own c).map fun e => entryItem c e.level e.demand e.latched e.phase

/-- R9: in LISTENING, the head of a present channel that the BEAT lists. -/
def State.listedHead (s : State) (c : Chan) : Option Run := if (s.chan c).present then s.head c else none

/-- R9: in LISTENING, an ASKING item, unlatched, for each present channel that has a head. -/
def State.askingItems (s : State) : List EntryItem :=
  allChans.filterMap fun c => (s.listedHead c).map fun r => entryItem c r.level r.demand false .asking

/-- R9: the content of the station's BEAT. The undefined bits of the reason byte are the model's choice (log 31). -/
def State.beatBody (s : State) : BeatBody where
  weight := byteOf (s.straps.wt.val + 1)
  cap := byteOf s.site.cap
  capacity := byteOf s.site.capacity
  gauge := gaugeFieldFor s.free (s.gaugeOf s.own)
  flags := s.ct.flags
  pointers := s.ct.pointers
  haltState := byteOf s.hu.halt.code
  reasons := s.hu.reasons.setWidth 8
  orphans := s.mu.orphans.map fun o => ⟨byteOf o.station.val, BitVec.ofNat 16 o.load⟩
  entries := if s.mu.station = .listening then s.askingItems else s.ownItems

/-- 12.1: the payload of a CLAIM; the demand byte of a GONE is free (log 17). -/
def claimBody (free : Nat) (c : Chan) (k : ClaimContent) : FrameBody :=
  match k with
  | .live phase level demand => .claim (byteOf c.val) (byteOf level.val) (byteOf demand) (byteOf phase.code) 0
  | .gone level cause => .claim (byteOf c.val) (byteOf level.val) (Config.goneClaimDemand free) 0 (byteOf cause.code)

/-- R119: the payload of a frame whose transmission starts. The undefined bits of the reason byte of a HALT are the model's
choice (log 31). -/
def State.bodyOf (s : State) (f : OutFrame) : FrameBody :=
  match f with
  | .claim c k => claimBody s.free c k
  | .flag set clear => .flag set clear
  | .gauge g => .gauge (gaugeFieldFor s.free g)
  | .beat => .beat s.beatBody
  | .drop t => .drop (byteOf t.val)
  | .purge t => .purge (byteOf t.val)
  | .leave => .leave
  | .halt reasons => .halt (reasons.setWidth 8)
  | .haltAck mask => .haltAck mask
  | .release => .release

/-- R84: a channel that the first BEAT does not list is announced GONE, whatever an attempt that failed had listed. -/
def Announced.unlisted : Announced → Announced
  | .live _ => .gone none
  | .gone l => .gone l

/-- R84: the first BEAT in LISTENING sets the announced record of each channel: the ASKING item it carries for a channel it
lists, GONE for any other. -/
def State.announceListed (s : State) (c : Chan) : State :=
  s.setChan c { s.chan c with
    announced := match s.listedHead c with
      | some r => .live ⟨.asking, r.level, r.demand⟩
      | none => (s.chan c).announced.unlisted }

/-- R84: the announced records at the start of a transmission. -/
def State.announceBeat (s : State) (f : OutFrame) : State :=
  if f = .beat ∧ s.mu.station = .listening then allChans.foldl State.announceListed s else s

/-- R119: a frame leaves the outbound set and passes to the transmit engine with the current sequence number. -/
def State.startFrame (s : State) (f : OutFrame) : State :=
  let place := frontPlace s.bus.outbound
  let tx : Transmission := ⟨⟨s.own, s.bus.seq, s.bodyOf f⟩, f, place⟩
  ((s.announceBeat f).setBus
    { s.bus with outbound := s.bus.outbound.eraseIdx place, tx := some tx }).setFree (s.free + 1)

/-- R117, R119: a start moment of the station, while it is not sending. -/
def State.startMoment (s : State) (m : Moment) : State :=
  if s.bus.access.awaits m && s.bus.tx.isNone then
    let s1 := s.setBus { s.bus with access := .after m }
    match s1.startable m with
    | some f => s1.startFrame f
    | none => s1
  else s

/-- R114, R119, R202, 12.6: the level of the output SBTX (true is high, recessive) in a bit time of the transmission on the
line, counted from its start; high when nothing is sent, after the frame, and while RST# is low. -/
def State.sbtx (s : State) (bitTime : Nat) : Bool :=
  s.inReset || s.bus.tx.all fun t => (frameLevels t.frame).getD bitTime true

/-! ### The end of a transmission -/

/-- R117, R121: the round after a failed attempt. An attempt that failed at its own start bit leaves the line recessive, and
the round goes on; one that failed later has shown a start bit, and the station waits for the next idle detection. The row says
which of them it was (log 22). -/
def State.accessAfterFailure (s : State) (m : Mismatch) : AccessRound :=
  match m with
  | .startBit => s.bus.access
  | .later => .closed

/-- R119: the engine stops, the frame goes back to its former place and the failure count rises. -/
def State.returnFrame (s : State) (t : Transmission) (m : Mismatch) : State :=
  s.setBus { s.bus with
    tx := none
    outbound := restoreOut t.place t.item s.bus.outbound
    failures := s.bus.failures + 1
    access := s.accessAfterFailure m }

/-- R119, R121, R149: a readback failure; the third takes the station to ISOLATED, with its recomputation and the
evaluation that the removal of the own record calls for. -/
def State.failReadback (s : State) (m : Mismatch) : State :=
  match s.bus.tx with
  | none => s
  | some t =>
    let s1 := s.returnFrame t m
    if 3 ≤ s1.bus.failures then
      ((s1.enterIsolated .readback).recompute.evaluateIf (s1.isMember s1.own)).conclude
    else s1

/-- R120 steps 1 to 4, and R116. -/
def State.countSent (s : State) (t : Transmission) : State :=
  s.setBus { s.bus with
    tx := none
    failures := 0
    seq := s.bus.seq + 1
    beatTimer := if t.item = .beat then some Config.beatMs else s.bus.beatTimer
    lastSender := s.own
    rxReady := false
    access := .closed }

/-- R120: a clean send. The station's own frame is applied in the same step (log 9); its LEAVE takes it to CONFIG
(R147). -/
def State.sendClean (s : State) : State :=
  match s.bus.tx with
  | none => s
  | some t =>
    let s1 := s.countSent t
    if t.item = .leave then s1.enterConfig.conclude else s1.applyFrame t.frame

/-- R115: the line has been recessive for 11 bit times: a fragment is discarded and an access round begins. It cannot be
while the station itself sends. -/
def State.detectIdle (s : State) : State :=
  if s.bus.tx.isNone then s.setBus { s.bus with rxReady := true, access := .fresh } else s

/-- R117: the round ends with the line still idle, and a new one begins with the same ranks. After a start bit the station
waits for the next idle detection instead. -/
def State.nextRound (s : State) : State :=
  if s.bus.tx.isNone && s.bus.access != .closed then s.setBus { s.bus with access := .fresh } else s

/-- R115: a first character that does not hold SYNC. -/
def State.takeNonSync (s : State) (b : Byte) : State :=
  if s.canReceive && b != syncChar then s.endReception else s

/-! ### Meanings -/

/-- IDLE_DETECTION (R115, R117). -/
def execIdleDetection (s : State) : Host.Outcome State Fault Refusal := .next (s.whenReleased State.detectIdle)

/-- ACCESS_ROUND_EXPIRY (R117). -/
def execAccessRoundExpiry (s : State) : Host.Outcome State Fault Refusal := .next (s.whenReleased State.nextRound)

/-- TRANSMISSION_START (R117, R119, R9, R84). -/
def execTransmissionStart (m : Moment) (s : State) : Host.Outcome State Fault Refusal :=
  .next (s.whenReleased fun s => s.startMoment m)

/-- READBACK_FAILURE (R119, R121, R149, R117) with the bit at which the attempt failed. -/
def execReadbackFailure (s : State) (m : Mismatch := .later) : Host.Outcome State Fault Refusal :=
  .next (s.whenReleased fun s => s.failReadback m)

/-- FRAME_SENT (R120). -/
def execFrameSent (s : State) : Host.Outcome State Fault Refusal := .next (s.whenReleased State.sendClean)

/-- RECEIVE_ERROR (R122, R123) with the characters of the line. -/
def execReceiveError (chars : List Byte) (s : State) : Host.Outcome State Fault Refusal :=
  .next (s.whenReleased fun s => s.receiveLine chars)

/-- FRAME_IGNORED (R124): a frame for the classification, which ignores it when its sender is no member and it is no
BEAT (log 10). -/
def execFrameIgnored (sender : Addr) (seq : Seq) (body : FrameBody) (s : State) : Host.Outcome State Fault Refusal :=
  .next (s.whenReleased fun s => s.receiveFrame ⟨sender, seq, body⟩)

/-- CLASH_FRAME_RECEIVED (R125): a frame with the station's own address as its sender. -/
def execClashFrameReceived (seq : Seq) (body : FrameBody) (s : State) : Host.Outcome State Fault Refusal :=
  .next (s.whenReleased fun s => s.receiveFrame ⟨s.own, seq, body⟩)

/-- NON_SYNC_FIRST_CHARACTER (R115). -/
def execNonSyncFirstCharacter (b : Byte) (s : State) : Host.Outcome State Fault Refusal :=
  .next (s.whenReleased fun s => s.takeNonSync b)

end Sys2Proof.Machine
end

