-- ==== Sys2Proof/Machine/Dispatch.lean ====
section
/-!
DEFINITION. The meaning of each command of the block, one arm per row of spec/opcode_table.json.
-/

namespace Sys2Proof.Machine

/-- The effect of a command on everything but the queue. -/
def exec (i : Instr) (s : State) : Host.Outcome State Fault Refusal :=
  match i with
  | .commandByteWrite b => Sys2Proof.Machine.execCommandByteWrite b s
  | .argumentByteWrite b => Sys2Proof.Machine.execArgumentByteWrite b s
  | .writeWhileExecuting cd b => Sys2Proof.Machine.execWriteWhileExecuting cd b s
  | .responseByteRead => Sys2Proof.Machine.execResponseByteRead s
  | .badCommand => Sys2Proof.Machine.execBadCommand s
  | .siteConfig => Sys2Proof.Machine.execSiteConfig s
  | .channelConfig => Sys2Proof.Machine.execChannelConfig s
  | .join => Sys2Proof.Machine.execJoin s
  | .leaveCommand => Sys2Proof.Machine.execLeaveCommand s
  | .submit => Sys2Proof.Machine.execSubmit s
  | .loadRun => Sys2Proof.Machine.execLoadRun s
  | .cancel => Sys2Proof.Machine.execCancel s
  | .queryRun => Sys2Proof.Machine.execQueryRun s
  | .readChannel => Sys2Proof.Machine.execReadChannel s
  | .clearFault => Sys2Proof.Machine.execClearFault s
  | .readLog => Sys2Proof.Machine.execReadLog s
  | .peekLog => Sys2Proof.Machine.execPeekLog s
  | .logStatus => Sys2Proof.Machine.execLogStatus s
  | .setFlags => Sys2Proof.Machine.execSetFlags s
  | .setGauge => Sys2Proof.Machine.execSetGauge s
  | .haltCommand => Sys2Proof.Machine.execHaltCommand s
  | .releaseCommand => Sys2Proof.Machine.execReleaseCommand s
  | .purgeCommand => Sys2Proof.Machine.execPurgeCommand s
  | .readRoster => Sys2Proof.Machine.execReadRoster s
  | .readEntry => Sys2Proof.Machine.execReadEntry s
  | .readSite => Sys2Proof.Machine.execReadSite s
  | .stationStatus => Sys2Proof.Machine.execStationStatus s
  | .readEvents => Sys2Proof.Machine.execReadEvents s
  | .idleDetection => Sys2Proof.Machine.execIdleDetection s
  | .accessRoundExpiry => Sys2Proof.Machine.execAccessRoundExpiry s
  | .transmissionStart m => Sys2Proof.Machine.execTransmissionStart m s
  | .readbackFailure m => Sys2Proof.Machine.execReadbackFailure s m
  | .frameSent => Sys2Proof.Machine.execFrameSent s
  | .receiveError chars => Sys2Proof.Machine.execReceiveError chars s
  | .frameIgnored sender seq body => Sys2Proof.Machine.execFrameIgnored sender seq body s
  | .clashFrameReceived seq body => Sys2Proof.Machine.execClashFrameReceived seq body s
  | .beatFrame sender seq b => Sys2Proof.Machine.execBeatFrame sender seq b s
  | .claimFrame sender seq channel level demand phase cause => Sys2Proof.Machine.execClaimFrame sender seq channel level demand phase cause s
  | .flagFrame sender seq set clear => Sys2Proof.Machine.execFlagFrame sender seq set clear s
  | .gaugeFrame sender seq g => Sys2Proof.Machine.execGaugeFrame sender seq g s
  | .dropFrame sender seq target => Sys2Proof.Machine.execDropFrame sender seq target s
  | .purgeFrame sender seq target => Sys2Proof.Machine.execPurgeFrame sender seq target s
  | .leaveFrame sender seq => Sys2Proof.Machine.execLeaveFrame sender seq s
  | .haltFrame sender seq reasons => Sys2Proof.Machine.execHaltFrame sender seq reasons s
  | .haltAckFrame sender seq mask => Sys2Proof.Machine.execHaltAckFrame sender seq mask s
  | .releaseFrame sender seq => Sys2Proof.Machine.execReleaseFrame sender seq s
  | .beatTimerExpiry => Sys2Proof.Machine.execBeatTimerExpiry s
  | .silenceExpiry a => Sys2Proof.Machine.execSilenceExpiry a s
  | .listenWindowExpiry => Sys2Proof.Machine.execListenWindowExpiry s
  | .roundTimerExpiry => Sys2Proof.Machine.execRoundTimerExpiry s
  | .openTimerExpiry c => Sys2Proof.Machine.execOpenTimerExpiry c s
  | .closeTimerExpiry c => Sys2Proof.Machine.execCloseTimerExpiry c s
  | .noFlowTimerExpiry c => Sys2Proof.Machine.execNoFlowTimerExpiry c s
  | .openSecondsTick c => Sys2Proof.Machine.execOpenSecondsTick c s
  | .stationSecondsTick => Sys2Proof.Machine.execStationSecondsTick s
  | .meterPulse c => Sys2Proof.Machine.execMeterPulse c s
  | .endSwitchAssertion c => Sys2Proof.Machine.execEndSwitchAssertion c s
  | .plossFallingEdge => Sys2Proof.Machine.execPlossFallingEdge s
  | .selfDropRelisten => Sys2Proof.Machine.execSelfDropRelisten s
  | .leaveQueued => Sys2Proof.Machine.execLeaveQueued s
  | .haltAckQueued => Sys2Proof.Machine.execHaltAckQueued s
  | .reset => Sys2Proof.Machine.execReset s
  | .resetRelease pins => Sys2Proof.Machine.execResetRelease pins s
  | .endSwitchDeassertion c => Sys2Proof.Machine.execEndSwitchDeassertion c s
  | .plossRisingEdge => Sys2Proof.Machine.execPlossRisingEdge s
  | .plossLevelAtResetRelease asserted => Sys2Proof.Machine.execPlossLevelAtResetRelease asserted s
  | .nonSyncFirstCharacter b => Sys2Proof.Machine.execNonSyncFirstCharacter b s

end Sys2Proof.Machine
end

