-- ==== Sys2Proof/Machine/Step.lean ====
section
/-!
DEFINITION. One step of the block, and a command put in front of the queue.
-/

namespace Sys2Proof.Machine

/-- `s` with its queue of waiting commands replaced. -/
def State.setPending (s : State) (v : List Instr) : State := { s with pending := v }

/-- One step: the command at the front of the queue takes effect on the state with the queue's rest; with an empty
queue one millisecond of the timebase passes (log 4). -/
def step (s : State) : Host.Outcome State Fault Refusal :=
  match s.pending with
  | [] => .next s.tick
  | c :: rest => exec c (s.setPending rest)

/-- `s` with the command that a word spells in front of its queue; no word of the table spells one. -/
def State.withFetchWord (s : State) (nbits w : Nat) : State :=
  match decodeTableWord nbits w with
  | some c => s.setPending (c :: s.pending)
  | none => s

end Sys2Proof.Machine
end

