-- ==== Sys2Proof/WellFormed.lean ====
section
/-!
DEFINITION. Which commands are well formed: a frame that crosses the line whole can be told by its counts (R122), and the
operands of RECEIVE_ERROR, FRAME_IGNORED and NON_SYNC_FIRST_CHARACTER are of the kind their rows name. A command that is
not well formed still has the effect that its operands give (log 10).
-/

namespace Sys2Proof

/-- R124: a frame that is ignored is of a kind other than BEAT. -/
def FrameBody.isBeat : FrameBody → Bool
  | .beat _ => true
  | _ => false

/-- The check of one command. -/
def Instr.wellFormed : Instr → Bool
  | .receiveError chars => Machine.receiveChars chars == .error
  | .frameIgnored _ _ body => !body.isBeat
  | .clashFrameReceived _ body => Machine.bodyFits body
  | .beatFrame _ _ b => Machine.bodyFits (.beat b)
  | .nonSyncFirstCharacter b => b != Machine.syncChar
  | _ => true

end Sys2Proof
end

