-- ==== Sys2Proof/Safety.lean ====
section
/-!
DEFINITION. What counts as a sound state of the block: the laws the spec says the part keeps. Claims say that every step
keeps them.
-/

namespace Sys2Proof.Machine

/-! ### Delivery log and pool -/

/-- R171, R173: the reservation count is the number of live runs, records and reservations together never exceed 48, the
read position is one of 48 places, and the pool holds at most 24 runs (R40). -/
abbrev State.LogSound (s : State) : Prop :=
  s.log.reservations = s.rm.pool.length ∧ s.log.records.length + s.log.reservations ≤ Config.logMax ∧
    s.log.readPos < 48 ∧ s.rm.pool.length ≤ Config.poolMax

/-! ### Claim table -/

/-- 1.1, R5, R8, R30: the demand of an entry is 1–63, and only an ASKING entry bears the latched mark. -/
abbrev Entry.Sound (e : Entry) : Prop := 1 ≤ e.demand ∧ e.demand ≤ 63 ∧ (e.latched = true → e.phase = .asking)

/-- Every entry of the table is sound. -/
abbrev State.TableSound (s : State) : Prop := ∀ a : Addr, ∀ c : Chan, ∀ e ∈ slot s.ct.table a c, e.Sound

/-- R31: with an orphan record, or in HALTED or SETTLING, no entry bears the latched mark. -/
abbrev State.MarksSound (s : State) : Prop :=
  (s.frozen = true ∨ s.hu.halt ≠ .none) → ∀ a : Addr, ∀ c : Chan, ∀ e ∈ slot s.ct.table a c, e.latched = false

/-! ### Membership -/

/-- While RST# is low the part stands in CONFIG with an empty roster and orphan list. -/
abbrev State.ResetHeld (s : State) : Prop :=
  s.inReset = true → s.mu.station = .config ∧ (∀ a : Addr, s.isMember a = false) ∧ s.mu.orphans = []

/-- R128, R132: a frame is held, or on the line, only in SYNCED, RESYNC, LEAVING and LISTENING; in LISTENING it is a
BEAT. A frame on the line bears the own address, and a BEAT of the set is sent as a BEAT. -/
abbrev State.SendingSound (s : State) : Prop :=
  ((s.bus.tx.isSome = true ∨ s.bus.outbound ≠ []) → s.mu.station.active = true ∨ s.mu.station = .listening) ∧
    (s.mu.station = .listening → (∀ f ∈ s.bus.outbound, f = .beat) ∧ s.bus.tx.all (fun t => t.item == .beat) = true) ∧
    s.bus.tx.all (fun t => t.frame.sender == s.own && (t.item != .beat || t.frame.body.isBeat)) = true

/-- R133: the own address is in the own roster exactly in SYNCED, RESYNC and LEAVING. -/
abbrev State.OwnRecord (s : State) : Prop := s.isMember s.own = s.mu.station.active

/-- R2: no entry has an owner that is not a member. -/
abbrev State.EntriesOwned (s : State) : Prop :=
  ∀ a : Addr, s.isMember a = false → ∀ c : Chan, slot s.ct.table a c = none

/-- R137: the orphan list holds loads of 1–504, at most one record per station, none for a member and none for the
station itself. -/
abbrev State.OrphansSound (s : State) : Prop :=
  (s.mu.orphans.map Orphan.station).Nodup ∧
    ∀ o ∈ s.mu.orphans, 1 ≤ o.load ∧ o.load ≤ Config.loadMax ∧ s.isMember o.station = false ∧ o.station ≠ s.own

/-! ### Outbound set -/

/-- R128: at most one frame for each key. -/
abbrev State.OutboundKeyed (s : State) : Prop := s.bus.outbound.Pairwise fun f g => f.sameKey g = false

/-- R147: LEAVE is held, or on the line, only in LEAVING. -/
abbrev State.LeaveHeld (s : State) : Prop :=
  (OutFrame.leave ∈ s.bus.outbound ∨ s.bus.tx.any (fun t => t.item == .leave) = true) → s.mu.station = .leaving

/-! ### Runs and valves -/

/-- R40, R41: handles are 1–255 and no two live runs share one; a run has an end result exactly when it is CLOSING with
purpose ENDING. -/
abbrev State.RunsSound (s : State) : Prop :=
  (s.rm.pool.map Run.handle).Nodup ∧
    ∀ r ∈ s.rm.pool, 1 ≤ r.handle ∧ r.handle ≤ 255 ∧
      (r.endResult.isSome = true ↔ r.state = .closing .ending)

/-- R43: a channel has at most one head. -/
abbrev State.OneHead (s : State) : Prop :=
  s.rm.pool.Pairwise fun r q => (r.channel == q.channel && r.state.isHead && q.state.isHead) = false

/-- R42, R68, R70: an absent channel has no run, and its valve is CLOSED. -/
abbrev State.AbsentIdle (s : State) : Prop :=
  ∀ c : Chan, (s.chan c).present = false → (s.chan c).valve = .closed ∧ ∀ r ∈ s.rm.pool, r.channel ≠ c

/-- R43, R70: a run is FLOWING exactly while its valve is OPENING or OPEN, and its valve is CLOSING while it is. -/
abbrev State.HeadsMatch (s : State) : Prop :=
  ∀ r ∈ s.rm.pool, (r.state = .flowing → (s.chan r.channel).valve.driven = true) ∧
    (r.state.isClosing = true → (s.chan r.channel).valve = .closing)

/-- R70: a valve is OPENING or OPEN only while its channel's head is FLOWING, the station is SYNCED, the halt state is
NONE, and the channel is not in FAULT. -/
abbrev State.ValveLaw (s : State) : Prop :=
  ∀ c : Chan, (s.chan c).valve.driven = true →
    (∃ r ∈ s.rm.pool, r.channel = c ∧ r.state = .flowing) ∧ s.mu.station = .synced ∧ s.hu.halt = .none ∧
      (s.chan c).inFault = false

/-- R13, R14: the announced set holds the announced capacities of the members, ascending and each once, and the site
capacity view is the least of them, 0 with none. -/
abbrev State.ViewFormed (s : State) : Prop :=
  s.ct.announcedSet.Pairwise (fun v w => v < w) ∧
    (∀ v ∈ s.ct.announcedSet, ∃ a : Addr, ∃ m ∈ s.member a, m.capacity = v) ∧
    (∀ a : Addr, ∀ m ∈ s.member a, m.capacity ∈ s.ct.announcedSet) ∧
    s.ct.capacityView = s.ct.announcedSet.headD 0

/-- R15: adoption is pending only in LISTENING and RESYNC. -/
abbrev State.AdoptionSound (s : State) : Prop :=
  s.ct.adoptionPending = true → s.mu.station = .listening ∨ s.mu.station = .resync

/-- What R70 rests on: the soundness of runs, heads, absent channels, the pool's bound, the adoption condition and
LEAVE. -/
abbrev State.ValvesSound (s : State) : Prop :=
  s.ValveLaw ∧ s.HeadsMatch ∧ s.OneHead ∧ s.RunsSound ∧ s.AbsentIdle ∧ s.AdoptionSound ∧ s.LeaveHeld ∧
    s.rm.pool.length ≤ Config.poolMax

/-- R2 and R133 with what they rest on. -/
abbrev State.MembershipSound (s : State) : Prop := s.OwnRecord ∧ s.EntriesOwned ∧ s.SendingSound ∧ s.ResetHeld

/-! ### Conditions of statements -/

/-- The station is not one that listens again by itself once its valves have come to rest (R150). -/
abbrev State.Stays (s : State) : Prop := s.mu.station ≠ .isolated ∨ s.mu.cause ≠ .selfDrop

/-- The station does not listen again by itself at the end of an applied frame (R150): it is not ISOLATED by self-drop, or
some valve of a present channel is still CLOSING. -/
abbrev State.StaysOnFrame (s : State) : Prop :=
  s.Stays ∨ ∃ c : Chan, (s.chan c).present = true ∧ (s.chan c).valve = .closing ∧ (s.chan c).confirmed = false

/-- The station will apply a frame of the member `a` with number `seq`: it takes frames, `a` is another station and a
member, the number is the expected one (R126), and the station is not in CONFIG (R124). -/
abbrev State.Hears (s : State) (a : Addr) (seq : Seq) : Prop :=
  s.inReset = false ∧ s.canReceive = true ∧ a ≠ s.own ∧ s.mu.station ≠ .config ∧ s.StaysOnFrame ∧
    (s.member a).any (fun m => m.lastSeq + 1 == seq) = true

/-- The station will apply a BEAT of `a`, a member or not, without a gap. -/
abbrev State.HearsBeat (s : State) (a : Addr) (seq : Seq) (b : BeatBody) : Prop :=
  s.inReset = false ∧ s.canReceive = true ∧ a ≠ s.own ∧ s.mu.station ≠ .config ∧ s.StaysOnFrame ∧
    bodyFits (.beat b) = true ∧ ∀ m ∈ s.member a, seq = m.lastSeq + 1

/-- The station completes the send of `x` clean, a frame of its own with its expected number, in SYNCED, RESYNC or LEAVING; LEAVE
is sent to go (R147). -/
abbrev State.Sends (s : State) (x : Transmission) : Prop :=
  s.inReset = false ∧ s.bus.tx = some x ∧ x.frame.sender = s.own ∧ s.mu.station.active = true ∧ x.item ≠ .leave ∧
    (s.member s.own).any (fun m => m.lastSeq + 1 == x.frame.seq) = true

/-- R15: adoption is pending in a station state in which the view of a BEAT is adopted. -/
abbrev State.Adopts (s : State) : Prop :=
  s.ct.adoptionPending = true ∧ (s.mu.station = .listening ∨ s.mu.station = .resync)

/-- R15: the view of a BEAT is merged. -/
abbrev State.Merges (s : State) : Prop :=
  s.ct.adoptionPending = false ∧ s.mu.station ≠ .isolated ∧ s.mu.station ≠ .clash

/-- R16, R17: the orphan list after one orphan record of a BEAT, beside the own address and the roster. -/
def afterRecord (own : Addr) (members : Addr → Bool) (list : List Orphan) (o : OrphanItem) : List Orphan :=
  if h : o.station.toNat < 16 then
    if (⟨o.station.toNat, h⟩ : Addr) = own ∨ members ⟨o.station.toNat, h⟩ = true ∨
        (∃ x ∈ list, x.station = ⟨o.station.toNat, h⟩) ∨ o.load.toNat = 0 ∨ 504 < o.load.toNat then list
    else list ++ [⟨⟨o.station.toNat, h⟩, o.load.toNat⟩]
  else list

/-- R161, R165: from `s` to `t` the halt unit has been told that `d` left the roster. In an open round a member that has not
acked moves from the ack set to the missing set, and the round is tested; in every case it leaves the settle set, and the
settle set is tested. -/
abbrev State.ToldHalt (s t : State) (d : Addr) : Prop :=
  (s.hu.round = .opened → inSet s.hu.ackSet d = true → s.hu.acked[d.val] = none →
    t.hu.ackSet = removeAddr s.hu.ackSet d ∧ t.hu.missing = insertAddr s.hu.missing d ∧ t.hu.acked = s.hu.acked ∧
    (s.hu.ackedSet = removeAddr s.hu.ackSet d →
      t.hu.round = .unconfirmed ∧ t.hu.roundTimer = none ∧ t.hasEvent .haltUnconfirmed = true) ∧
    (s.hu.ackedSet ≠ removeAddr s.hu.ackSet d → t.hu.round = .opened ∧ t.hu.roundTimer = s.hu.roundTimer)) ∧
  (s.hu.round ≠ .opened ∨ inSet s.hu.ackSet d = false ∨ s.hu.acked[d.val] ≠ none →
    t.hu.round = s.hu.round ∧ t.hu.ackSet = s.hu.ackSet ∧ t.hu.missing = s.hu.missing ∧ t.hu.acked = s.hu.acked ∧
      t.hu.roundTimer = s.hu.roundTimer) ∧
  t.hu.settle = removeAddr s.hu.settle d ∧
  (s.hu.halt = .settling → t.hu.settle = 0 → t.hu.halt = .none ∧ t.hu.reasons = 0) ∧
  (s.hu.halt ≠ .settling ∨ t.hu.settle ≠ 0 → t.hu.halt = s.hu.halt ∧ t.hu.reasons = s.hu.reasons)

/-- R81, R82, R84: from `s` to `t` every channel announces its derivation: a CLAIM with it is pending where the announced
record held anything else, a GONE where the record held an entry and the derivation is GONE. -/
abbrev State.Reannounced (s t : State) : Prop :=
  ∀ c : Chan,
    (∀ k, t.derive c = some k → (t.chan c).announced = .live k ∧
      ((s.chan c).announced ≠ .live k →
        pendingClaim t.bus.outbound c = some (.live k.phase k.level k.demand))) ∧
    (t.derive c = none → ∀ k, (s.chan c).announced = .live k →
      ∃ l cause, pendingClaim t.bus.outbound c = some (.gone l cause))

/-- R158, R66, R146: from `s` to `t` no head stays FLOWING: a FLOWING head is CLOSING for the purpose and its valve closes,
unless an end switch that is asserted already completed the close. -/
abbrev State.ClosedHeads (s t : State) (p : Purpose) : Prop :=
  (∀ c : Chan, ∀ r ∈ t.head c, r.state ≠ .flowing) ∧
    ∀ c : Chan, ∀ r ∈ s.head c, r.state = .flowing → (s.chan c).valve.driven = true → (s.chan c).confirmed = false →
      { r with state := .closing p } ∈ t.rm.pool ∧ (t.chan c).valve = .closing ∧
        (t.chan c).closeTimer = some (s.chan c).closeLoad

/-- R149, R151: what an entry to ISOLATED or CLASH closes: no head stays FLOWING, and the valve of one that was FLOWING closes,
unless an end switch that is asserted already completed the close. The head is CLOSING for ISOLATE, unless the evaluation that
follows the removal of the own record takes its stop flag (R103, R108). -/
abbrev State.ClosedForIsolate (s t : State) : Prop :=
  (∀ c : Chan, ∀ r ∈ t.head c, r.state ≠ .flowing) ∧
    ∀ c : Chan, ∀ r ∈ s.head c, r.state = .flowing → (s.chan c).valve.driven = true → (s.chan c).confirmed = false →
      (t.chan c).valve = .closing ∧ (t.chan c).closeTimer = some (s.chan c).closeLoad ∧
        (s.stopSet r.stopFlag = false → { r with state := .closing .isolate } ∈ t.rm.pool)

/-- R169, R161, R165: what an entry to ISOLATED or CLASH leaves of the halt unit: ack pending cleared, and the own address told as
removed. Where it is no member the round record stands, and it leaves the settle set, which is tested where it was in it. That
no test is made where it was not in it is the model's choice (log 35). -/
abbrev State.OwnLeftHalt (s t : State) : Prop :=
  t.hu.ackPending = false ∧ (s.isMember s.own = true → s.ToldHalt t s.own) ∧
  (s.isMember s.own = false →
    t.hu.round = s.hu.round ∧ t.hu.ackSet = s.hu.ackSet ∧ t.hu.acked = s.hu.acked ∧ t.hu.missing = s.hu.missing ∧
    t.hu.roundTimer = s.hu.roundTimer ∧ t.hu.settle = removeAddr s.hu.settle s.own ∧
    (s.hu.halt = .settling → inSet s.hu.settle s.own = true → t.hu.settle = 0 →
      t.hu.halt = .none ∧ t.hu.reasons = 0) ∧
    (s.hu.halt ≠ .settling ∨ inSet s.hu.settle s.own = false ∨ t.hu.settle ≠ 0 →
      t.hu.halt = s.hu.halt ∧ t.hu.reasons = s.hu.reasons))

/-- R20, R22: the entries with their marks, and the allocator's result, are those of a recomputation over the entries of `pre`
in the state as it stands. -/
abbrev State.RecomputedFrom (t : State) (pre : Table) : Prop :=
  t.ct.table = ({ t with ct := { t.ct with table := pre } } : State).allocate.table ∧
    t.alloc = ({ t with ct := { t.ct with table := pre } } : State).allocate.result

/-- R20, R34: from `s` to `t` the recomputation over the entries of `pre` has been the only cause of a change to runs and
valves. -/
abbrev State.OnlyNotified (s t : State) (pre : Table) : Prop :=
  t.rm = ({ s with ct := { s.ct with table := pre, pointers := t.ct.pointers } } : State).recompute.rm ∧
    ∀ c : Chan, (t.chan c).valve =
      (({ s with ct := { s.ct with table := pre, pointers := t.ct.pointers } } : State).recompute.chan c).valve

/-- R34, R35, R36: from `s` to `t` the notices of the recomputation over the entries of `pre` have been taken, on channels
whose end switch does not confirm closure: a channel that may open and whose own entry it latched opens, and closes again only
where the evaluation of the same frame stops or preempts its head; one whose head was FLOWING and whose own entry is absent or not
placed closes. -/
abbrev State.NoticesTaken (s t : State) (pre : Table) : Prop :=
  s.RunsSound → s.OneHead → ∀ c : Chan, (s.chan c).confirmed = false →
    (({ s with ct := { s.ct with table := pre } } : State).canOpen c = true →
      (∀ e ∈ slot pre s.own c, e.latched = false) → (∃ e ∈ slot t.ct.table s.own c, e.latched = true) →
      ((t.chan c).valve = .opening ∨ (t.chan c).valve = .closing) ∧
      ((∀ r ∈ s.rm.pool, r.stopFlag = none ∧ r.state ≠ .gated) → (t.chan c).valve = .opening)) ∧
    (∀ r ∈ s.head c, r.state = .flowing → (s.chan c).valve.driven = true →
      (∀ e ∈ slot t.ct.table s.own c, e.placed = false) →
      (t.chan c).valve = .closing ∧ (t.chan c).closeTimer = some (s.chan c).closeLoad)

/-- R20, R34: from `s` to `t` the allocator has recomputed over the entries of `pre`, and its notices have been taken. -/
abbrev State.Reallocated (s t : State) (pre : Table) : Prop :=
  t.RecomputedFrom pre ∧ s.NoticesTaken t pre

/-- R2: the entries with those of the own address removed, where the station is a member of its roster. -/
def State.withoutOwn (s : State) : Table := if s.isMember s.own = true then clearRow s.ct.table s.own else s.ct.table

/-- R44: the head of a channel is its first eligible run, and is ASKING; with none there is no head. -/
abbrev State.HeadIsFirst (t : State) (c : Chan) : Prop :=
  (∀ q, firstEligible t.rm.pool c = some q → q.state = .asking ∧ t.head c = some q) ∧
    (firstEligible t.rm.pool c = none → t.head c = none)

/-- R52, R53: from `s` to `t` the run `r`, which was CLOSING, has become QUEUED, and then the first eligible run ASKING. -/
abbrev State.Requeued (s t : State) (c : Chan) (r : Run) : Prop :=
  ∃ h, firstEligible
      (s.rm.pool.map fun (q : Run) => if q.handle = r.handle then { q with state := .queued } else q) c = some h ∧
    t.rm = { s.rm with
      pool := s.rm.pool.map fun (q : Run) =>
        if q.handle = h.handle then { q with state := .asking }
        else if q.handle = r.handle then { q with state := .queued } else q }

/-- R52, R53, R61: from `s` to `t` a close has ended at CLOSED or STUCK: a head CLOSING for ENDING has departed with its record,
one CLOSING for another purpose is QUEUED again with head selection, and a close under no run has told no run. -/
abbrev State.CloseEnded (s t : State) (c : Chan) (notConfirmed : Bool) : Prop :=
  ((∀ r ∈ s.head c, r.state.isClosing = false) → t.rm = s.rm ∧ t.log = s.log) ∧
  ∀ r p, s.head c = some r → r.state = .closing p → findRun s.rm.pool r.handle = some r →
    (p ≠ .ending → t.log = s.log ∧ s.Requeued t c r) ∧
    (p = .ending →
      t.log.records = s.log.records ++ [completionRecord r notConfirmed s.clock.seconds] ∧
      t.log.reservations = s.log.reservations - 1 ∧ t.rm.pool.length + 1 = s.rm.pool.length) ∧
    (s.RunsSound → s.OneHead → t.HeadIsFirst c)

/-- A HALT with reason bit `n` (12.2) is pending. -/
abbrev State.HaltPending (s : State) (n : Nat) : Prop :=
  ∃ reasons, OutFrame.halt reasons ∈ s.bus.outbound ∧ reasons.getLsbD n = true

/-- R128: the key of a frame of the outbound set. -/
def OutFrame.key : OutFrame → Nat
  | .claim c _ => c.val
  | .flag .. => 8
  | .gauge _ => 9
  | .beat => 10
  | .drop t => 11 + t.val
  | .purge _ => 27
  | .leave => 28
  | .halt _ => 29
  | .haltAck _ => 30
  | .release => 31

/-! ### Places in the candidate order (R25, R26) -/

/-- The demand of the entry at a key, 0 at a gone slot. -/
def demandAt (t : Table) (k : Key) : Nat := (slot t k.1 k.2).elim 0 Entry.demand

/-- How many candidates of an owner, of the level and class of `e`, stand on channels below `c`. -/
def candidatesBelow (t : Table) (a : Addr) (c : Chan) (e : Entry) : Nat :=
  (allChans.filter fun d =>
    decide (d < c) && (slot t a d).any fun x =>
      x.level == e.level && (if e.committed then x.committed else x.uncommitted)).length

/-- R25, R26: what orders the candidates: level, class, round, distance of the owner from the rotation pointer, channel. -/
def placeOf (t : Table) (roster : Roster) (pointers : Vector Addr 4) (k : Key) : List Nat :=
  match slot t k.1 k.2, roster[k.1.val] with
  | some e, some m =>
    [e.level.val, if e.committed then 0 else 1, candidatesBelow t k.1 k.2 e / m.weight,
      (k.1 - pointers[e.level.val]).val, k.2.val]
  | _, _ => []

/-- The row of a host command. -/
def hostRow : HostCommand → Instr
  | .siteConfig => .siteConfig
  | .channelConfig => .channelConfig
  | .join => .join
  | .leave => .leaveCommand
  | .submit => .submit
  | .loadRun => .loadRun
  | .cancel => .cancel
  | .queryRun => .queryRun
  | .readChannel => .readChannel
  | .clearFault => .clearFault
  | .readLog => .readLog
  | .peekLog => .peekLog
  | .logStatus => .logStatus
  | .setFlags => .setFlags
  | .setGauge => .setGauge
  | .halt => .haltCommand
  | .release => .releaseCommand
  | .purge => .purgeCommand
  | .readRoster => .readRoster
  | .readEntry => .readEntry
  | .readSite => .readSite
  | .stationStatus => .stationStatus
  | .readEvents => .readEvents

/-- `s` with a frame put into its outbound set, new or combined with the pending frame of its key (R129). -/
def State.queued (s : State) (f : OutFrame) : State :=
  { s with bus := { s.bus with outbound := insertOut f s.bus.outbound } }

/-- 12.5, 11.3: the code of each host command and the count of its argument bytes. -/
def commandTable : List (Byte × HostCommand × Nat) :=
  [(0x01, .siteConfig, 3), (0x02, .channelConfig, 11), (0x03, .join, 0), (0x04, .leave, 0), (0x10, .submit, 15),
    (0x11, .loadRun, 26), (0x12, .cancel, 1), (0x13, .queryRun, 1), (0x20, .readChannel, 2), (0x21, .clearFault, 1),
    (0x30, .readLog, 0), (0x31, .peekLog, 1), (0x32, .logStatus, 0), (0x40, .setFlags, 4), (0x41, .setGauge, 2),
    (0x42, .halt, 0), (0x43, .release, 0), (0x44, .purge, 1), (0x50, .readRoster, 0), (0x51, .readEntry, 2),
    (0x52, .readSite, 0), (0x53, .stationStatus, 0), (0x54, .readEvents, 0)]

/-- What an entry says to the site: its level, demand and phase. -/
def Entry.said (e : Entry) : Level × Nat × Phase := (e.level, e.demand, e.phase)

/-- What the slot of key (a, c) says. -/
def State.says (s : State) (a : Addr) (c : Chan) : Option (Level × Nat × Phase) := (slot s.ct.table a c).map Entry.said

/-! ### What an applied frame does -/

/-- R120, R116, R115: from `s` to `t` the transmission `x` has been counted as sent: nothing is on the line, the failure count is
0, the station is the last sender, and it waits for the next idle detection. Unless the station has left its roster by it, the
number has advanced, a BEAT has restarted the beat timer, and every key pending in the set is still pending. -/
abbrev State.CountedSent (s t : State) (x : Transmission) : Prop :=
  t.bus.tx = none ∧ t.bus.failures = 0 ∧ t.bus.lastSender = s.own ∧ t.bus.rxReady = false ∧ t.bus.access = .closed ∧
  (t.mu.station.active = true →
    t.bus.seq = s.bus.seq + 1 ∧ t.bus.beatTimer = (if x.item = .beat then some 2000 else s.bus.beatTimer) ∧
    ∀ g ∈ s.bus.outbound, ∃ f ∈ t.bus.outbound, f.sameKey g = true)

/-- R7, R8, R134, R30, R126: from `s` to `t` a BEAT of `a` has written its sender's roster record, with the silence timer named,
and its entry list stands as the sender's entries, the last valid item for each channel (log 16). A mark of an ASKING item
stands where the halt state is NONE and no orphan record is held; the recomputation adds marks as R30 states. The marks and the result are those of a recomputation over the entries so written. -/
abbrev State.BeatEntered (s t : State) (a : Addr) (seq : Seq) (b : BeatBody) (silence : Option Nat) : Prop :=
  (∃ m, t.member a = some m ∧ m.weight = max 1 (min 4 b.weight.toNat) ∧ m.cap = max 1 b.cap.toNat ∧
    m.capacity = max 1 b.capacity.toNat ∧ m.lastSeq = seq ∧ m.heard = s.clock.seconds ∧ m.stale = false ∧
    m.silence = silence ∧ m.silent = false ∧ m.gauge = (readGauge b.gauge).getD (s.gaugeOf a)) ∧
  (∀ c : Chan, t.says a c =
    (((b.entries.filterMap (readItem false)).reverse.find? fun i => i.1 == c).map fun i => i.2.said)) ∧
  (∀ c : Chan, ∀ e ∈ slot t.ct.table a c,
    (e.latched = true → e.phase = .asking ∧ t.hu.halt = .none ∧ t.mu.orphans = []) ∧
    (t.hu.halt = .none → t.mu.orphans = [] →
      (((b.entries.filterMap (readItem true)).reverse.find? fun i => i.1 == c).any fun i => i.2.latched) = true →
      e.latched = true) ∧
    ((((b.entries.filterMap (readItem true)).reverse.find? fun i => i.1 == c).any fun i => i.2.latched) = false →
      e.latched = true → e.placed = true ∧ t.alloc.drain = true)) ∧
  (∀ d : Addr, d ≠ a → ∀ c : Chan, t.says d c = s.says d c) ∧
  (∀ d : Addr, d ≠ a → t.isMember d = s.isMember d) ∧
  ∃ pre : Table, s.Reallocated t pre ∧
    (∀ c : Chan, slot pre a c =
      (((b.entries.filterMap (readItem (t.hu.halt == .none && t.mu.orphans.isEmpty))).reverse.find? fun i =>
        i.1 == c).map fun i => i.2)) ∧
    ∀ d : Addr, d ≠ a → ∀ c : Chan, slot pre d c = slot s.ct.table d c

/-- R15, R16, R17, R18, R13, R14, R137: from `s` to `t` the view part of a BEAT of `a` has been adopted, merged or ignored; `kept`
is the orphan list and `members` the roster after stage 1. -/
abbrev State.ViewTaken (s t : State) (a : Addr) (b : BeatBody) (kept : List Orphan) (members : Addr → Bool) : Prop :=
  (s.Adopts →
    t.ct.flags = b.flags ∧ t.ct.pointers = b.pointers ∧ t.ct.adoptionPending = false ∧
    t.mu.orphans = b.orphans.foldl (afterRecord s.own members) [] ∧
    t.hasEvent .viewMerged = s.hasEvent .viewMerged) ∧
  (s.Merges →
    t.ct.flags = s.ct.flags ||| b.flags ∧
    t.ct.pointers = (if a < s.own then b.pointers else s.ct.pointers) ∧ t.ct.adoptionPending = false ∧
    t.mu.orphans = b.orphans.foldl (afterRecord s.own members) kept ∧
    t.hasEvent .viewMerged = (s.hasEvent .viewMerged || decide (t.ct.flags ≠ s.ct.flags) ||
      decide (t.ct.pointers ≠ s.ct.pointers) || decide (t.mu.orphans ≠ kept) ||
      decide (s.hu.halt ≠ .halted ∧ b.haltState ≠ 0 ∧ b.haltState ≠ 2))) ∧
  (s.mu.station = .isolated ∨ s.mu.station = .clash →
    t.ct.flags = s.ct.flags ∧ t.ct.pointers = s.ct.pointers ∧ t.mu.orphans = kept ∧
    t.ct.adoptionPending = s.ct.adoptionPending ∧ t.hasEvent .viewMerged = s.hasEvent .viewMerged) ∧
  (t.mu.orphans.isEmpty ≠ s.mu.orphans.isEmpty → t.hasEvent .freezeChanged = true) ∧
  t.ViewFormed ∧
  t.hasEvent .capacityMismatch = (s.hasEvent .capacityMismatch ||
    decide (t.ct.announcedSet ≠ s.ct.announcedSet ∧ 2 ≤ t.ct.announcedSet.length))

/-- R165, R166, R167, R168: from `s` to `t` the halt part of a BEAT of `a` has been adopted, merged or ignored, and the sender
has left the settle set. A state code other than 0 and 2 is HALTED. -/
abbrev State.HaltPartTaken (s t : State) (a : Addr) (b : BeatBody) : Prop :=
  (s.Adopts → b.haltState = 0 →
    t.hu.halt = .none ∧ t.hu.reasons = 0 ∧ t.hu.round = .none ∧ t.hu.roundTimer = none ∧ t.hu.ackSet = 0 ∧
    t.hu.missing = 0 ∧ t.hu.settle = 0 ∧ t.hu.ackPending = false ∧
    (s.hu.halt = .halted → t.hasEvent .haltReleased = true)) ∧
  (s.Adopts → b.haltState = 2 →
    t.hu.halt = .settling ∧ t.hu.reasons = b.reasons.extractLsb' 0 4 ∧ t.hu.round = .none ∧
    t.hu.roundTimer = none ∧ t.hu.ackPending = false ∧
    (∀ d : Addr, inSet t.hu.settle d = (decide (d ≠ a) && (s.isMember d || d == s.own))) ∧
    (s.hu.halt = .halted → t.hasEvent .haltReleased = true)) ∧
  (s.Adopts → b.haltState ≠ 0 → b.haltState ≠ 2 →
    t.hu.halt = .halted ∧ t.hu.reasons = b.reasons.extractLsb' 0 4 ∧ t.hu.settle = 0 ∧
    (s.hu.halt = .halted → t.hu.round = s.hu.round ∧ t.hu.ackSet = s.hu.ackSet ∧ t.hu.acked = s.hu.acked ∧
      t.hu.missing = s.hu.missing ∧ t.hu.roundTimer = s.hu.roundTimer) ∧
    (s.hu.halt ≠ .halted → t.hu.round = .none ∧ t.hu.roundTimer = none ∧ t.hasEvent .haltEntered = true ∧
      (∀ c : Chan, ∀ r ∈ t.head c, r.state ≠ .flowing) ∧
      (s.mu.station = .resync →
        t.hu.ackPending = true ∨ OutFrame.haltAck t.stuckMask ∈ t.bus.outbound))) ∧
  (s.Merges → b.haltState ≠ 0 → b.haltState ≠ 2 →
    t.hu.halt = .halted ∧
    (s.hu.halt = .halted → t.hu.reasons = s.hu.reasons ||| b.reasons.extractLsb' 0 4 ∧ t.hu.round = s.hu.round ∧
      t.hu.ackSet = s.hu.ackSet ∧ t.hu.acked = s.hu.acked ∧ t.hu.missing = s.hu.missing) ∧
    (s.hu.halt ≠ .halted → t.hu.reasons = b.reasons.extractLsb' 0 4 ||| 8 ∧ t.hu.settle = 0 ∧
      t.hu.round = .none ∧ t.hu.roundTimer = none ∧ t.hasEvent .haltEntered = true ∧
      (∀ c : Chan, ∀ r ∈ t.head c, r.state ≠ .flowing) ∧
      (s.mu.station.active = true →
        t.hu.ackPending = true ∨ OutFrame.haltAck t.stuckMask ∈ t.bus.outbound))) ∧
  ((s.Merges ∧ (b.haltState = 0 ∨ b.haltState = 2) ∨ s.mu.station = .isolated ∨ s.mu.station = .clash) →
    t.hu.settle = removeAddr s.hu.settle a ∧ t.hu.round = s.hu.round ∧ t.hu.ackSet = s.hu.ackSet ∧
    t.hu.acked = s.hu.acked ∧ t.hu.missing = s.hu.missing ∧
    (s.hu.halt = .settling → t.hu.settle = 0 → t.hu.halt = .none ∧ t.hu.reasons = 0) ∧
    (s.hu.halt ≠ .settling ∨ t.hu.settle ≠ 0 → t.hu.halt = s.hu.halt ∧ t.hu.reasons = s.hu.reasons))

/-- R3, R4, R5, R20, R34: from `s` to `t` a CLAIM of `a` has written or removed its sender's entry for one channel; only a GONE with cause
COMPLETE moves a pointer, and content out of range changes no entry and no pointer. The entry written stands unlatched unless
the recomputation that follows latches it (R30); runs and valves change by its notices alone. -/
abbrev State.ClaimApplied (s t : State) (a : Addr) (channel level demand phase cause : Byte) : Prop :=
  t.ct.flags = s.ct.flags ∧ t.bus.lastSender = a ∧
  (∀ c l d p, toChan channel = some c → toLevel level = some l → toDemand demand = some d →
    toPhase phase.toNat = some p → t.says a c = some (l, d, p) ∧ t.ct.pointers = s.ct.pointers ∧
      (∀ e ∈ slot t.ct.table a c, e.latched = true ↔
        e.placed = true ∧ p = .asking ∧ t.alloc.drain = true ∧ s.hu.halt = .none ∧ s.mu.orphans = []) ∧
      (∀ (b : Addr) (e : Chan), (b ≠ a ∨ e ≠ c) → t.says b e = s.says b e) ∧
      t.RecomputedFrom (setSlot s.ct.table a c (some ⟨l, d, p, false, false⟩)) ∧
      s.OnlyNotified t (setSlot s.ct.table a c (some ⟨l, d, p, false, false⟩))) ∧
  (∀ c l k, toChan channel = some c → toLevel level = some l → phase = 0 → toCause cause.toNat = some k →
    t.says a c = none ∧ (∀ (b : Addr) (e : Chan), (b ≠ a ∨ e ≠ c) → t.says b e = s.says b e) ∧
      t.ct.pointers = (if k = .complete then s.ct.pointers.set l.val (a + 1) else s.ct.pointers) ∧
      t.RecomputedFrom (setSlot s.ct.table a c none) ∧ s.OnlyNotified t (setSlot s.ct.table a c none)) ∧
  ((toChan channel = none ∨ toLevel level = none ∨ (phase ≠ 0 ∧ toPhase phase.toNat = none) ∨
      (phase ≠ 0 ∧ toDemand demand = none) ∨ (phase = 0 ∧ toCause cause.toNat = none)) →
    t.ct.pointers = s.ct.pointers ∧ (∀ (b : Addr) (e : Chan), t.says b e = s.says b e) ∧
      t.RecomputedFrom s.ct.table ∧ s.OnlyNotified t s.ct.table)

/-- R10, R20: from `s` to `t` a FLAG frame has set and then cleared its flags. -/
abbrev State.FlagApplied (s t : State) (set clear : BitVec 16) : Prop :=
  t.ct.flags = (s.ct.flags ||| set) &&& ~~~clear ∧
  t.ct.pointers = s.ct.pointers ∧ (∀ (b : Addr) (c : Chan), t.says b c = s.says b c) ∧
  (∀ b : Addr, t.gaugeOf b = s.gaugeOf b) ∧ s.Reallocated t s.ct.table

/-- R11, R20: from `s` to `t` a GAUGE frame of `a` has set its sender's gauge; a wrong presence nibble or a non-decimal digit leaves
it. -/
abbrev State.GaugeApplied (s t : State) (a : Addr) (g : GaugeField) : Prop :=
  t.gaugeOf a = (readGauge g).getD (s.gaugeOf a) ∧
  (∀ b : Addr, b ≠ a → t.gaugeOf b = s.gaugeOf b) ∧ t.ct.flags = s.ct.flags ∧ t.ct.pointers = s.ct.pointers ∧
  (∀ (b : Addr) (c : Chan), t.says b c = s.says b c) ∧ s.Reallocated t s.ct.table

/-- R136, R139, R149, R150, R169, R20: from `s` to `t` a DROP or PURGE of the own address has made the station ISOLATED, with its
FLOWING heads closing for ISOLATE and the halt unit told; where no valve of a present channel is left moving it listens at once,
with an emptied copy. -/
abbrev State.SelfDropped (s t : State) : Prop :=
  (t.mu.station = .isolated ∧ t.mu.cause = .selfDrop ∨ t.mu.station = .listening) ∧
  (t.mu.station = .listening ↔
    ∀ c : Chan, (t.chan c).present = true → (t.chan c).valve = .closed ∨ (t.chan c).valve = .stuck) ∧
  t.isMember s.own = false ∧ t.bus.outbound = [] ∧ t.bus.failures = 0 ∧ t.bus.beatTimer = none ∧
  t.hasEvent .isolated = true ∧ (s.isMember s.own = true → t.hasEvent .rosterChanged = true) ∧
  (∀ c : Chan, (t.chan c).announced = .gone none) ∧
  (s.RunsSound → s.OneHead → s.ClosedForIsolate t) ∧
  (t.mu.station = .isolated →
    s.OwnLeftHalt t ∧ t.mu.orphans = s.mu.orphans ∧ t.ct.adoptionPending = false ∧
    t.RecomputedFrom s.withoutOwn ∧
    ∀ b : Addr, b ≠ s.own → t.isMember b = s.isMember b ∧ ∀ c : Chan, t.says b c = s.says b c) ∧
  (t.mu.station = .listening →
    t.mu.cause = .none ∧ t.mu.listenWindow = some 4000 ∧ t.mu.orphans = [] ∧ (∀ b : Addr, t.member b = none) ∧
    (∀ (b : Addr) (c : Chan), slot t.ct.table b c = none) ∧ t.alloc = ⟨0, 0, 0, true, false⟩ ∧
    t.ct.adoptionPending = true ∧ t.bus.seq = 0 ∧ t.hu.round = .none ∧ t.hu.ackSet = 0 ∧
    (∀ b : Addr, t.hu.acked[b.val] = none) ∧ t.hu.missing = 0 ∧ t.hu.roundTimer = none ∧ t.hu.settle = 0 ∧
    t.hu.ackPending = false ∧ (s.hu.halt ≠ .settling → t.hu.halt = s.hu.halt ∧ t.hu.reasons = s.hu.reasons))

/-- R136, R137, R161, R165, R20: from `s` to `t` a DROP has removed a member other than the station with its entries, built an
orphan record from a load above 0 (that of its FLOWING, YIELDING, STUCK and latched ASKING entries), and told the halt unit; one
of the station itself is a self-drop in SYNCED, RESYNC and LEAVING and changes nothing elsewhere; it changes the roster for no
other target. -/
abbrev State.DropApplied (s t : State) (target : Byte) : Prop :=
  (∀ d, toAddr target = some d → d ≠ s.own → s.isMember d = true →
    t.member d = none ∧ (∀ c : Chan, slot t.ct.table d c = none) ∧ t.hasEvent .rosterChanged = true ∧
    s.ownerLoad d = sumRow (fun e => if e.phase = .flowing ∨ e.phase = .yielding ∨ e.phase = .stuck ∨
      (e.phase = .asking ∧ e.latched = true) then e.demand else 0) s.ct.table[d.val] ∧
    t.mu.orphans = (if s.ownerLoad d = 0 then s.mu.orphans else s.mu.orphans ++ [⟨d, s.ownerLoad d⟩]) ∧
    (s.mu.orphans = [] → t.mu.orphans ≠ [] → t.hasEvent .freezeChanged = true) ∧
    s.ToldHalt t d ∧ s.Reallocated t (clearRow s.ct.table d) ∧
    (∀ b : Addr, b ≠ d → t.isMember b = s.isMember b ∧ ∀ c : Chan, t.says b c = s.says b c)) ∧
  (toAddr target = some s.own → s.mu.station.active = true → s.SelfDropped t) ∧
  (toAddr target = some s.own → s.mu.station.active = false →
    t.mu.station = s.mu.station ∧ t.mu.cause = s.mu.cause ∧ t.mu.orphans = s.mu.orphans ∧
    t.hasEvent .isolated = s.hasEvent .isolated ∧
    ∀ b : Addr, t.isMember b = s.isMember b ∧ ∀ c : Chan, t.says b c = s.says b c) ∧
  (∀ d, toAddr target = some d → d ≠ s.own → s.isMember d = false →
    t.mu.orphans = s.mu.orphans ∧ ∀ b : Addr, t.isMember b = s.isMember b ∧ ∀ c : Chan, t.says b c = s.says b c) ∧
  (16 ≤ target.toNat →
    t.mu.orphans = s.mu.orphans ∧ ∀ b : Addr, t.isMember b = s.isMember b ∧ ∀ c : Chan, t.says b c = s.says b c) ∧
  ((toAddr target = some s.own → s.mu.station.active = false) →
    (∀ d, toAddr target = some d → d ≠ s.own → s.isMember d = false) → s.Reallocated t s.ct.table)

/-- R139, R161, R165, R137: from `s` to `t` a PURGE has removed its target's orphan record, or a member other than the station,
with its entries, without leaving one; at the own address it acts as a DROP does. Then the allocator recomputes (R20). -/
abbrev State.PurgeApplied (s t : State) (target : Byte) : Prop :=
  (∀ d, toAddr target = some d → d ≠ s.own → s.hasOrphan d = true →
    t.mu.orphans = (s.mu.orphans.filter fun o => o.station != d) ∧
      (t.mu.orphans = [] → t.hasEvent .freezeChanged = true) ∧
      ∀ b : Addr, t.isMember b = s.isMember b ∧ ∀ c : Chan, t.says b c = s.says b c) ∧
  (∀ d, toAddr target = some d → d ≠ s.own → s.hasOrphan d = false →
    t.mu.orphans = s.mu.orphans ∧ t.member d = none ∧
      (s.isMember d = true →
        (∀ c : Chan, slot t.ct.table d c = none) ∧ t.hasEvent .rosterChanged = true ∧ s.ToldHalt t d ∧
          s.Reallocated t (clearRow s.ct.table d)) ∧
      ∀ b : Addr, b ≠ d → t.isMember b = s.isMember b ∧ ∀ c : Chan, t.says b c = s.says b c) ∧
  (toAddr target = some s.own → s.mu.station.active = true → s.SelfDropped t) ∧
  (toAddr target = some s.own → s.mu.station.active = false →
    t.mu.station = s.mu.station ∧ t.mu.cause = s.mu.cause ∧ t.mu.orphans = s.mu.orphans ∧
    t.hasEvent .isolated = s.hasEvent .isolated ∧
    ∀ b : Addr, t.isMember b = s.isMember b ∧ ∀ c : Chan, t.says b c = s.says b c) ∧
  (16 ≤ target.toNat → t.mu.orphans = s.mu.orphans ∧ ∀ b : Addr, t.isMember b = s.isMember b) ∧
  ((toAddr target = some s.own → s.mu.station.active = false) →
    (∀ d, toAddr target = some d → d ≠ s.own → s.hasOrphan d = true ∨ s.isMember d = false) →
    s.Reallocated t s.ct.table)

/-- R156, R157, R158, R159: from `s` to `t` a HALT has entered HALTED and opened a round over the present roster, in LISTENING
without a round; every FLOWING head closes for HALT, and in SYNCED, RESYNC and LEAVING HALT_ACK is owed or queued. In HALTED it
has only added its reasons. -/
abbrev State.HaltApplied (s t : State) (reasons : Byte) : Prop :=
  t.hu.halt = .halted ∧
  (s.hu.halt = .halted → t.hu.reasons = s.hu.reasons ||| reasons.extractLsb' 0 4 ∧ t.hu.round = s.hu.round ∧
    t.hu.ackSet = s.hu.ackSet ∧ t.hu.acked = s.hu.acked ∧ t.hu.missing = s.hu.missing) ∧
  (s.hu.halt ≠ .halted → t.hu.reasons = reasons.extractLsb' 0 4 ∧ t.hasEvent .haltEntered = true ∧
    t.hu.settle = 0 ∧ (s.RunsSound → s.OneHead → s.ClosedHeads t .halt) ∧
    (s.mu.station.active = true → t.hu.ackPending = true ∨ OutFrame.haltAck t.stuckMask ∈ t.bus.outbound)) ∧
  (s.hu.halt ≠ .halted → s.mu.station ≠ .listening →
    t.hu.round = .opened ∧ t.hu.ackSet = s.rosterSet ∧ (∀ b : Addr, t.hu.acked[b.val] = none) ∧
    t.hu.missing = 0 ∧ t.hu.roundTimer = some 75000) ∧
  (s.hu.halt ≠ .halted → s.mu.station = .listening → t.hu.round = .none ∧ t.hu.roundTimer = none) ∧
  (∀ (b : Addr) (c : Chan), t.says b c = s.says b c) ∧ s.Reallocated t s.ct.table

/-- R160, R162: from `s` to `t` a HALT_ACK of `a` has been entered with its mask, where `a` is in the ack set of an open round and
has not answered, and may have ended the round. -/
abbrev State.AckApplied (s t : State) (a : Addr) (mask : Byte) : Prop :=
  t.hu.halt = s.hu.halt ∧ t.hu.reasons = s.hu.reasons ∧
  t.hu.ackSet = s.hu.ackSet ∧ t.hu.missing = s.hu.missing ∧
  (s.hu.round = .opened → inSet s.hu.ackSet a = true → s.hu.acked[a.val] = none →
    t.hu.acked = s.hu.acked.set a.val (some mask) ∧
    (t.hu.ackedSet = s.hu.ackSet → s.hu.missing = 0 → t.hu.round = .confirmed ∧ t.hasEvent .haltConfirmed = true) ∧
    (t.hu.ackedSet = s.hu.ackSet → s.hu.missing ≠ 0 →
      t.hu.round = .unconfirmed ∧ t.hasEvent .haltUnconfirmed = true) ∧
    (t.hu.ackedSet ≠ s.hu.ackSet → t.hu.round = .opened)) ∧
  ((s.hu.round ≠ .opened ∨ inSet s.hu.ackSet a = false ∨ s.hu.acked[a.val] ≠ none) →
    t.hu.acked = s.hu.acked ∧ t.hu.round = s.hu.round) ∧
  t.RecomputedFrom s.ct.table ∧ s.OnlyNotified t s.ct.table

/-- R164: from `s` to `t` a RELEASE in HALTED has turned to SETTLING, abandoned the round, cleared ack pending, formed the settle
set, and queued HALT PRESSURE where PLOSS# is asserted. -/
abbrev State.ReleaseApplied (s t : State) : Prop :=
  (s.hu.halt = .halted → t.hu.halt = .settling ∧ t.hu.reasons = s.hu.reasons ∧ t.hu.round = .none ∧
    t.hu.roundTimer = none ∧ t.hu.ackPending = false ∧ t.hasEvent .haltReleased = true ∧
    (s.straps.ple = true → s.hu.ploss = true → s.mu.station.active = true → t.HaltPending 1) ∧
    t.hu.settle = if s.mu.station = .listening then insertAddr s.rosterSet s.own else s.rosterSet) ∧
  (s.hu.halt ≠ .halted → t.hu.halt = s.hu.halt ∧ t.hu.reasons = s.hu.reasons ∧ t.hu.settle = s.hu.settle) ∧
  s.Reallocated t s.ct.table

end Sys2Proof.Machine

namespace Sys2Proof

/-- The commands that may move a field pin; they record its level also while RST# is low (log 33). -/
def Instr.movesPin : Instr → Bool
  | .meterPulse (.falls _) => true
  | .meterPulse (.rises _) => true
  | .endSwitchAssertion _ => true
  | .endSwitchDeassertion _ => true
  | .plossFallingEdge => true
  | .plossRisingEdge => true
  | _ => false

/-- The commands that hand a frame to the part's classification or applier. -/
def Instr.carriesFrame : Instr → Bool
  | .frameSent => true
  | .receiveError _ => true
  | .frameIgnored .. => true
  | .clashFrameReceived .. => true
  | .beatFrame .. => true
  | .claimFrame .. => true
  | .flagFrame .. => true
  | .gaugeFrame .. => true
  | .dropFrame .. => true
  | .purgeFrame .. => true
  | .leaveFrame .. => true
  | .haltFrame .. => true
  | .haltAckFrame .. => true
  | .releaseFrame .. => true
  | _ => false

end Sys2Proof
end

