-- ==== Sys2Proof/Certificates/Slice0/Obligations.lean ====
section
/-!
DEFINITION. The statements of this row. Premises are the conditions that the rules put on the event (the port waits for
the command, a frame of a member with the expected number, a timer that runs); `State.Stays` leaves out only a station
that may listen again by itself at the end of the event (R150), of which StepsOfThePartItself speaks.
-/

open Sys2Proof Sys2Proof.Machine

/-! ### The block as a machine -/

/-- With a command in front of the queue a step is that command's effect on the state with the queue's rest. -/
def Obligations.StepTakesFrontCommand : Prop :=
  ∀ (c : Instr) (rest : List Instr) (s : State), s.pending = c :: rest → step s = exec c (s.setPending rest)

/-- On an empty queue a step is one millisecond (the model's choice, log 4): with no command waiting and nothing due, every
running timer loses one millisecond, the counts rise by one, and nothing else changes but the sampling of the inputs. MTRn of
a present channel is taken low or high after 2 ms, and a pulse is due at the end of the 2 ms high period after a low level
(R87); a level of VSWn#, or of PLOSS# with PLE set, is due after 20 ms when it is not the level last taken (R73, R154). -/
def Obligations.EmptyQueueIsOneMillisecond : Prop :=
  ∀ (s : State), s.pending = [] → s.inReset = false → s.port.state ≠ .executing → s.clock.millis < 1000 →
    (∀ c : Chan, ((s.chan c).valve.driven = true → (s.chan c).accumulator < 1000) ∧
      (∀ t ∈ [(s.chan c).openTimer, (s.chan c).closeTimer, (s.chan c).noFlowTimer], t ≠ some 0) ∧
      ((s.chan c).present = true →
        s.pulseDue c = false ∧ s.switchDue c true = false ∧ s.switchDue c false = false)) →
    (∀ t ∈ [s.bus.beatTimer, s.mu.listenWindow, s.hu.roundTimer], t ≠ some 0) →
    (∀ a : Addr, ∀ m ∈ s.member a, m.silence ≠ some 0) →
    (∀ b : Bool, s.plossReady b = false) →
    ∃ t, step s = .next t ∧ t.clock = ⟨s.clock.seconds, s.clock.millis + 1⟩ ∧
      t.bus = { s.bus with beatTimer := s.bus.beatTimer.map fun n => n - 1 } ∧
      t.hu = { s.hu with
        roundTimer := s.hu.roundTimer.map fun n => n - 1
        plossHeld := if s.straps.ple then min 20 (s.hu.plossHeld + 1) else s.hu.plossHeld
        plossDue :=
          if s.straps.ple = true ∧ 19 ≤ s.hu.plossHeld ∧ (s.hu.plossTaken = false ∨ s.hu.ploss ≠ s.pins.ploss) then
            some s.pins.ploss
          else s.hu.plossDue } ∧
      t.mu.listenWindow = s.mu.listenWindow.map (fun n => n - 1) ∧
      (∀ a : Addr, t.member a = (s.member a).map fun m => { m with silence := m.silence.map fun n => n - 1 }) ∧
      (∀ c : Chan, t.chan c = { s.chan c with
        openTimer := (s.chan c).openTimer.map fun n => n - 1
        closeTimer := (s.chan c).closeTimer.map fun n => n - 1
        noFlowTimer := (s.chan c).noFlowTimer.map fun n => n - 1
        accumulator := if (s.chan c).valve.driven then (s.chan c).accumulator + 1 else (s.chan c).accumulator
        mtrHeld := if (s.chan c).present then min 2 ((s.chan c).mtrHeld + 1) else (s.chan c).mtrHeld
        mtrLow :=
          if (s.chan c).present = true ∧ 1 ≤ (s.chan c).mtrHeld then !s.pins.mtr.getLsbD c.val else (s.chan c).mtrLow
        mtrDue := (s.chan c).mtrDue || ((s.chan c).present && decide (1 ≤ (s.chan c).mtrHeld) &&
          s.pins.mtr.getLsbD c.val && (s.chan c).mtrLow)
        vswHeld := if (s.chan c).present then min 20 ((s.chan c).vswHeld + 1) else (s.chan c).vswHeld
        vswDue :=
          if (s.chan c).present = true ∧ 19 ≤ (s.chan c).vswHeld ∧
              (s.chan c).vsw ≠ some (s.pins.vsw.getLsbD c.val) then
            some (s.pins.vsw.getLsbD c.val)
          else (s.chan c).vswDue }) ∧
      t.mu.station = s.mu.station ∧ t.mu.cause = s.mu.cause ∧ t.mu.orphans = s.mu.orphans ∧ t.ct = s.ct ∧
      t.alloc = s.alloc ∧ t.rm = s.rm ∧ t.log = s.log ∧ t.port = s.port ∧ t.events = s.events ∧ t.site = s.site ∧
      t.straps = s.straps ∧ t.pins = s.pins ∧ t.free = s.free ∧ t.pending = [] ∧ t.inReset = false

/-- R182, R202, R198, R199: RESET returns every block to its reset state; while RST# is low no cycle is taken, no event has
an effect, and every output stands at its reset level: VDRVn low, ATTNn# and SBTX high, D0–D7 undriven; at the release the
straps are sampled and station seconds start from 0. The model's choices (logs 1, 3, 33): that RESET keeps the straps, the
queue and the levels at the field pins, that these levels are recorded in reset, that a step on an empty queue in reset
changes nothing, and that RESET_RELEASE with RST# high changes nothing. -/
def Obligations.ResetHoldsAndReleases : Prop :=
  ∀ (s : State) (i : Instr) (p : StrapPins),
    (∃ t, exec .reset s = .next t ∧ t.inReset = true ∧ t.port = Port.initial ∧ t.events = ⟨0, 0⟩ ∧
      t.site = ⟨false, 0, 0, false⟩ ∧ t.ct = ClaimUnit.initial ∧ t.alloc = AllocResult.initial ∧
      t.mu = MemberUnit.initial ∧ t.hu = HaltUnit.initial ∧ t.bus = BusUnit.initial ∧ t.rm = ⟨[], 0⟩ ∧
      (∀ c : Chan, t.chan c = Channel.initial) ∧ t.log = ⟨[], 0, 0⟩ ∧ t.pins = s.pins ∧ t.straps = s.straps ∧
      t.pending = s.pending) ∧
    (s.inReset = true →
      exec (.resetRelease p) s = .next { s with inReset := false, straps := p, clock := ⟨0, 0⟩ } ∧
      (i ≠ .reset → (∀ q, i ≠ .resetRelease q) → i.movesPin = false → exec i s = .next s) ∧
      (i.movesPin = true → ∃ q, exec i s = .next { s with pins := q }) ∧ (s.pending = [] → step s = .next s) ∧
      (∀ c : Chan, s.vdrv c = false) ∧ s.attn0Low = false ∧ s.attn1Low = false ∧ (∀ n, s.sbtx n = true) ∧
      (∀ b q, s.dataOut b q = none)) ∧
    (s.inReset = false → exec (.resetRelease p) s = .next s)

/-- What each part of the state is written by: every command leaves the queue; the straps, the levels at the field pins, the
clock, the site configuration, the port, the settings, the switch levels, the low-time requirement, the hold counts and what
is due by them, the totalizers and WRAPPED, the PLOSS# level, the flags, the rotation pointers, the last sender, the fault kinds, the handle
counter, the read position, the records in the log and the free-value counter are left by every command but those named. -/
def Obligations.PartsWrittenOnlyByTheirCommands : Prop :=
  ∀ (i : Instr) (s t : State), exec i s = .next t → i ≠ .reset →
    t.pending = s.pending ∧ (i.movesPin = false → t.pins = s.pins) ∧
    ((∀ p, i ≠ .resetRelease p) → t.straps = s.straps ∧ t.inReset = s.inReset ∧
      (i ≠ .stationSecondsTick → t.clock = s.clock)) ∧
    (i ≠ .siteConfig → t.site = s.site) ∧
    ((∀ k, i ≠ hostRow k) → i ≠ .badCommand → i ≠ .responseByteRead → (∀ b, i ≠ .commandByteWrite b) →
      (∀ b, i ≠ .argumentByteWrite b) → (∀ x b, i ≠ .writeWhileExecuting x b) → t.port = s.port) ∧
    (i ≠ .channelConfig → ∀ c : Chan, (t.chan c).settings = (s.chan c).settings ∧
      (i ≠ .endSwitchAssertion c → i ≠ .endSwitchDeassertion c →
        (t.chan c).vsw = (s.chan c).vsw ∧ (t.chan c).vswHeld = (s.chan c).vswHeld ∧
          (t.chan c).vswDue = (s.chan c).vswDue) ∧
      (t.chan c).mtrLow = (s.chan c).mtrLow ∧
      (i ≠ .meterPulse (.falls c) → i ≠ .meterPulse (.rises c) → (t.chan c).mtrHeld = (s.chan c).mtrHeld) ∧
      (i ≠ .meterPulse (.taken c) → (t.chan c).mtrDue = (s.chan c).mtrDue)) ∧
    (∀ c : Chan, i ≠ .meterPulse (.taken c) → (t.chan c).totalizer = (s.chan c).totalizer ∧
      (i ≠ .readChannel → (t.chan c).wrapped = (s.chan c).wrapped)) ∧
    (i ≠ .plossFallingEdge → i ≠ .plossRisingEdge → (∀ x, i ≠ .plossLevelAtResetRelease x) →
      t.hu.ploss = s.hu.ploss ∧ t.hu.plossTaken = s.hu.plossTaken ∧ t.hu.plossHeld = s.hu.plossHeld ∧
        t.hu.plossDue = s.hu.plossDue) ∧
    (i.carriesFrame = false → t.ct.flags = s.ct.flags ∧ t.ct.pointers = s.ct.pointers ∧
      t.bus.lastSender = s.bus.lastSender) ∧
    (∀ c : Chan, i ≠ .meterPulse (.taken c) → i ≠ .closeTimerExpiry c → i ≠ .noFlowTimerExpiry c → i ≠ .clearFault →
      i ≠ .channelConfig → (t.chan c).faults = (s.chan c).faults) ∧
    (i ≠ .submit → i ≠ .loadRun → t.rm.handleCounter = s.rm.handleCounter) ∧
    (i ≠ .readLog → t.log.readPos = s.log.readPos ∧ s.log.records <+: t.log.records) ∧
    ((∀ m, i ≠ .transmissionStart m) → t.free = s.free)

/-! ### The controller port -/

/-- R183: a command byte starts a new command, whatever the port held; in EXECUTING it is not taken. -/
def Obligations.CommandByteStartsCommand : Prop :=
  ∀ (s : State) (b : Byte), s.inReset = false →
    (s.port.state ≠ .executing →
      exec (.commandByteWrite b) s = .next { s with port :=
        { s.port with
          state := if argCountOf b = 0 then .executing else .collecting
          command := some b, args := [], response := [], result := .none, sequence := false } }) ∧
    (s.port.state = .executing →
      exec (.commandByteWrite b) s = .next { s with port := { s.port with sequence := true } })

/-- R184, R186, R185, R188, 11.3, 12.5: the code and the argument count of each command, and which command the port waits to
execute; argument bytes, writes while EXECUTING, reads of response bytes, and a byte naming no command, which executes with
BAD_COMMAND. The row of a host command that the port does not wait to execute changes nothing (the
model's choice, log 8). -/
def Obligations.ArgumentAndResponseBytes : Prop :=
  ∀ (s : State) (b : Byte) (cd : Bool) (k : HostCommand), s.inReset = false →
    (∀ x ∈ commandTable, decodeCommand x.1 = some x.2.1 ∧ argCountOf x.1 = x.2.2) ∧
    (b ∉ commandTable.map Prod.fst → decodeCommand b = none ∧ argCountOf b = 0) ∧
    (s.port.awaits k = true ↔ s.port.state = .executing ∧ ∃ x ∈ s.port.command, decodeCommand x = some k) ∧
    (s.port.awaitsUnknown = true ↔ s.port.state = .executing ∧ ∀ x ∈ s.port.command, decodeCommand x = none) ∧
    (∀ x, s.port.command = some x → s.port.argsWanted = argCountOf x) ∧
    (s.port.state = .collecting →
      exec (.argumentByteWrite b) s = .next { s with port :=
        { s.port with
          args := s.port.args ++ [b]
          state := if s.port.argsWanted ≤ s.port.args.length + 1 then .executing else .collecting } }) ∧
    (s.port.state = .idle ∨ s.port.state = .done →
      exec (.argumentByteWrite b) s = .next { s with port := { s.port with sequence := true } }) ∧
    (s.port.state = .executing →
      exec (.writeWhileExecuting cd b) s = .next { s with port := { s.port with sequence := true } } ∧
      exec (.argumentByteWrite b) s = .next { s with port := { s.port with sequence := true } }) ∧
    (∀ r rest, s.port.state = .done → s.port.response = r :: rest →
      exec .responseByteRead s = .next { s with port := { s.port with response := rest, lastRead := r } }) ∧
    (s.port.state ≠ .done ∨ s.port.response = [] →
      exec .responseByteRead s = .next { s with port := { s.port with lastRead := 0, sequence := true } }) ∧
    (s.port.awaitsUnknown = true →
      exec .badCommand s = .next { s with port :=
        { s.port with state := .done, result := .badCommand, response := [] } }) ∧
    (s.port.awaits k = false → exec (hostRow k) s = .next s)

/-- R182, R187, R197, R70, R114: the byte cycles that the port's pins make, and the outputs: D0–D7, the status byte, the
attention outputs, VDRVn and SBTX. That CS# must be asserted on both sides of the change that ends a cycle, that a read is
told by the level of CD after that change, and that a cycle in which RD# and WR# have been asserted together under CS#
(`spoiled` before it ends) drives nothing, is the model's (log 34). Strobes given while CS# is deasserted leave nothing. -/
def Obligations.PortPinsAndOutputs : Prop :=
  (∀ (s : State) (spoiled : Bool) (p : PortPins), s.dataOut spoiled p =
    if s.inReset = false ∧ p.cs = true ∧ p.rd = true ∧ p.wr = false ∧ spoiled = false then
      some (if p.cd = true then s.statusByte else if s.port.state = .done then s.port.response.headD 0 else 0)
    else none) ∧
  (∀ p q : PortPins, p.cs = true → q.cs = true →
    (p.wr = true → p.rd = false → q.wr = false → q.cd = true →
      cyclesTaken false p [q] = [.commandByteWrite q.data]) ∧
    (p.wr = true → p.rd = false → q.wr = false → q.cd = false →
      cyclesTaken false p [q] = [.argumentByteWrite q.data]) ∧
    (p.rd = true → p.wr = false → q.rd = false → q.cd = false → cyclesTaken false p [q] = [.responseByteRead]) ∧
    (p.rd = true → p.wr = false → q.rd = false → q.cd = true → cyclesTaken false p [q] = [])) ∧
  (∀ (spoiled : Bool) (p q r : PortPins),
    (spoils spoiled p = true ↔
      p.cs = true ∧ (p.rd = true ∧ p.wr = true ∨ spoiled = true ∧ (p.rd = true ∨ p.wr = true))) ∧
    (p.cs = false → ∀ qs, cyclesTaken spoiled p (q :: qs) = cyclesTaken false q qs) ∧
    (p.cs = false ∨ q.cs = false → cyclesTaken spoiled p [q] = []) ∧
    (q.wr = p.wr → q.rd = p.rd → cyclesTaken spoiled p [q] = []) ∧
    (p.cs = true → p.rd = true → p.wr = true → cyclesTaken spoiled p [q, r] = [])) ∧
  (∀ s : State,
    s.statusByte.getLsbD 7 = decide (s.port.state ≠ .executing) ∧
    s.statusByte.getLsbD 6 = decide (s.port.state = .done ∧ s.port.response ≠ []) ∧
    s.statusByte.getLsbD 5 = decide (s.events.faultCh ≠ 0 ∨ s.events.site ≠ 0 ∨ s.log.records ≠ []) ∧
    s.statusByte.getLsbD 4 = s.port.sequence ∧
    (s.statusByte.extractLsb' 0 4).toNat = (if s.port.state = .done then s.port.result.code else 0)) ∧
  [ResultCode.none, .ok, .badCommand, .badArg, .wrongState, .channelAbsent, .channelFault, .listFull, .poolFull, .logFull,
    .noSuchRun, .empty, .notOrphan, .inputAsserted].map ResultCode.code = List.range 14 ∧
  (∀ s : State, s.inReset = false →
    (s.straps.atm = true → (s.attn0Low = true ↔ s.events.faultCh ≠ 0 ∨ s.log.records ≠ []) ∧
      (s.attn1Low = true ↔ s.events.site ≠ 0)) ∧
    (s.straps.atm = false →
      (s.attn0Low = true ↔ s.events.faultCh ≠ 0 ∨ s.log.records ≠ [] ∨ s.events.site ≠ 0) ∧ s.attn1Low = false) ∧
    (∀ c : Chan, s.vdrv c = true ↔ (s.chan c).valve = .opening ∨ (s.chan c).valve = .opened) ∧
    (∀ n, (s.bus.tx = none → s.sbtx n = true) ∧
      ∀ x, s.bus.tx = some x → s.sbtx n = (((frameChars x.frame).flatMap charLevels)[n]?).getD true)) ∧
  (∀ b : Byte, charLevels b = [false, b.getLsbD 0, b.getLsbD 1, b.getLsbD 2, b.getLsbD 3, b.getLsbD 4, b.getLsbD 5,
    b.getLsbD 6, b.getLsbD 7, true])

/-! ### Configuration and membership commands -/

/-- R193, R68, R69, R87, R201: SITE_CONFIG, and CHANNEL_CONFIG: which argument bytes it accepts, its refusals, and its effect
on the channel it names and on nothing else but queued acknowledgements. The sampling of a channel made present from absent
begins then. -/
def Obligations.ConfigurationCommands : Prop :=
  ∀ (s : State) (c : Chan) (set : Option ChannelSettings), s.inReset = false →
    (s.port.awaits .siteConfig = true →
      (s.mu.station ≠ .config → exec .siteConfig s = .next (s.finish .wrongState [])) ∧
      (s.mu.station = .config → (s.port.arg 0 = 0 ∨ s.port.arg 1 = 0 ∨ 2 ≤ (s.port.arg 2).toNat) →
        exec .siteConfig s = .next (s.finish .badArg [])) ∧
      (s.mu.station = .config → s.port.arg 0 ≠ 0 → s.port.arg 1 ≠ 0 → (s.port.arg 2).toNat ≤ 1 →
        exec .siteConfig s = .next
          ({ s with site := ⟨true, (s.port.arg 0).toNat, (s.port.arg 1).toNat, s.port.arg 2 == 1⟩ }.finish .ok []))) ∧
    (readSettings s.port = some none ↔ s.port.arg 1 = 0) ∧
    (∀ v, readSettings s.port = some (some v) ↔
      s.port.arg 1 = 1 ∧ [s.port.arg 2, s.port.arg 3] = decimalBytes v.quantum ∧ v.quantum ≠ Decimal.zero 4 ∧
      (s.port.arg 4).toNat = v.openTime ∧ 1 ≤ v.openTime ∧ v.openTime ≤ 30 ∧
      (s.port.arg 5).toNat = v.closeTime ∧ 1 ≤ v.closeTime ∧ v.closeTime ≤ 30 ∧
      s.port.arg 6 = (if v.endSwitch then 1 else 0) ∧
      [s.port.arg 7, s.port.arg 8, s.port.arg 9] = decimalBytes v.leakLimit ∧ v.leakLimit ≠ Decimal.zero 5 ∧
      (s.port.arg 10).toNat = v.noFlowTime ∧ 5 ≤ v.noFlowTime ∧ v.noFlowTime ≤ 255) ∧
    (s.port.awaits .channelConfig = true →
      (s.mu.station ≠ .config → exec .channelConfig s = .next (s.finish .wrongState [])) ∧
      (s.mu.station = .config → (8 ≤ (s.port.arg 0).toNat ∨ readSettings s.port = none) →
        exec .channelConfig s = .next (s.finish .badArg [])) ∧
      (s.mu.station = .config → toChan (s.port.arg 0) = some c → readSettings s.port = some set →
        ((set = none ∧ listOf s.rm.pool c ≠ []) ∨ (s.chan c).valve = .closing ∨ (s.chan c).valve = .stuck) →
        exec .channelConfig s = .next (s.finish .wrongState [])) ∧
      (s.mu.station = .config → toChan (s.port.arg 0) = some c → readSettings s.port = some set →
        ¬ (set = none ∧ listOf s.rm.pool c ≠ []) → (s.chan c).valve ≠ .closing → (s.chan c).valve ≠ .stuck →
        ∃ t, exec .channelConfig s = .next t ∧ t.port = (s.finish .ok []).port ∧ (t.chan c).settings = set ∧
          (t.chan c).totalizer = (s.chan c).totalizer ∧ (t.chan c).unattributed = (s.chan c).unattributed ∧
          (set = none → (t.chan c).valve = .closed ∧ (t.chan c).inFault = false ∧ (t.chan c).vsw = none) ∧
          (∀ v, set = some v → (t.chan c).faults = (s.chan c).faults ∧
            ((s.chan c).settings = none →
              (t.chan c).mtrLow = false ∧ (t.chan c).mtrDue = false ∧ (t.chan c).mtrHeld = 0 ∧
              (t.chan c).vswDue = none ∧ (t.chan c).vswHeld = 0) ∧
            (v.endSwitch = true → (s.chan c).vsw ≠ some true →
              (t.chan c).valve = .closing ∧ (t.chan c).closeTimer = some (1000 * (2 * v.closeTime))) ∧
            ((v.endSwitch = false ∨ (s.chan c).vsw = some true) → (t.chan c).valve = .closed)) ∧
          (∀ d : Chan, d ≠ c → t.chan d = s.chan d) ∧ t.rm = s.rm ∧ t.log = s.log ∧ t.ct = s.ct ∧ t.mu = s.mu ∧
          t.bus = s.bus ∧ t.site = s.site ∧ t.events = s.events))

/-- R140, R169, R146, R66, R84, R147: JOIN is refused outside CONFIG with the site configuration set and ISOLATED; accepted,
the station listens with everything of its copy emptied but flags and pointers, the allocator's result that of an empty copy
(R22), and with the round record, the settle set and ack pending cleared. LEAVE_COMMAND is refused outside SYNCED and RESYNC and with a STUCK valve; accepted, the station is
LEAVING, no member is stale, adoption is not pending, every FLOWING head closes for LEAVE, every channel announces its
derivation, and LEAVE is queued where every valve is CLOSED. -/
def Obligations.JoinAndLeaveCommands : Prop :=
  ∀ (s : State), s.inReset = false →
    (s.port.awaits .join = true →
      (s.mu.station ≠ .isolated → (s.mu.station ≠ .config ∨ s.site.isSet = false) →
        exec .join s = .next (s.finish .wrongState [])) ∧
      ((s.mu.station = .isolated ∨ (s.mu.station = .config ∧ s.site.isSet = true)) →
        ∃ t, exec .join s = .next t ∧ t.port = (s.finish .ok []).port ∧ t.mu.station = .listening ∧
          t.mu.cause = .none ∧ t.mu.listenWindow = some 4000 ∧ t.mu.orphans = [] ∧ (∀ a : Addr, t.member a = none) ∧
          (∀ (a : Addr) (c : Chan), slot t.ct.table a c = none) ∧ t.ct.announcedSet = [] ∧ t.ct.capacityView = 0 ∧
          t.alloc = ⟨0, 0, 0, true, false⟩ ∧ t.ct.adoptionPending = true ∧ t.ct.flags = s.ct.flags ∧ t.ct.pointers = s.ct.pointers ∧
          t.bus.outbound = [] ∧ t.bus.seq = 0 ∧ t.bus.failures = 0 ∧ t.bus.beatTimer = none ∧
          t.bus.lastSender = s.bus.lastSender ∧ t.hu.halt = s.hu.halt ∧ t.hu.reasons = s.hu.reasons ∧
          t.hu.round = .none ∧ t.hu.ackSet = 0 ∧ (∀ a : Addr, t.hu.acked[a.val] = none) ∧ t.hu.missing = 0 ∧
          t.hu.roundTimer = none ∧ t.hu.settle = 0 ∧ t.hu.ackPending = false ∧
          (∀ c : Chan, (t.chan c).announced = .gone none) ∧ t.site = s.site)) ∧
    (s.port.awaits .leave = true →
      ((s.mu.station ≠ .synced ∧ s.mu.station ≠ .resync) ∨
          (∃ c : Chan, (s.chan c).present = true ∧ (s.chan c).valve = .stuck) →
        exec .leaveCommand s = .next (s.finish .wrongState [])) ∧
      ((s.mu.station = .synced ∨ s.mu.station = .resync) →
        (∀ c : Chan, (s.chan c).present = true → (s.chan c).valve ≠ .stuck) →
        ∃ t, exec .leaveCommand s = .next t ∧ t.port = (s.finish .ok []).port ∧ t.mu.station = .leaving ∧
          (∀ a : Addr, ∀ m ∈ t.member a, m.stale = false) ∧ (∀ a : Addr, t.isMember a = s.isMember a) ∧
          t.ct.adoptionPending = false ∧ t.ct.table = s.ct.table ∧ t.alloc = s.alloc ∧ t.bus.seq = s.bus.seq ∧
          t.bus.beatTimer = s.bus.beatTimer ∧ t.mu.orphans = s.mu.orphans ∧
          (s.RunsSound → s.OneHead → s.ClosedHeads t .leave) ∧ s.Reannounced t ∧
          (s.bus.tx = none → (∀ c : Chan, (s.chan c).present = true → (s.chan c).valve = .closed) →
            OutFrame.leave ∈ t.bus.outbound)))

/-! ### Runs -/

/-- R46: the six admission checks in their order; the first that fails gives the result code of SUBMIT and of LOAD_RUN,
and nothing but the port changes; a command that passes every check is accepted with OK. -/
def Obligations.AdmissionChecksInOrder : Prop :=
  ∀ (s : State) (ctx : List Byte) (c : Chan) (code : ResultCode) (args : RunArgs), s.inReset = false →
    (s.presentChan (ctx.getD 2 0) = none → s.admission ctx = .refused .channelAbsent) ∧
    (s.presentChan (ctx.getD 2 0) = some c →
      ((s.chan c).inFault = true → s.admission ctx = .refused .channelFault) ∧
      ((s.chan c).inFault = false →
        (readRunContext ctx = none → s.admission ctx = .refused .badArg) ∧
        ∀ args, readRunContext ctx = some args →
          (6 ≤ (listOf s.rm.pool c).length → s.admission ctx = .refused .listFull) ∧
          ((listOf s.rm.pool c).length < 6 →
            (24 ≤ s.rm.pool.length → s.admission ctx = .refused .poolFull) ∧
            (s.rm.pool.length < 24 → 48 ≤ s.rm.pool.length + s.log.records.length →
              s.admission ctx = .refused .logFull) ∧
            (s.rm.pool.length < 24 → s.rm.pool.length + s.log.records.length < 48 →
              s.admission ctx = .admitted c args)))) ∧
    (s.port.awaits .submit = true → s.admission (submitContext s.port.args) = .refused code →
      exec .submit s = .next (s.finish code [])) ∧
    (s.port.awaits .loadRun = true → s.admission s.port.args = .refused code →
      exec .loadRun s = .next (s.finish code [])) ∧
    (s.port.awaits .submit = true → s.admission (submitContext s.port.args) = .admitted c args →
      ∃ t, exec .submit s = .next t ∧ t.port = (s.finish .ok [byteOf s.rm.nextHandle]).port) ∧
    (s.port.awaits .loadRun = true → s.admission s.port.args = .admitted c args →
      ∃ t, exec .loadRun s = .next t ∧ t.port = (s.finish .ok [byteOf s.rm.nextHandle]).port)

/-- R47, R41, R173, R65: an accepted SUBMIT or LOAD_RUN takes a reservation and a handle, answers with the handle, and the
new run is live with the arguments' values; with its stop flag set it departs STOPPED at once. -/
def Obligations.AdmissionMakesRun : Prop :=
  ∀ (s : State) (k : HostCommand) (ctx : List Byte) (c : Chan) (args : RunArgs), s.inReset = false → s.Stays →
    s.port.awaits k = true →
    (k = .submit ∧ ctx = submitContext s.port.args ∨ k = .loadRun ∧ ctx = s.port.args) →
    s.admission ctx = .admitted c args →
    ∃ t, exec (hostRow k) s = .next t ∧ t.port = (s.finish .ok [byteOf s.rm.nextHandle]).port ∧
      t.rm.handleCounter = s.rm.nextHandle ∧
      (s.stopSet args.stopFlag = false →
        t.log = { s.log with reservations := s.log.reservations + 1 } ∧
        t.rm.pool.length = s.rm.pool.length + 1 ∧
        ∃ r ∈ t.rm.pool, r.handle = s.rm.nextHandle ∧ r.channel = c ∧ r.tag = args.tag ∧ r.level = args.level ∧
          r.demand = args.demand ∧ r.target = args.target ∧ r.delivered = args.delivered ∧ r.saturated = false ∧
          r.gate = args.gate ∧ r.gateSatisfied = s.gateOpen args.gate ∧ r.stopFlag = args.stopFlag ∧
          r.timeLimit = args.timeLimit ∧ r.openSeconds = args.openSeconds ∧ r.preemptions = args.preemptions ∧
          r.submitTime = (if k = .submit then s.clock.seconds else args.submitTime) ∧ r.endResult = none ∧
          (s.gateOpen args.gate = false → r.state = .gated)) ∧
      (s.stopSet args.stopFlag = true →
        t.log.reservations = s.log.reservations ∧ t.rm.pool.length = s.rm.pool.length ∧
        ∃ r, t.log.records = s.log.records ++ [r] ∧ r.handle = s.rm.nextHandle ∧ r.result = .stopped ∧
          r.delivered = args.delivered ∧ r.endTime = s.clock.seconds ∧ r.closeNotConfirmed = false) ∧
      t.ct = s.ct ∧ t.mu = s.mu ∧ t.events = s.events ∧ t.site = s.site ∧ t.clock = s.clock

/-- R63, R57, R58: CANCEL: refused for a handle no live run holds; a GATED, QUEUED or ASKING run departs with its record,
an open or closing head gets the purpose ENDING, and a run with an end result keeps it. -/
def Obligations.CancelEndsRun : Prop :=
  ∀ (s : State) (r : Run), s.inReset = false → s.Stays → s.port.awaits .cancel = true →
    (findRun s.rm.pool (s.port.arg 0).toNat = none → exec .cancel s = .next (s.finish .noSuchRun [])) ∧
    (findRun s.rm.pool (s.port.arg 0).toNat = some r →
      ∃ t, exec .cancel s = .next t ∧ t.port = (s.finish .ok []).port ∧ t.ct = s.ct ∧ t.mu = s.mu ∧
        t.events = s.events ∧
        (r.endResult.isSome = true → t.rm = s.rm ∧ t.log = s.log) ∧
        (r.endResult = none → (r.state = .gated ∨ r.state = .queued ∨ r.state = .asking) →
          t.log.records = s.log.records ++
            [completionRecord { r with endResult := some .cancelled } false s.clock.seconds] ∧
          t.log.reservations = s.log.reservations - 1 ∧ t.rm.pool.length + 1 = s.rm.pool.length) ∧
        (∀ p, r.endResult = none → r.state = .closing p →
          t.log = s.log ∧ ∃ q ∈ t.rm.pool, q.handle = r.handle ∧ q.state = .closing .ending ∧
            q.endResult = some .cancelled) ∧
        (r.endResult = none → r.state = .flowing → s.head r.channel = some r →
          (s.chan r.channel).valve.driven = true → (s.chan r.channel).confirmed = false →
          t.log = s.log ∧ (t.chan r.channel).valve = .closing ∧
          (t.chan r.channel).closeTimer = some (s.chan r.channel).closeLoad ∧
          ∃ q ∈ t.rm.pool, q.handle = r.handle ∧ q.state = .closing .ending ∧ q.endResult = some .cancelled))

/-- 12.3, R45, R65, R201: which bytes of a run context are read as which arguments, every other context being BAD_ARG; SUBMIT
carries bytes 1–8 and 20–26 of it; and bytes 1–26 of the QUERY_RUN response, written back as a LOAD_RUN, are read as the run's
own values (R64). -/
def Obligations.RunContextsRead : Prop :=
  (∀ (ctx : List Byte) (args : RunArgs), readRunContext ctx = some args ↔
    word16 (ctx.getD 0 0) (ctx.getD 1 0) = args.tag ∧ (ctx.getD 3 0).toNat = args.level.val ∧
    (ctx.getD 4 0).toNat = args.demand ∧ 1 ≤ args.demand ∧ args.demand ≤ 63 ∧
    [ctx.getD 5 0, ctx.getD 6 0, ctx.getD 7 0] = decimalBytes args.target ∧ args.target ≠ Decimal.zero 6 ∧
    [ctx.getD 8 0, ctx.getD 9 0, ctx.getD 10 0, ctx.getD 11 0] = decimalBytes args.delivered ∧
    reaches args.delivered args.target = false ∧ (ctx.getD 12 0).toNat = args.preemptions ∧
    (word16 (ctx.getD 13 0) (ctx.getD 14 0)).toNat = args.openSeconds ∧
    word32 (ctx.getD 15 0) (ctx.getD 16 0) (ctx.getD 17 0) (ctx.getD 18 0) = args.submitTime ∧
    (match args.gate with
      | none => (ctx.getD 19 0).toNat / 16 = 0
      | some (.flagSet n) => (ctx.getD 19 0).toNat / 16 = 1 ∧ (ctx.getD 20 0).toNat = n.val
      | some (.flagClear n) => (ctx.getD 19 0).toNat / 16 = 2 ∧ (ctx.getD 20 0).toNat = n.val
      | some (.gauge a cmp v) =>
        (ctx.getD 19 0).toNat = 48 + cmp.code ∧ (ctx.getD 20 0).toNat = a.val ∧
          (ctx.getD 21 0).toNat = v.hundreds.val ∧ (ctx.getD 22 0).toNat = 16 * v.tens.val + v.units.val
      | some (.after h) => (ctx.getD 19 0).toNat / 16 = 4 ∧ (ctx.getD 20 0).toNat = h ∧ 1 ≤ h) ∧
    (match args.stopFlag with
      | none => ctx.getD 23 0 = 0xFF
      | some n => (ctx.getD 23 0).toNat = n.val) ∧
    (match args.timeLimit with
      | none => word16 (ctx.getD 24 0) (ctx.getD 25 0) = 0
      | some m => (word16 (ctx.getD 24 0) (ctx.getD 25 0)).toNat = m ∧ 1 ≤ m ∧ m ≤ 999 ∧ args.openSeconds < 60 * m)) ∧
  (∀ bytes : List Byte, submitContext bytes = bytes.take 8 ++ [0, 0, 0, 0, 0, 0, 0, 0, 0, 0, 0] ++ bytes.drop 8) ∧
  (∀ (r : Run), 1 ≤ r.demand → r.demand ≤ 63 → r.target ≠ Decimal.zero 6 → reaches r.delivered r.target = false →
    r.preemptions ≤ 255 → r.openSeconds ≤ 65535 → belowLimit r.openSeconds r.timeLimit = true →
    (∀ m ∈ r.timeLimit, 1 ≤ m ∧ m ≤ 999) → (∀ h, r.gate = some (.after h) → 1 ≤ h ∧ h ≤ 255) →
    readRunContext ((runBytes r).take 26) = some
      ⟨r.tag, r.level, r.demand, r.target, r.delivered, r.preemptions, r.openSeconds, r.submitTime, r.gate, r.stopFlag,
        r.timeLimit⟩ ∧ toChan (((runBytes r).take 26).getD 2 0) = some r.channel)

/-- R41: with at most 24 live runs, the next handle is 1–255, no live run holds it, and it is the first such handle
after the counter. -/
def Obligations.NextHandleIsFree : Prop :=
  ∀ (rm : RunUnit), rm.pool.length ≤ 24 → rm.handleCounter ≤ 255 →
    1 ≤ rm.nextHandle ∧ rm.nextHandle ≤ 255 ∧ findRun rm.pool rm.nextHandle = none ∧
      ∃ k, k ≤ 24 ∧ rm.nextHandle = (rm.handleCounter % 255 + k) % 255 + 1 ∧
        ∀ j, j < k → (findRun rm.pool ((rm.handleCounter % 255 + j) % 255 + 1)).isSome = true

/-- R101, R102, R103, R104, R105, R108: when a gate is satisfied; after an evaluation no live run has its stop flag set
without an end result and no GATED run has a gate that is satisfied; a run stopped before it was served is in the log with
STOPPED, an open or closing head closes for it; a run whose gate is satisfied is no longer GATED; and the same holds after an
applied FLAG frame. -/
def Obligations.EvaluationStopsAndPasses : Prop :=
  ∀ (s : State), s.RunsSound → s.OneHead →
    (∀ n : Fin 16, (s.gateHolds (.flagSet n) = true ↔ s.ct.flags.getLsbD n.val = true) ∧
      (s.gateHolds (.flagClear n) = true ↔ s.ct.flags.getLsbD n.val = false) ∧
      (s.stopSet (some n) = true ↔ s.ct.flags.getLsbD n.val = true)) ∧
    (∀ (a : Addr) (v : Gauge),
      (s.gateHolds (.gauge a .eq v) = true ↔ ∃ m ∈ s.member a, ∃ g ∈ m.gauge, g.number = v.number) ∧
      (s.gateHolds (.gauge a .ne v) = true ↔ ∃ m ∈ s.member a, ∃ g ∈ m.gauge, g.number ≠ v.number) ∧
      (s.gateHolds (.gauge a .ge v) = true ↔ ∃ m ∈ s.member a, ∃ g ∈ m.gauge, v.number ≤ g.number) ∧
      (s.gateHolds (.gauge a .lt v) = true ↔ ∃ m ∈ s.member a, ∃ g ∈ m.gauge, g.number < v.number)) ∧
    (∀ h : Nat, s.gateHolds (.after h) = true ↔ ∀ r ∈ s.rm.pool, r.handle ≠ h) ∧
    s.gateOpen none = true ∧ (∀ g, s.gateOpen (some g) = s.gateHolds g) ∧ s.stopSet none = false ∧
    (∀ r ∈ s.evaluate.rm.pool, s.evaluate.stopSet r.stopFlag = true → r.endResult.isSome = true) ∧
    (∀ r ∈ s.evaluate.rm.pool, r.state = .gated → s.evaluate.gateOpen r.gate = false) ∧
    (∀ r ∈ s.rm.pool, s.stopSet r.stopFlag = true →
      ((r.state = .gated ∨ r.state = .queued ∨ r.state = .asking) →
        completionRecord { r with endResult := some .stopped } false s.clock.seconds ∈ s.evaluate.log.records) ∧
      (r.state = .flowing → s.head r.channel = some r → (s.chan r.channel).valve.driven = true →
        (s.chan r.channel).confirmed = false →
        (s.evaluate.chan r.channel).valve = .closing ∧
        ∃ q ∈ s.evaluate.rm.pool, q.handle = r.handle ∧ q.state = .closing .ending ∧ q.endResult = some .stopped) ∧
      (∀ p, r.state = .closing p → r.endResult = none →
        { r with state := .closing .ending, endResult := some .stopped } ∈ s.evaluate.rm.pool)) ∧
    (∀ r ∈ s.rm.pool, r.state = .gated → s.stopSet r.stopFlag = false → s.gateOpen r.gate = true →
      ∃ q ∈ s.evaluate.rm.pool, q.handle = r.handle ∧ q.gateSatisfied = true ∧ q.state ≠ .gated) ∧
    (∀ (a : Addr) (seq : Seq) (set clear : BitVec 16), s.Hears a seq →
      ∃ t, exec (.flagFrame a seq set clear) s = .next t ∧
        (∀ r ∈ t.rm.pool, t.stopSet r.stopFlag = true → r.endResult.isSome = true) ∧
        (∀ r ∈ t.rm.pool, r.state = .gated → t.gateOpen r.gate = false))

/-- R43, R44, R54, R55, R61, R105, R172: the head of a channel, and head selection by its table: what the first eligible run is, a new head, the replacement of an
ASKING head, the preemption of a FLOWING head, and nothing in every other case; the fields of a completion record; and what a departure releases, with the head that follows a head. That its evaluation satisfies the
AFTER gates on the departed handle and leaves every other GATED run as it was is the model's reading (log 15). -/
def Obligations.HeadSelectionByTable : Prop :=
  ∀ (s : State) (c : Chan), s.RunsSound → s.OneHead →
    (∀ r, s.head c = some r ↔
      r ∈ s.rm.pool ∧ r.channel = c ∧ (r.state = .asking ∨ r.state = .flowing ∨ ∃ p, r.state = .closing p)) ∧
    (firstEligible s.rm.pool c = none ↔ ∀ q ∈ s.rm.pool, q.channel = c → q.state = .gated) ∧
    (∀ r, firstEligible s.rm.pool c = some r → r ∈ s.rm.pool ∧ r.channel = c ∧ r.state ≠ .gated ∧
      ∀ q ∈ s.rm.pool, q.channel = c → q.state ≠ .gated →
        r.level ≤ q.level ∧ (q.level = r.level → s.rm.pool.idxOf r ≤ s.rm.pool.idxOf q)) ∧
    (firstEligible s.rm.pool c = none → s.headSelect c = s) ∧
    (∀ r, firstEligible s.rm.pool c = some r → s.head c = none →
      s.headSelect c = { s with rm := { s.rm with
        pool := s.rm.pool.map fun (q : Run) => if q.handle = r.handle then { q with state := .asking } else q } }) ∧
    (∀ r a, firstEligible s.rm.pool c = some r → s.head c = some a →
      (r = a → s.headSelect c = s) ∧
      (a.state.isClosing = true → s.headSelect c = s) ∧
      (r ≠ a → a.state = .asking →
        s.headSelect c = { s with rm := { s.rm with
          pool := s.rm.pool.map fun (q : Run) =>
            if q.handle = r.handle then { q with state := .asking }
            else if q.handle = a.handle then { q with state := .queued } else q } }) ∧
      (r ≠ a → a.state = .flowing → (s.chan c).valve.driven = true → (s.chan c).confirmed = false →
        s.headSelect c = ({ s with rm := { s.rm with
          pool := s.rm.pool.map fun (q : Run) => if q.handle = a.handle then
            { q with state := .closing .preemptLocal, preemptions := min 255 (q.preemptions + 1) } else q } }).setChan c
          { s.chan c with
            valve := .closing, openTimer := none, noFlowTimer := none, closeTimer := some (s.chan c).closeLoad }) ∧
      (r ≠ a → a.state = .flowing → (s.chan c).valve.driven = true → (s.chan c).confirmed = true →
        ((s.headSelect c).chan c).valve = .closed ∧ { r with state := .asking } ∈ (s.headSelect c).rm.pool ∧
        { a with state := .queued, preemptions := min 255 (a.preemptions + 1) } ∈ (s.headSelect c).rm.pool)) ∧
    (∀ (r : Run) (b : Bool) (now : BitVec 32) (e : EndResult), r.endResult = some e →
      completionRecord r b now =
        { handle := r.handle, tag := r.tag, channel := r.channel, level := r.level, result := e, target := r.target,
          delivered := r.delivered, saturated := r.saturated, closeNotConfirmed := b, preemptions := r.preemptions,
          openSeconds := r.openSeconds, submitTime := r.submitTime, endTime := now }) ∧
    (∀ (r : Run) (b : Bool), r ∈ s.rm.pool →
      (s.depart r.handle b).log.records = s.log.records ++ [completionRecord r b s.clock.seconds] ∧
      (∀ q ∈ (s.depart r.handle b).rm.pool, q.handle ≠ r.handle) ∧
      (r.state.isHead = true → (s.depart r.handle b).HeadIsFirst r.channel) ∧
      (∀ q ∈ s.rm.pool, q.handle ≠ r.handle → q.state = .gated →
        (q.gate = some (.after r.handle) →
          ∃ x ∈ (s.depart r.handle b).rm.pool, x.handle = q.handle ∧ x.gateSatisfied = true ∧ x.state ≠ .gated) ∧
        (q.gate ≠ some (.after r.handle) → q ∈ (s.depart r.handle b).rm.pool)))

/-! ### Channels and log -/

/-- R85, R98, R176, R177, R178: READ_CHANNEL answers with the 29 bytes of the channel and, with its option, clears WRAPPED
afterwards; READ_LOG removes the oldest record and answers with it, PEEK_LOG and LOG_STATUS change nothing. -/
def Obligations.ReadChannelAndLogCommands : Prop :=
  ∀ (s : State) (c : Chan), s.inReset = false →
    (s.port.awaits .readChannel = true →
      (8 ≤ (s.port.arg 0).toNat → exec .readChannel s = .next (s.finish .badArg [])) ∧
      (toChan (s.port.arg 0) = some c → (s.channelBytes c).length = 29 ∧
        ((s.port.arg 1).getLsbD 0 = false → exec .readChannel s = .next (s.finish .ok (s.channelBytes c))) ∧
        ((s.port.arg 1).getLsbD 0 = true →
          exec .readChannel s = .next
            ((s.setChan c { s.chan c with wrapped := false }).finish .ok (s.channelBytes c))))) ∧
    (s.port.awaits .readLog = true →
      (s.log.records = [] → exec .readLog s = .next (s.finish .empty [])) ∧
      (∀ r rest, s.log.records = r :: rest → s.log.readPos < 48 →
        exec .readLog s = .next ((s.setLog ⟨rest, (s.log.readPos + 1) % 48, s.log.reservations⟩).finish .ok
          (recordBytes r)) ∧
        (recordBytes r).length = 25)) ∧
    (s.port.awaits .peekLog = true →
      (∀ r, s.log.records[(s.port.arg 0).toNat]? = some r →
        exec .peekLog s = .next (s.finish .ok (recordBytes r))) ∧
      (s.log.records.length ≤ (s.port.arg 0).toNat → exec .peekLog s = .next (s.finish .badArg []))) ∧
    (s.port.awaits .logStatus = true →
      exec .logStatus s = .next (s.finish .ok [byteOf s.log.records.length, byteOf s.log.reservations]))

/-- R80: CLEAR_FAULT: the present channel that an argument names, and its refusals in order; accepted, the channel leaves FAULT, a STUCK valve is taken as CLOSED, and the
unattributed volume is 0. -/
def Obligations.ClearFaultReturnsChannel : Prop :=
  ∀ (s : State) (c : Chan), s.inReset = false → s.Stays → s.port.awaits .clearFault = true →
    (∀ b : Byte, s.presentChan b = some c ↔ b.toNat = c.val ∧ (s.chan c).settings.isSome = true) ∧
    (s.presentChan (s.port.arg 0) = none → exec .clearFault s = .next (s.finish .channelAbsent [])) ∧
    (s.presentChan (s.port.arg 0) = some c →
      ((s.chan c).inFault = false ∨ (s.chan c).valve = .closing →
        exec .clearFault s = .next (s.finish .wrongState [])) ∧
      ((s.chan c).inFault = true → (s.chan c).valve ≠ .closing →
        ∃ t, exec .clearFault s = .next t ∧ t.port = (s.finish .ok []).port ∧ (t.chan c).inFault = false ∧
          (t.chan c).unattributed = Decimal.zero 7 ∧
          ((s.chan c).valve = .stuck → (t.chan c).valve = .closed ∧ (t.chan c).stuckValues = none) ∧
          ((s.chan c).valve ≠ .stuck → (t.chan c).valve = (s.chan c).valve) ∧
          (t.chan c).totalizer = (s.chan c).totalizer ∧
          (∀ d : Chan, d ≠ c → (t.chan d).valve = (s.chan d).valve ∧ (t.chan d).faults = (s.chan d).faults) ∧
          t.rm = s.rm ∧ t.log = s.log ∧ t.ct = s.ct ∧ t.mu = s.mu ∧ t.events = s.events))

/-! ### Site commands and reads -/

/-- R189, R190, R191, R155, R163, R138: a site command is refused WRONG_STATE outside SYNCED and RESYNC; accepted, it puts
its frame into the outbound set and changes nothing else; the refusals after the first check. -/
def Obligations.SiteCommandsQueueFrames : Prop :=
  ∀ (s : State) (k : HostCommand), s.inReset = false →
    (k ∈ [HostCommand.setFlags, .setGauge, .halt, .release, .purge, .leave] → s.port.awaits k = true →
      s.mu.station ≠ .synced → s.mu.station ≠ .resync → exec (hostRow k) s = .next (s.finish .wrongState [])) ∧
    ((s.mu.station = .synced ∨ s.mu.station = .resync) →
      (s.port.awaits .setFlags = true →
        exec .setFlags s = .next ((s.queued (.flag
          (word16 (s.port.arg 0) (s.port.arg 1) &&& ~~~(word16 (s.port.arg 2) (s.port.arg 3)))
          (word16 (s.port.arg 2) (s.port.arg 3)))).finish .ok [])) ∧
      (s.port.awaits .setGauge = true →
        (readGauge (gaugeFieldOf (s.port.arg 0) (s.port.arg 1)) = none →
          exec .setGauge s = .next (s.finish .badArg [])) ∧
        (∀ g, readGauge (gaugeFieldOf (s.port.arg 0) (s.port.arg 1)) = some g →
          exec .setGauge s = .next ((s.queued (.gauge g)).finish .ok []))) ∧
      (s.port.awaits .halt = true →
        exec .haltCommand s = .next ((s.queued (.halt reasonCommand)).finish .ok [])) ∧
      (s.port.awaits .release = true →
        (s.hu.halt ≠ .halted → exec .releaseCommand s = .next (s.finish .wrongState [])) ∧
        (s.hu.halt = .halted → s.straps.ple = true → s.hu.ploss = true →
          exec .releaseCommand s = .next (s.finish .inputAsserted [])) ∧
        (s.hu.halt = .halted → (s.straps.ple = false ∨ s.hu.ploss = false) →
          exec .releaseCommand s = .next ((s.queued .release).finish .ok []))) ∧
      (s.port.awaits .purge = true →
        (16 ≤ (s.port.arg 0).toNat → exec .purgeCommand s = .next (s.finish .badArg [])) ∧
        (∀ a, toAddr (s.port.arg 0) = some a → (s.hasOrphan a = false ∨ s.isMember a = true) →
          exec .purgeCommand s = .next (s.finish .notOrphan [])) ∧
        (∀ a, toAddr (s.port.arg 0) = some a → s.hasOrphan a = true → s.isMember a = false →
          exec .purgeCommand s = .next ((s.queued (.purge a)).finish .ok []))))

/-- R192, R64: READ_ROSTER, READ_ENTRY, READ_SITE, STATION_STATUS and QUERY_RUN answer with the state as it stands and
change nothing else. That the first byte of a READ_ENTRY response is 1 for an entry, and its last byte 1 for latched and 0 for
not, is the model's choice (log 30). -/
def Obligations.ReadsReportAndChangeNothing : Prop :=
  ∀ (s : State), s.inReset = false →
    (s.port.awaits .readRoster = true → exec .readRoster s = .next (s.finish .ok s.rosterBytes)) ∧
    (s.port.awaits .readSite = true → exec .readSite s = .next (s.finish .ok s.siteBytes)) ∧
    (s.port.awaits .stationStatus = true → exec .stationStatus s = .next (s.finish .ok s.statusBytes)) ∧
    (s.port.awaits .readEntry = true →
      ((16 ≤ (s.port.arg 0).toNat ∨ 8 ≤ (s.port.arg 1).toNat) →
        exec .readEntry s = .next (s.finish .badArg [])) ∧
      (∀ a c, toAddr (s.port.arg 0) = some a → toChan (s.port.arg 1) = some c →
        (slot s.ct.table a c = none → exec .readEntry s = .next (s.finish .ok [0, 0, 0, 0, 0, 0, 0])) ∧
        (∀ e, slot s.ct.table a c = some e →
          exec .readEntry s = .next (s.finish .ok
            [1, byteOf a.val, byteOf c.val, byteOf e.level.val, byteOf e.demand, byteOf e.phase.code,
              if e.latched then 1 else 0])))) ∧
    (s.port.awaits .queryRun = true →
      (∀ r, findRun s.rm.pool (s.port.arg 0).toNat = some r →
        exec .queryRun s = .next (s.finish .ok (runBytes r)) ∧ (runBytes r).length = 31) ∧
      (findRun s.rm.pool (s.port.arg 0).toNat = none → exec .queryRun s = .next (s.finish .noSuchRun [])))

/-- R196, 12.5: READ_EVENTS reports the 20 latched bits and LOG_NONEMPTY, and clears every latched bit; which bit of the
response stands for which event. -/
def Obligations.ReadEventsReportsAndClears : Prop :=
  ∀ (s : State), s.inReset = false → s.port.awaits .readEvents = true →
    exec .readEvents s = .next ({ s with events := ⟨0, 0⟩ }.finish .ok s.eventBytes) ∧
      s.eventBytes.length = 3 ∧ s.eventBytes.getD 0 0 = s.events.faultCh ∧
      s.eventBytes.getD 1 0 = s.events.site.extractLsb' 4 8 ∧
      (s.eventBytes.getD 2 0).extractLsb' 4 4 = s.events.site.extractLsb' 0 4 ∧
      (s.eventBytes.getD 2 0).getLsbD 0 = !s.log.records.isEmpty ∧
      [SiteEvent.haltEntered, .haltConfirmed, .haltUnconfirmed, .haltReleased, .rosterChanged, .syncLost, .syncRegained,
        .capacityMismatch].map s.hasEvent =
          [7, 6, 5, 4, 3, 2, 1, 0].map (s.eventBytes.getD 1 0).getLsbD ∧
      [SiteEvent.viewMerged, .freezeChanged, .isolated, .clash].map s.hasEvent =
          [7, 6, 5, 4].map (s.eventBytes.getD 2 0).getLsbD

/-- 12.2, 12.3, 12.4, 12.5, R201: what the responses hold, byte by byte: the log record, the run record, READ_CHANNEL,
READ_ROSTER, READ_SITE and STATION_STATUS, and the codes they use. The value 1 of the stale and configuration set bytes (log
30), the rounding of the round time (log 23) and the level 0 of a GONE that no CLAIM has left (log 19) are the model's. -/
def Obligations.ResponseLayouts : Prop :=
  (∀ (n : Nat) (d : Decimal n), (nibblesLow (decimalBytes d)).map BitVec.toNat =
    d.digits.map Fin.val ++ (if n % 2 = 1 then [0] else [])) ∧
  (∀ w : BitVec 16, bytes16 w = [byteOf (w.toNat / 256), byteOf w.toNat]) ∧
  (∀ w : BitVec 32, bytes32 w =
    [byteOf (w.toNat / 16777216), byteOf (w.toNat / 65536), byteOf (w.toNat / 256), byteOf w.toNat]) ∧
  (∀ r : LogRecord, recordBytes r =
    [byteOf r.handle, byteOf (r.tag.toNat / 256), byteOf r.tag.toNat, byteOf r.channel.val, byteOf r.level.val,
      byteOf r.result.code] ++ decimalBytes r.target ++ decimalBytes r.delivered ++
    [byteOf ((if r.saturated then 1 else 0) + if r.closeNotConfirmed then 2 else 0), byteOf r.preemptions,
      byteOf (r.openSeconds / 256), byteOf r.openSeconds] ++ bytes32 r.submitTime ++ bytes32 r.endTime) ∧
  (∀ r : Run, runBytes r =
    [byteOf (r.tag.toNat / 256), byteOf r.tag.toNat, byteOf r.channel.val, byteOf r.level.val, byteOf r.demand] ++
    decimalBytes r.target ++ decimalBytes r.delivered ++
    [byteOf r.preemptions, byteOf (r.openSeconds / 256), byteOf r.openSeconds] ++ bytes32 r.submitTime ++
    (match r.gate with
      | none => [0, 0, 0, 0]
      | some (.flagSet n) => [0x10, byteOf n.val, 0, 0]
      | some (.flagClear n) => [0x20, byteOf n.val, 0, 0]
      | some (.gauge a cmp v) => [byteOf (0x30 + cmp.code), byteOf a.val, byteOf v.hundreds.val,
          byteOf (16 * v.tens.val + v.units.val)]
      | some (.after h) => [0x40, byteOf h, 0, 0]) ++
    [(r.stopFlag.elim 0xFF fun n => byteOf n.val), byteOf (r.timeLimit.getD 0 / 256), byteOf (r.timeLimit.getD 0),
      byteOf r.handle, byteOf r.state.code, byteOf r.state.purposeCode, byteOf (endResultCode r.endResult),
      byteOf ((if r.saturated then 1 else 0) + if r.gateSatisfied then 2 else 0)]) ∧
  (∀ (s : State) (c : Chan), s.channelBytes c =
    (match (s.chan c).settings with
      | none => [0, 0, 0, 0, 0, 0, 0, 0, 0, 0]
      | some v => [1] ++ decimalBytes v.quantum ++ [byteOf v.openTime, byteOf v.closeTime,
          if v.endSwitch then 1 else 0] ++ decimalBytes v.leakLimit ++ [byteOf v.noFlowTime]) ++
    [byteOf (s.chan c).valve.code,
      byteOf ((if (s.chan c).valve = .opening ∨ (s.chan c).valve = .opened then 1 else 0) +
        (if (s.chan c).vsw = some true then 2 else 0) + if (s.chan c).wrapped then 4 else 0),
      byteOf ((if (s.chan c).faults.leak then 1 else 0) + (if (s.chan c).faults.dry then 2 else 0) +
        if (s.chan c).faults.stuck then 4 else 0)] ++
    (match (s.chan c).valve, (s.chan c).stuckValues with
      | .stuck, some v => [byteOf v.1.val, byteOf v.2]
      | _, _ => [0, 0]) ++
    [((if (s.chan c).present then s.head c else none).elim 0 fun r => byteOf r.handle),
      ((s.attributed c).elim 0 fun r => byteOf r.handle)] ++
    (match (s.chan c).announced with
      | .live k => [byteOf k.phase.code, byteOf k.level.val, byteOf k.demand]
      | .gone (some l) => [0, byteOf l.val, 0]
      | .gone none => [0, 0, 0]) ++ decimalBytes (s.chan c).totalizer ++ decimalBytes (s.chan c).unattributed) ∧
  (∀ s : State, s.rosterBytes =
    byteOf (allAddrs.filter fun a => s.isMember a).length :: allAddrs.flatMap fun a =>
      match s.member a with
      | none => []
      | some m =>
        [byteOf a.val, byteOf m.weight, byteOf m.cap, byteOf m.capacity] ++
          (match m.gauge with
            | none => [0, 0]
            | some g => [byteOf (16 + g.hundreds.val), byteOf (16 * g.tens.val + g.units.val)]) ++
          [byteOf m.lastSeq.val] ++ bytes32 m.heard ++ [if m.stale then 1 else 0]) ∧
  (∀ s : State, s.siteBytes =
    bytes16 s.ct.flags ++ [byteOf (16 * s.ct.pointers[0].val + s.ct.pointers[1].val),
      byteOf (16 * s.ct.pointers[2].val + s.ct.pointers[3].val), byteOf s.ct.capacityView, byteOf s.alloc.effective,
      byteOf s.alloc.placedDemand, byteOf (s.alloc.effective - s.alloc.placedDemand), byteOf (s.alloc.transient / 256),
      byteOf s.alloc.transient,
      byteOf ((if s.alloc.drain then 1 else 0) + (if s.alloc.freeze then 2 else 0) + if s.hu.ploss then 4 else 0),
      byteOf s.mu.orphans.length] ++
    s.mu.orphans.flatMap (fun o => [byteOf o.station.val, byteOf (o.load / 256), byteOf o.load]) ++
    [byteOf s.hu.halt.code, byteOf s.hu.reasons.toNat, byteOf s.hu.round.code] ++ bytes16 s.hu.ackSet ++
    bytes16 s.hu.ackedSet ++ bytes16 s.hu.missing ++
    [byteOf (if s.hu.round = .opened then s.hu.roundTimer.getD 0 / 1000 else 0)] ++ bytes16 s.hu.settle ++
    allAddrs.flatMap (fun a => (s.hu.acked[a.val]).toList)) ∧
  (∀ (s : State) (a : Addr), inSet s.hu.ackedSet a = (s.hu.acked[a.val]).isSome) ∧
  (∀ s : State, s.statusBytes =
    [byteOf s.mu.station.code, byteOf (if s.mu.station = .isolated then s.mu.cause.code else 0),
      byteOf (s.straps.addr.val + 16 * s.straps.wt.val + (if s.straps.atm then 64 else 0) +
        if s.straps.ple then 128 else 0),
      if s.site.isSet then 1 else 0, byteOf s.site.capacity, byteOf s.site.cap, if s.site.leakHalts then 1 else 0] ++
    bytes32 s.clock.seconds) ∧
  [StationState.config, .listening, .synced, .resync, .leaving, .isolated, .clash].map StationState.code = List.range 7 ∧
  [IsolationCause.none, .selfDrop, .readback].map IsolationCause.code = List.range 3 ∧
  [HaltState.none, .halted, .settling].map HaltState.code = List.range 3 ∧
  [RoundStatus.none, .opened, .confirmed, .unconfirmed].map RoundStatus.code = List.range 4 ∧
  [Valve.closed, .opening, .opened, .closing, .stuck].map Valve.code = List.range 5 ∧
  [Phase.asking, .flowing, .yielding, .paused, .stuck].map Phase.code = [1, 2, 3, 4, 5] ∧
  [RunState.gated, .queued, .asking, .flowing, .closing .ending].map RunState.code = [1, 2, 3, 4, 5] ∧
  [RunState.closing .preemptLocal, .closing .revoked, .closing .halt, .closing .resync, .closing .isolate, .closing .leave,
    .closing .ending, .flowing].map RunState.purposeCode = [1, 2, 3, 4, 5, 6, 7, 0] ∧
  [none, some EndResult.complete, some .cancelled, some .stopped, some .timeLimit, some .noFlow].map endResultCode =
    List.range 6 ∧
  [Comparison.eq, .ne, .ge, .lt].map Comparison.code = List.range 4

/-! ### The line and the transmit engine -/

/-- R115, R117, R124, R116, R125, R151: idle detection begins a round, and so does the end of a round in which the line has
stayed recessive; a first character other than SYNC ends the reception; a frame of a kind other than BEAT from a station that
is no member updates the last sender and nothing else, and so does every frame in CONFIG; a frame with the own address takes
the station to CLASH, from any state but CLASH, where only the last sender changes. At the entry to CLASH FLOWING heads close
for ISOLATE (R151), the halt unit is told of the own address (R169, R161, R165), and the allocator recomputes (R20). That a
station in SETTLING whose own address is neither in its roster nor in the settle set makes no settle test at that entry, and
stays SETTLING, is the model's choice (log 35). That the moments of a round come as their rows come, the 96 bit times not being
counted, is the model's choice (log 22). -/
def Obligations.RoundsIgnoredFramesAndClash : Prop :=
  ∀ (s : State) (a : Addr) (seq : Seq) (body : FrameBody) (beat : BeatBody) (b : Byte), s.inReset = false →
    (s.canReceive = true ↔ s.bus.rxReady = true ∧ s.bus.tx = none) ∧
    (s.bus.tx = none →
      exec .idleDetection s = .next { s with bus := { s.bus with rxReady := true, access := .fresh } }) ∧
    (s.bus.tx = none → s.bus.access ≠ .closed →
      exec .accessRoundExpiry s = .next { s with bus := { s.bus with access := .fresh } }) ∧
    (s.bus.tx ≠ none ∨ s.bus.access = .closed → exec .accessRoundExpiry s = .next s) ∧
    (s.canReceive = true → b ≠ 0xC5 →
      exec (.nonSyncFirstCharacter b) s = .next { s with bus :=
        { s.bus with rxReady := false, access := .closed } }) ∧
    (s.canReceive = true → a ≠ s.own → (s.isMember a = false ∨ s.mu.station = .config) → body.isBeat = false →
      exec (.frameIgnored a seq body) s = .next { s with bus :=
        { s.bus with lastSender := a, rxReady := false, access := .closed } }) ∧
    (s.canReceive = true → a ≠ s.own → s.mu.station = .config → bodyFits (.beat beat) = true →
      exec (.beatFrame a seq beat) s = .next { s with bus :=
        { s.bus with lastSender := a, rxReady := false, access := .closed } }) ∧
    (s.canReceive = true → bodyFits body = true → s.mu.station = .clash →
      exec (.clashFrameReceived seq body) s = .next { s with bus :=
        { s.bus with lastSender := s.own, rxReady := false, access := .closed } }) ∧
    (s.canReceive = true → bodyFits body = true → s.mu.station ≠ .clash →
      ∃ t, exec (.clashFrameReceived seq body) s = .next t ∧ t.mu.station = .clash ∧ t.hasEvent .clash = true ∧
        t.isMember s.own = false ∧ t.bus.outbound = [] ∧ t.bus.beatTimer = none ∧
        t.bus.failures = s.bus.failures ∧ t.bus.lastSender = s.own ∧ t.ct.adoptionPending = false ∧
        (∀ a : Addr, a ≠ s.own → t.isMember a = s.isMember a) ∧ t.ct.flags = s.ct.flags ∧ t.mu.orphans = s.mu.orphans ∧
        (s.isMember s.own = true → t.hasEvent .rosterChanged = true) ∧ (∀ b : Addr, ∀ m ∈ t.member b, m.stale = false) ∧
        s.OwnLeftHalt t ∧ (s.RunsSound → s.OneHead → s.ClosedForIsolate t) ∧ t.RecomputedFrom s.withoutOwn)

/-- R116, R117, R130, R9, R119, 12.1: the rank and the two start moments; the front frame, the oldest of an urgent kind or
else the oldest; and what the frame carries that is started for it. A BEAT carries the station's announcements, its view, and
its own entries in channel order with their marks, in LISTENING an unlatched ASKING item for each present channel with a head.
The demand of a GONE (log 17) and the digits of an absent gauge (log 18) are free; the undefined bits of a reason byte (log 31)
and the nibble of an unlatched item (log 32) are the model's. The level of a GONE was fixed when it was queued (log 19). -/
def Obligations.FrontFrameAndItsContent : Prop :=
  ∀ (s : State),
    (s.bus.lastSender.val + 1 + s.rank.val) % 16 = s.own.val ∧ s.momentAt .urgent = 3 * s.rank.val ∧
    s.momentAt .normal = 48 + 3 * s.rank.val ∧
    (s.bus.outbound = [] → s.front = none) ∧
    (∀ older f newer, s.bus.outbound = older ++ f :: newer →
      (f.urgent = true ∧ (∀ g ∈ older, g.urgent = false) ∨ older = [] ∧ ∀ g ∈ s.bus.outbound, g.urgent = false) →
      s.front = some f ∧ frontPlace s.bus.outbound = older.length) ∧
    (∀ f : OutFrame, f.urgent = true ↔ f = .release ∨ (∃ r, f = .halt r) ∨ ∃ m, f = .haltAck m) ∧
    (∀ c p l d, s.bodyOf (.claim c (.live p l d)) =
      .claim (byteOf c.val) (byteOf l.val) (byteOf d) (byteOf p.code) 0) ∧
    (∀ c l k, ∃ free, s.bodyOf (.claim c (.gone l k)) =
      .claim (byteOf c.val) (byteOf l.val) free 0 (byteOf k.code)) ∧
    (∀ set clear, s.bodyOf (.flag set clear) = .flag set clear) ∧
    (∀ g : Gauge, s.bodyOf (.gauge (some g)) =
      .gauge ⟨1, BitVec.ofNat 4 g.hundreds.val ++ BitVec.ofNat 4 g.tens.val ++ BitVec.ofNat 4 g.units.val⟩) ∧
    (∃ free, s.bodyOf (.gauge none) = .gauge ⟨0, free⟩) ∧
    (∀ a, s.bodyOf (.drop a) = .drop (byteOf a.val) ∧ s.bodyOf (.purge a) = .purge (byteOf a.val)) ∧
    s.bodyOf .leave = .leave ∧ (∀ r, s.bodyOf (.halt r) = .halt (r.setWidth 8)) ∧
    (∀ m, s.bodyOf (.haltAck m) = .haltAck m) ∧ s.bodyOf .release = .release ∧
    ∃ b, s.bodyOf .beat = .beat b ∧ b.weight = byteOf (s.straps.wt.val + 1) ∧ b.cap = byteOf s.site.cap ∧
      b.capacity = byteOf s.site.capacity ∧
      (s.isMember s.own = false ∨ s.gaugeOf s.own = none → b.gauge.presence = 0) ∧
      (∀ g, s.gaugeOf s.own = some g → b.gauge =
        ⟨1, BitVec.ofNat 4 g.hundreds.val ++ BitVec.ofNat 4 g.tens.val ++ BitVec.ofNat 4 g.units.val⟩) ∧
      b.flags = s.ct.flags ∧ b.pointers = s.ct.pointers ∧ b.haltState = byteOf s.hu.halt.code ∧
      b.reasons = s.hu.reasons.setWidth 8 ∧
      b.orphans = s.mu.orphans.map (fun o => ⟨byteOf o.station.val, BitVec.ofNat 16 o.load⟩) ∧
      b.entries = allChans.filterMap fun c =>
        if s.mu.station = .listening then
          (if (s.chan c).present then s.head c else none).map fun r =>
            ⟨byteOf c.val, byteOf r.level.val, byteOf r.demand, 0, 1⟩
        else (slot s.ct.table s.own c).map fun e =>
          ⟨byteOf c.val, byteOf e.level.val, byteOf e.demand, if e.latched then 1 else 0, BitVec.ofNat 4 e.phase.code⟩

/-- R119, R117, R126, R84, R121, R149: at a start moment of the round the front frame, at the urgent one only when it is
urgent, leaves the set for the engine with the current number; the first BEAT in LISTENING sets the announced record of every
channel, GONE where it lists none; otherwise nothing else changes but the free-value counter. With no such frame the moment
passes. That each moment comes once a round, the urgent one first, is the model's choice (log 22); a moment that has passed, or
that falls after a start bit or in a transmission, starts nothing (log 1). A readback failure returns the frame to its former
place, combined with a frame of its key, and raises the count; the third isolates the station, with its FLOWING heads closing
for ISOLATE, the halt unit told of the own address (R169, R161, R165), and a recomputation (R20). That a station in
SETTLING whose own address is neither in its roster nor in the settle set, as in LISTENING after JOIN has emptied both, makes no
settle test at that entry, and stays SETTLING, is the model's choice (log 35). A failure at the attempt's own start bit leaves
the round going on, a later one closes it, as the row says (log 22). -/
def Obligations.TransmissionStartsAndFails : Prop :=
  ∀ (s : State) (m : Moment) (bit : Mismatch) (f : OutFrame) (x : Transmission), s.inReset = false →
    ((s.bus.access = .fresh ∨ s.bus.access = .urgentPassed ∧ m = .normal) → s.bus.tx = none → s.front = some f →
      (m = .urgent → f.urgent = true) →
      ∃ t, exec (.transmissionStart m) s = .next t ∧ t.free = s.free + 1 ∧
        t.bus = { s.bus with
          outbound := s.bus.outbound.eraseIdx (frontPlace s.bus.outbound)
          tx := some ⟨⟨s.own, s.bus.seq, s.bodyOf f⟩, f, frontPlace s.bus.outbound⟩
          access := if m = .urgent then .urgentPassed else .normalPassed } ∧
        (f ≠ .beat ∨ s.mu.station ≠ .listening → t.chans = s.chans) ∧
        (f = .beat → s.mu.station = .listening → ∀ c : Chan, ∀ r, (s.chan c).present = true → s.head c = some r →
          t.chan c = { s.chan c with announced := .live ⟨.asking, r.level, r.demand⟩ }) ∧
        (f = .beat → s.mu.station = .listening → ∀ c : Chan, ((s.chan c).present = false ∨ s.head c = none) →
          (∃ l, (t.chan c).announced = .gone l) ∧
          t.chan c = { s.chan c with announced := (t.chan c).announced } ∧
          (∀ l, (s.chan c).announced = .gone l → t.chan c = s.chan c)) ∧
        t.rm = s.rm ∧ t.log = s.log ∧ t.ct = s.ct ∧ t.mu = s.mu ∧ t.hu = s.hu ∧ t.events = s.events ∧
        t.port = s.port) ∧
    ((s.bus.access = .fresh ∨ s.bus.access = .urgentPassed ∧ m = .normal) → s.bus.tx = none →
      (s.bus.outbound = [] ∨ m = .urgent ∧ ∀ g ∈ s.bus.outbound, g.urgent = false) →
      exec (.transmissionStart m) s = .next { s with bus :=
        { s.bus with access := if m = .urgent then .urgentPassed else .normalPassed } }) ∧
    ((s.bus.access = .closed ∨ s.bus.access = .normalPassed ∨ s.bus.access = .urgentPassed ∧ m = .urgent ∨
        s.bus.tx ≠ none) → exec (.transmissionStart m) s = .next s) ∧
    (s.bus.tx = some x → s.bus.failures < 2 →
      exec (.readbackFailure bit) s = .next { s with bus := { s.bus with
        tx := none
        outbound := restoreOut x.place x.item s.bus.outbound
        failures := s.bus.failures + 1
        access := if bit = .startBit then s.bus.access else .closed } } ∧
      ((∀ g ∈ s.bus.outbound, g.sameKey x.item = false) →
        restoreOut x.place x.item s.bus.outbound =
          s.bus.outbound.take x.place ++ x.item :: s.bus.outbound.drop x.place) ∧
      (∀ older g newer, s.bus.outbound = older ++ g :: newer → g.sameKey x.item = true →
        (∀ h ∈ older ++ newer, h.sameKey x.item = false) →
        restoreOut x.place x.item s.bus.outbound =
          (older ++ newer).take x.place ++ x.item.combine g :: (older ++ newer).drop x.place)) ∧
    (s.bus.tx = some x → 2 ≤ s.bus.failures →
      ∃ t, exec (.readbackFailure bit) s = .next t ∧ t.mu.station = .isolated ∧ t.mu.cause = .readback ∧
        t.isMember s.own = false ∧ t.bus.tx = none ∧ t.bus.outbound = [] ∧ t.bus.failures = 0 ∧
        t.bus.seq = s.bus.seq ∧ t.bus.beatTimer = none ∧ t.ct.adoptionPending = false ∧ t.hasEvent .isolated = true ∧
        (∀ c : Chan, (t.chan c).announced = .gone none) ∧
        (∀ a : Addr, a ≠ s.own → t.isMember a = s.isMember a) ∧ t.mu.orphans = s.mu.orphans ∧
        (s.isMember s.own = true → t.hasEvent .rosterChanged = true) ∧ (∀ b : Addr, ∀ m ∈ t.member b, m.stale = false) ∧
        s.OwnLeftHalt t ∧ (s.RunsSound → s.OneHead → s.ClosedForIsolate t) ∧ t.RecomputedFrom s.withoutOwn)

/-- R120, R124, R127, R131, R147, R143, R135, R154, R84: in SYNCED, RESYNC and LEAVING a frame sent clean is counted as sent and
applied at its sender as at any receiver: CLAIM, FLAG, GAUGE, DROP, PURGE, HALT, HALT_ACK, RELEASE and each BEAT after the
first. The clean send of the LEAVE frame takes the station to CONFIG with its copy and its set emptied; the station's first
BEAT sent clean in LISTENING makes it a SYNCED member of its own roster and starts the beat timer. At that entry to SYNCED DROP
is queued for every silent member, HALT PRESSURE with PLOSS# asserted outside HALTED, and a CLAIM where a channel derives
anything but what it has announced. That the application is part of the step is the model's reading (log 9). -/
def Obligations.FramesSentClean : Prop :=
  ∀ (s : State) (x : Transmission) (b : BeatBody), s.inReset = false → s.bus.tx = some x →
    (∀ set clear, s.mu.station = .synced → x.item = .flag set clear → x.frame.body = .flag set clear →
      ∃ t, exec .frameSent s = .next t ∧ t.bus.tx = none ∧ t.bus.failures = 0 ∧ t.bus.seq = s.bus.seq + 1 ∧
        t.bus.lastSender = s.own ∧ t.bus.beatTimer = s.bus.beatTimer ∧
        t.ct.flags = (s.ct.flags ||| set) &&& ~~~clear ∧ t.ct.pointers = s.ct.pointers) ∧
    (s.Sends x → ∃ t, exec .frameSent s = .next t ∧ s.CountedSent t x ∧
      (∀ channel level demand phase cause, x.frame.body = .claim channel level demand phase cause →
        s.ClaimApplied t s.own channel level demand phase cause) ∧
      (∀ set clear, x.frame.body = .flag set clear → s.FlagApplied t set clear) ∧
      (∀ g, x.frame.body = .gauge g → s.GaugeApplied t s.own g) ∧
      (∀ target, x.frame.body = .drop target → s.DropApplied t target) ∧
      (∀ target, x.frame.body = .purge target → s.PurgeApplied t target) ∧
      (∀ reasons, x.frame.body = .halt reasons → s.HaltApplied t reasons) ∧
      (∀ mask, x.frame.body = .haltAck mask → s.AckApplied t s.own mask) ∧
      (x.frame.body = .release → s.ReleaseApplied t) ∧
      (x.frame.body = .beat b →
        s.BeatEntered t s.own x.frame.seq b none ∧ s.ViewTaken t s.own b s.mu.orphans s.isMember ∧
        (s.RunsSound → s.OneHead → (s.Adopts → ∃ d : Addr, d ≠ s.own ∧ s.isMember d = true) →
          s.HaltPartTaken t s.own b))) ∧
    (x.item = .leave →
      ∃ t, exec .frameSent s = .next t ∧ t.mu.station = .config ∧ (∀ a : Addr, t.member a = none) ∧
        (∀ (a : Addr) (c : Chan), slot t.ct.table a c = none) ∧ t.mu.orphans = [] ∧ t.bus.outbound = [] ∧
        t.bus.tx = none ∧ t.bus.beatTimer = none ∧ t.bus.failures = 0 ∧ t.bus.seq = s.bus.seq + 1 ∧
        t.ct.adoptionPending = false ∧ t.ct.announcedSet = [] ∧ t.alloc = ⟨0, 0, 0, true, false⟩ ∧
        t.hu.round = .none ∧ t.hu.settle = 0 ∧ t.hu.ackPending = false ∧ (∀ c : Chan, (t.chan c).announced = .gone none) ∧
        (s.isMember s.own = true → t.hasEvent .rosterChanged = true)) ∧
    (s.mu.station = .listening → x.item = .beat → x.frame = ⟨s.own, s.bus.seq, .beat b⟩ → s.isMember s.own = false →
      ∃ t, exec .frameSent s = .next t ∧ t.mu.station = .synced ∧ t.isMember s.own = true ∧
        t.bus.beatTimer = some 2000 ∧ t.bus.failures = 0 ∧ t.bus.seq = s.bus.seq + 1 ∧ t.bus.lastSender = s.own ∧
        t.ct.adoptionPending = false ∧ t.hasEvent .syncRegained = true ∧ t.hasEvent .rosterChanged = true ∧
        (∀ a : Addr, a ≠ s.own → (s.member a).any Member.silent = true → OutFrame.drop a ∈ t.bus.outbound) ∧
        (s.pressureLost = true → s.hu.halt ≠ .halted → t.HaltPending 1) ∧ s.Reannounced t)

/-- R123, R126, R144, R145, R142, R66, R84: a receive error in SYNCED with another member in the roster puts the station in RESYNC, in
RESYNC it restarts the stale marking, in LISTENING it restarts the listen window, and in CONFIG, LEAVING, ISOLATED and CLASH
it has no effect beyond the discard. A frame of a member with a gap is applied in full; the gap then puts the SYNCED station in
RESYNC, restarts the stale marking in RESYNC and the listen window in LISTENING, and has no effect in LEAVING, ISOLATED and
CLASH; in CONFIG no sequence check is made. At the entry to RESYNC every FLOWING head closes for RESYNC (after a gap, unless the
frame's application has already closed it for another purpose), and every channel announces its derivation. -/
def Obligations.LostFramesByStationState : Prop :=
  ∀ (s : State) (chars : List Byte) (a : Addr) (seq : Seq) (set clear : BitVec 16), s.inReset = false →
    s.canReceive = true → receiveChars chars = .error →
    (s.mu.station = .synced → (∃ a : Addr, a ≠ s.own ∧ s.isMember a = true) →
      ∃ t, exec (.receiveError chars) s = .next t ∧ t.mu.station = .resync ∧ t.hasEvent .syncLost = true ∧
        t.ct.adoptionPending = true ∧ (∀ a : Addr, a ≠ s.own → ∀ m ∈ t.member a, m.stale = true) ∧
        (∀ a : Addr, t.isMember a = s.isMember a) ∧ t.ct.table = s.ct.table ∧ t.alloc = s.alloc ∧
        t.bus.lastSender = s.bus.lastSender ∧ t.bus.seq = s.bus.seq ∧
        (s.RunsSound → s.OneHead → s.ClosedHeads t .resync) ∧ s.Reannounced t) ∧
    (s.mu.station = .resync → (∃ a : Addr, a ≠ s.own ∧ s.isMember a = true) →
      ∃ t, exec (.receiveError chars) s = .next t ∧ t.mu.station = .resync ∧ t.ct.adoptionPending = true ∧
        (∀ a : Addr, a ≠ s.own → ∀ m ∈ t.member a, m.stale = true) ∧ (∀ a : Addr, t.isMember a = s.isMember a) ∧
        t.ct.table = s.ct.table ∧ t.events = s.events ∧ t.rm = s.rm ∧ t.log = s.log ∧
        (∀ c : Chan, (t.chan c).valve = (s.chan c).valve) ∧ t.bus.lastSender = s.bus.lastSender) ∧
    (s.mu.station = .listening →
      ∃ t, exec (.receiveError chars) s = .next t ∧ t.mu.station = .listening ∧ t.mu.listenWindow = some 4000 ∧
        (∀ a : Addr, t.member a = none) ∧ t.mu.orphans = [] ∧ t.bus.outbound = [] ∧ t.bus.seq = 0 ∧
        t.bus.failures = s.bus.failures ∧ t.ct.adoptionPending = true ∧ t.ct.flags = s.ct.flags ∧
        t.alloc = ⟨0, 0, 0, true, false⟩) ∧
    (s.mu.station = .config ∨ s.mu.station = .clash ∨
        (s.mu.station = .isolated ∧ (s.mu.cause ≠ .selfDrop ∨ s.settled = false)) →
      ∃ t, exec (.receiveError chars) s = .next t ∧ t.mu = s.mu ∧ t.ct = s.ct ∧ t.rm = s.rm ∧ t.log = s.log ∧
        t.bus = { s.bus with rxReady := false, access := .closed } ∧ t.chans = s.chans ∧ t.events = s.events) ∧
    (s.mu.station = .leaving →
      ∃ t, exec (.receiveError chars) s = .next t ∧ t.mu = s.mu ∧ t.ct = s.ct ∧ t.rm = s.rm ∧ t.log = s.log ∧
        t.events = s.events ∧ t.bus.seq = s.bus.seq ∧ t.bus.failures = s.bus.failures ∧
        t.bus.lastSender = s.bus.lastSender ∧ t.bus.beatTimer = s.bus.beatTimer ∧
        (∀ c : Chan, t.chan c = { s.chan c with announced := (t.chan c).announced })) ∧
    (s.mu.station = .synced → a ≠ s.own → s.isMember a = true → s.hasGap ⟨a, seq, .flag set clear⟩ = true →
      ∃ t, exec (.flagFrame a seq set clear) s = .next t ∧ t.ct.flags = (s.ct.flags ||| set) &&& ~~~clear ∧
        t.mu.station = .resync ∧ t.hasEvent .syncLost = true ∧ t.ct.adoptionPending = true ∧ t.bus.lastSender = a ∧
        (∀ b : Addr, b ≠ s.own → ∀ m ∈ t.member b, m.stale = true) ∧ (∀ m ∈ t.member a, m.lastSeq = seq) ∧
        (∀ b : Addr, t.isMember b = s.isMember b) ∧ t.RecomputedFrom s.ct.table ∧ s.Reannounced t ∧
        (s.RunsSound → s.OneHead →
          (∀ c : Chan, ∀ r ∈ t.head c, r.state ≠ .flowing) ∧
          ∀ c : Chan, ∀ r ∈ s.head c, r.state = .flowing → (s.chan c).valve.driven = true →
            (s.chan c).confirmed = false →
            (t.chan c).valve = .closing ∧ (t.chan c).closeTimer = some (s.chan c).closeLoad)) ∧
    (s.hasGap ⟨a, seq, .flag set clear⟩ = true ↔ ∃ m ∈ s.member a, seq ≠ m.lastSeq + 1) ∧
    (a ≠ s.own → s.isMember a = true → s.hasGap ⟨a, seq, .flag set clear⟩ = true →
      (s.mu.station = .resync →
        ∃ t, exec (.flagFrame a seq set clear) s = .next t ∧ t.ct.flags = (s.ct.flags ||| set) &&& ~~~clear ∧
          t.mu.station = .resync ∧ t.ct.adoptionPending = true ∧ t.bus.lastSender = a ∧
          (∀ b : Addr, b ≠ s.own → ∀ m ∈ t.member b, m.stale = true) ∧ (∀ m ∈ t.member a, m.lastSeq = seq) ∧
          (∀ b : Addr, t.isMember b = s.isMember b)) ∧
      (s.mu.station = .listening →
        ∃ t, exec (.flagFrame a seq set clear) s = .next t ∧ t.ct.flags = (s.ct.flags ||| set) &&& ~~~clear ∧
          t.mu.station = .listening ∧ t.mu.listenWindow = some 4000 ∧ (∀ b : Addr, t.member b = none) ∧
          (∀ (b : Addr) (c : Chan), slot t.ct.table b c = none) ∧ t.mu.orphans = [] ∧ t.bus.outbound = [] ∧
          t.bus.seq = 0 ∧ t.bus.failures = s.bus.failures ∧ t.bus.lastSender = a ∧ t.ct.adoptionPending = true ∧
          t.alloc = ⟨0, 0, 0, true, false⟩ ∧
          t.hasEvent .rosterChanged = true ∧ (s.mu.orphans ≠ [] → t.hasEvent .freezeChanged = true) ∧
          t.hasEvent .syncLost = s.hasEvent .syncLost) ∧
      (s.mu.station = .leaving ∨ s.mu.station = .clash ∨ s.mu.station = .isolated ∧ s.StaysOnFrame →
        ∃ t, exec (.flagFrame a seq set clear) s = .next t ∧ s.FlagApplied t set clear ∧
          t.mu.station = s.mu.station ∧ t.mu.cause = s.mu.cause ∧ t.mu.orphans = s.mu.orphans ∧
          t.ct.adoptionPending = s.ct.adoptionPending ∧ t.bus.lastSender = a ∧
          t.hasEvent .syncLost = s.hasEvent .syncLost ∧ t.bus.seq = s.bus.seq ∧
          (∃ m, t.member a = some m ∧ m.lastSeq = seq ∧ (s.member a).map Member.stale = some m.stale) ∧
          (∀ b : Addr, t.isMember b = s.isMember b))) ∧
    (s.mu.station = .config → a ≠ s.own →
      exec (.flagFrame a seq set clear) s = .next { s with bus :=
        { s.bus with lastSender := a, rxReady := false, access := .closed } })

/-- R144, R145, R143, R135, R154, R84: the return from RESYNC to SYNCED: at once where no other member is in the roster, at the
BEAT of the last stale member, and at its LEAVE; DROP is queued then for every silent member, HALT PRESSURE with PLOSS#
asserted outside HALTED, and a CLAIM where a channel derives anything but what it has announced. While another member is
stale, and after a gap, the station stays in RESYNC. -/
def Obligations.ResyncRestartsAndEnds : Prop :=
  ∀ (s : State) (chars : List Byte) (a : Addr) (seq : Seq) (b : BeatBody), s.inReset = false → s.canReceive = true →
    (receiveChars chars = .error → s.mu.station = .synced ∨ s.mu.station = .resync →
      (∀ d : Addr, d ≠ s.own → s.isMember d = false) → (∀ m ∈ s.member s.own, m.stale = false) →
      ∃ t, exec (.receiveError chars) s = .next t ∧ t.mu.station = .synced ∧ t.hasEvent .syncRegained = true ∧
        (s.mu.station = .synced → t.hasEvent .syncLost = true) ∧ t.ct.adoptionPending = false ∧
        (s.pressureLost = true → s.hu.halt ≠ .halted → t.HaltPending 1) ∧ s.Reannounced t) ∧
    (s.HearsBeat a seq b → s.mu.station = .resync → (∀ d : Addr, d ≠ a → ∀ m ∈ s.member d, m.stale = false) →
      ∃ t, exec (.beatFrame a seq b) s = .next t ∧ t.mu.station = .synced ∧ t.hasEvent .syncRegained = true ∧
        t.ct.adoptionPending = false ∧ (∀ d : Addr, ∀ m ∈ t.member d, m.stale = false) ∧
        (∀ d : Addr, d ≠ s.own → d ≠ a → (s.member d).any Member.silent = true → OutFrame.drop d ∈ t.bus.outbound) ∧
        (s.pressureLost = true → t.hu.halt ≠ .halted → t.HaltPending 1) ∧ s.Reannounced t) ∧
    (s.HearsBeat a seq b → s.mu.station = .resync → (∃ d : Addr, d ≠ a ∧ ∃ m ∈ s.member d, m.stale = true) →
      ∃ t, exec (.beatFrame a seq b) s = .next t ∧ t.mu.station = .resync ∧ t.ct.adoptionPending = false ∧
        (∀ m ∈ t.member a, m.stale = false) ∧
        ∀ d : Addr, d ≠ a → (t.member d).map Member.stale = (s.member d).map Member.stale) ∧
    (a ≠ s.own → s.mu.station = .resync → bodyFits (.beat b) = true → (∃ m ∈ s.member a, seq ≠ m.lastSeq + 1) →
      ∃ t, exec (.beatFrame a seq b) s = .next t ∧ t.mu.station = .resync ∧ t.ct.adoptionPending = true ∧
        ∀ d : Addr, d ≠ s.own → ∀ m ∈ t.member d, m.stale = true) ∧
    (s.Hears a seq → s.mu.station = .resync → (∀ d : Addr, d ≠ a → ∀ m ∈ s.member d, m.stale = false) →
      ∃ t, exec (.leaveFrame a seq) s = .next t ∧ t.mu.station = .synced ∧ t.member a = none ∧
        t.hasEvent .syncRegained = true ∧ t.ct.adoptionPending = false ∧
        (∀ d : Addr, d ≠ s.own → d ≠ a → (s.member d).any Member.silent = true → OutFrame.drop d ∈ t.bus.outbound) ∧
        (s.pressureLost = true → t.hu.halt ≠ .halted → t.HaltPending 1) ∧ s.Reannounced t)

/-! ### Applied frames -/

/-- R7, R8, R134, R30, R126, R20, R201: which items of an entry list are read, and as what; an applied BEAT of another station writes its roster record, and its entry list stands as the
sender's entries, the last valid item for each channel; that a later skipped item leaves an earlier valid one is the model's
reading (log 16). A mark of an ASKING item stands where the halt state is NONE and no orphan record is held; the recomputation
adds marks as R30 states, over the entries so written. A gap puts the SYNCED station in RESYNC after the BEAT has been applied. -/
def Obligations.BeatFrameApplied : Prop :=
  ∀ (s : State) (a : Addr) (seq : Seq) (b : BeatBody),
    (∀ (i : EntryItem) (mayLatch : Bool) (c : Chan) (e : Entry), readItem mayLatch i = some (c, e) ↔
      i.channel.toNat = c.val ∧ i.level.toNat = e.level.val ∧ i.demand.toNat = e.demand ∧ 1 ≤ e.demand ∧
        e.demand ≤ 63 ∧ i.phase.toNat = e.phase.code ∧ e.placed = false ∧
        e.latched = (mayLatch && decide (e.phase = .asking) && decide (i.latched = 1))) ∧
    (s.HearsBeat a seq b →
      ∃ t, exec (.beatFrame a seq b) s = .next t ∧ t.bus.lastSender = a ∧
        s.BeatEntered t a seq b (some 6000) ∧
        (s.isMember a = false → t.hasEvent .rosterChanged = true ∧ t.hasOrphan a = false)) ∧
    (s.inReset = false → s.canReceive = true → a ≠ s.own → s.mu.station = .synced → bodyFits (.beat b) = true →
      (∃ m ∈ s.member a, seq ≠ m.lastSeq + 1) →
      ∃ t, exec (.beatFrame a seq b) s = .next t ∧ t.mu.station = .resync ∧ t.hasEvent .syncLost = true ∧
        t.ct.adoptionPending = true ∧ (∃ m, t.member a = some m ∧ m.lastSeq = seq ∧ m.stale = true) ∧
        ∀ c : Chan, t.says a c =
          (((b.entries.filterMap (readItem false)).reverse.find? fun i => i.1 == c).map fun i => i.2.said))

/-- R15, R16, R17, R18, R13, R14, R137: the view part of an applied BEAT: adopted with adoption pending in LISTENING and
RESYNC, merged otherwise, ignored in ISOLATED and CLASH; VIEW_MERGED exactly at a merge that changes the view; the site
capacity view and the announced set formed anew, with CAPACITY_MISMATCH exactly at a change to two or more values. -/
def Obligations.BeatViewTaken : Prop :=
  ∀ (s : State) (a : Addr) (seq : Seq) (b : BeatBody) (kept : List Orphan) (members : Addr → Bool),
    s.HearsBeat a seq b →
    kept = (if s.isMember a = true then s.mu.orphans else s.mu.orphans.filter fun o => o.station != a) →
    (∀ d : Addr, members d = (s.isMember d || d == a)) →
    ∃ t, exec (.beatFrame a seq b) s = .next t ∧
      s.ViewTaken t a b kept members

/-- R165, R166, R167, R168: the halt part of an applied BEAT, adopted or merged as R15 chooses or ignored in ISOLATED and
CLASH, and the sender's removal from the settle set, which ends SETTLING when it leaves the set empty. A state code other
than 0 and 2 is HALTED. -/
def Obligations.BeatHaltPartTaken : Prop :=
  ∀ (s : State) (a : Addr) (seq : Seq) (b : BeatBody), s.HearsBeat a seq b → s.RunsSound → s.OneHead →
    ∃ t, exec (.beatFrame a seq b) s = .next t ∧
      s.HaltPartTaken t a b

/-- R3, R4, R5, R10, R11, R201, R20, R34: which bytes of a CLAIM and of a gauge are read as which values (a phase is read by its
code, which ResponseLayouts lists). An applied CLAIM writes or removes its sender's entry for one channel, only a GONE with cause
COMPLETE moves a pointer, and content out of range changes no entry and no pointer; the entry written stands unlatched unless
the recomputation that follows latches it (R30), and runs and valves change by its notices alone. An applied FLAG sets and then clears; an applied GAUGE sets its sender's
gauge, and a wrong presence nibble or a non-decimal digit leaves it. -/
def Obligations.ClaimFlagGaugeFramesApplied : Prop :=
  ∀ (s : State) (a : Addr) (seq : Seq) (channel level demand phase cause : Byte) (set clear : BitVec 16) (g : GaugeField),
    (∀ c, toChan channel = some c ↔ channel.toNat = c.val) ∧ (∀ l, toLevel level = some l ↔ level.toNat = l.val) ∧
    (∀ d, toDemand demand = some d ↔ demand.toNat = d ∧ 1 ≤ d ∧ d ≤ 63) ∧
    (∀ p, toPhase phase.toNat = some p ↔ phase.toNat = p.code) ∧
    (∀ k, toCause cause.toNat = some k ↔ cause.toNat = k.code) ∧
    [GoneCause.complete, .ended, .withdrawn].map GoneCause.code = [1, 2, 3] ∧
    (readGauge g = some none ↔ g.presence = 0) ∧
    (∀ v, readGauge g = some (some v) ↔ g.presence = 1 ∧ (g.digits.extractLsb' 8 4).toNat = v.hundreds.val ∧
      (g.digits.extractLsb' 4 4).toNat = v.tens.val ∧ (g.digits.extractLsb' 0 4).toNat = v.units.val) ∧
    (s.Hears a seq →
      (∃ t, exec (.claimFrame a seq channel level demand phase cause) s = .next t ∧
        s.ClaimApplied t a channel level demand phase cause) ∧
      (∃ t, exec (.flagFrame a seq set clear) s = .next t ∧ s.FlagApplied t set clear) ∧
      (∃ t, exec (.gaugeFrame a seq g) s = .next t ∧ s.GaugeApplied t a g))

/-- R136, R137, R149, R150, R161, R165, R169, R20: which byte names an address, and the sets of addresses. An applied DROP
removes a member other than the station with its entries, builds an orphan record from a load above 0, and tells the halt unit;
it makes the station itself ISOLATED, with FLOWING heads closing for ISOLATE and ack pending cleared, or LISTENING where its
valves are at rest, and in LISTENING, ISOLATED and CLASH, where the station is no member of its own roster, changes nothing; it
changes the roster for no other target. That a self-drop makes no settle test where the own address is neither in the roster nor
in the settle set, as in no SYNCED, RESYNC or LEAVING station that a run reaches, is the model's choice (log 35). -/
def Obligations.DropFrameApplied : Prop :=
  ∀ (s : State) (a : Addr) (seq : Seq) (target : Byte),
    (∀ d, toAddr target = some d ↔ target.toNat = d.val) ∧
    (∀ (m : BitVec 16) (b d : Addr), inSet m b = m.getLsbD b.val ∧
      inSet (removeAddr m d) b = (inSet m b && decide (b ≠ d)) ∧
      inSet (insertAddr m d) b = (inSet m b || decide (b = d))) ∧
    (∀ b : Addr, inSet s.rosterSet b = s.isMember b) ∧
    (s.Hears a seq → ∃ t, exec (.dropFrame a seq target) s = .next t ∧ s.DropApplied t target)

/-- R139, R148, R161, R165, R137, R20: an applied PURGE removes its target's orphan record, or a member other than the station, with
its entries, without leaving one; at the own address it acts as a DROP does; an applied LEAVE removes its sender, with its
entries, and leaves no orphan record. The halt unit is told of each member removed. That a self-drop makes no settle test where
the own address is neither in the roster nor in the settle set, as in no SYNCED, RESYNC or LEAVING station that a run reaches, is
the model's choice (log 35). -/
def Obligations.PurgeAndLeaveFramesApplied : Prop :=
  ∀ (s : State) (a : Addr) (seq : Seq) (target : Byte), s.Hears a seq →
    (∃ t, exec (.purgeFrame a seq target) s = .next t ∧
      s.PurgeApplied t target) ∧
    (∃ t, exec (.leaveFrame a seq) s = .next t ∧ t.member a = none ∧ (∀ c : Chan, slot t.ct.table a c = none) ∧
      t.hasEvent .rosterChanged = true ∧ t.mu.orphans = s.mu.orphans ∧ s.ToldHalt t a ∧
      s.Reallocated t (clearRow s.ct.table a) ∧
      ∀ b : Addr, b ≠ a → t.isMember b = s.isMember b ∧ ∀ c : Chan, t.says b c = s.says b c)

/-- R156, R157, R158, R159: an applied HALT enters HALTED and opens a round over the present roster, in LISTENING without a
round; every FLOWING head closes for HALT, and in SYNCED, RESYNC and LEAVING HALT_ACK is owed or queued. In HALTED it only adds
its reasons. -/
def Obligations.HaltFrameApplied : Prop :=
  ∀ (s : State) (a : Addr) (seq : Seq) (reasons : Byte), s.Hears a seq →
    ∃ t, exec (.haltFrame a seq reasons) s = .next t ∧ s.HaltApplied t reasons

/-- R160, R162, R164: an applied HALT_ACK of a member of an open round that has not answered is entered with its mask and
may end the round; an applied RELEASE in HALTED turns to SETTLING, abandons the round, clears ack pending, forms the settle
set, and queues HALT PRESSURE where PLOSS# is asserted. -/
def Obligations.AckAndReleaseFramesApplied : Prop :=
  ∀ (s : State) (a : Addr) (seq : Seq) (mask : Byte), s.Hears a seq →
    (∃ t, exec (.haltAckFrame a seq mask) s = .next t ∧ s.AckApplied t a mask) ∧
    (∃ t, exec (.releaseFrame a seq) s = .next t ∧ s.ReleaseApplied t)

/-! ### Timers -/

/-- R131, R135, R141, R162: the beat timer, a member's silence timer, the listen window and the round timer expire; the round
timer ends an open round UNCONFIRMED, and the members that have not answered join the missing set. A row whose timer is
stopped or has time left changes nothing (the model's choice, logs 1 and 5). -/
def Obligations.BusAndRoundTimersExpire : Prop :=
  ∀ (s : State) (a : Addr) (m : Member), s.inReset = false →
    (s.bus.beatTimer = some 0 →
      (s.mu.station.active = true →
        exec .beatTimerExpiry s = .next { s with bus :=
          { s.bus with beatTimer := none, outbound := insertOut .beat s.bus.outbound } }) ∧
      (s.mu.station.active = false →
        exec .beatTimerExpiry s = .next { s with bus := { s.bus with beatTimer := none } })) ∧
    (s.bus.beatTimer ≠ some 0 → exec .beatTimerExpiry s = .next s) ∧
    (s.member a = some m → m.silence = some 0 →
      ∃ t, exec (.silenceExpiry a) s = .next t ∧ t.member a = some { m with silence := none, silent := true } ∧
        t.bus.outbound = (if s.mu.station.active = true ∧ a ≠ s.own then insertOut (.drop a) s.bus.outbound
          else s.bus.outbound) ∧ t.ct = s.ct ∧ t.rm = s.rm ∧ t.hu = s.hu ∧ t.chans = s.chans ∧
        ∀ b : Addr, b ≠ a → t.member b = s.member b) ∧
    ((∀ m ∈ s.member a, m.silence ≠ some 0) → exec (.silenceExpiry a) s = .next s) ∧
    (s.mu.listenWindow = some 0 → s.mu.station = .listening →
      exec .listenWindowExpiry s = .next { s with
        mu := { s.mu with listenWindow := none }
        bus := { s.bus with outbound := insertOut .beat s.bus.outbound } }) ∧
    (s.mu.listenWindow ≠ some 0 → exec .listenWindowExpiry s = .next s) ∧
    (s.hu.roundTimer = some 0 → s.hu.round = .opened →
      ∃ t, exec .roundTimerExpiry s = .next t ∧ t.hasEvent .haltUnconfirmed = true ∧
        t.hu = { s.hu with
          round := .unconfirmed
          missing := s.hu.missing ||| (s.hu.ackSet &&& ~~~s.hu.ackedSet)
          roundTimer := none } ∧
        t.ct = s.ct ∧ t.mu = s.mu ∧ t.bus = s.bus ∧ t.rm = s.rm ∧ t.chans = s.chans ∧ t.log = s.log) ∧
    (s.hu.roundTimer ≠ some 0 → exec .roundTimerExpiry s = .next s)

/-- R71, R109, R199: the open timer expires with the valve OPENING; the open seconds of the run that is served rise by
one below its limit when the accumulator has passed 999; the station seconds rise by one at 1000 ms. A row that is not due
changes nothing (the model's choice, logs 1 and 5). -/
def Obligations.OpenTimerAndSeconds : Prop :=
  ∀ (s : State) (c : Chan) (set : ChannelSettings) (r : Run), s.inReset = false →
    ((s.chan c).settings = some set → (s.chan c).openTimer = some 0 → (s.chan c).valve = .opening →
      exec (.openTimerExpiry c) s = .next (s.setChan c { s.chan c with
        valve := .opened, openTimer := none, noFlowTimer := some (1000 * set.noFlowTime) })) ∧
    ((s.chan c).openTimer ≠ some 0 → exec (.openTimerExpiry c) s = .next s) ∧
    ((s.chan c).valve.driven = true → 1000 ≤ (s.chan c).accumulator → s.head c = some r →
      (∀ m ∈ r.timeLimit, min 65535 (r.openSeconds + 1) < m * 60) →
      exec (.openSecondsTick c) s = .next ((s.setChan c { s.chan c with accumulator := 0 }).modRun r.handle fun q =>
        { q with openSeconds := min 65535 (q.openSeconds + 1) })) ∧
    ((s.chan c).valve.driven = false ∨ (s.chan c).accumulator < 1000 → exec (.openSecondsTick c) s = .next s) ∧
    (1000 ≤ s.clock.millis →
      exec .stationSecondsTick s = .next { s with clock := ⟨s.clock.seconds + 1, 0⟩ }) ∧
    (s.clock.millis < 1000 → exec .stationSecondsTick s = .next s)

/-- R110, R59, R79, R99: at the rise that reaches the time limit the run becomes CLOSING for its end TIME_LIMIT and its valve
closes; at the expiry of the no-flow timer with the valve OPEN, DRY joins the fault state, the head ends NO_FLOW and its
valve closes. With time left on the no-flow timer, as after a pulse taken first, or with the timer stopped, its row changes
nothing (the model's choice, logs 1 and 5). -/
def Obligations.TimeLimitAndNoFlowClose : Prop :=
  ∀ (s : State) (c : Chan) (r : Run) (m : Nat), s.inReset = false → s.Stays → s.RunsSound → s.OneHead →
    (s.chan c).confirmed = false → s.head c = some r → r.state = .flowing →
    ((s.chan c).valve.driven = true → 1000 ≤ (s.chan c).accumulator → r.timeLimit = some m →
      m * 60 ≤ r.openSeconds + 1 → r.openSeconds < 65535 →
      ∃ t, exec (.openSecondsTick c) s = .next t ∧ (t.chan c).valve = .closing ∧
        (t.chan c).closeTimer = some (s.chan c).closeLoad ∧ (t.chan c).accumulator = 0 ∧ t.log = s.log ∧
        { r with openSeconds := r.openSeconds + 1, state := .closing .ending, endResult := some .timeLimit } ∈
          t.rm.pool) ∧
    ((s.chan c).noFlowTimer = some 0 → (s.chan c).valve = .opened →
      ∃ t, exec (.noFlowTimerExpiry c) s = .next t ∧ (t.chan c).faults = { (s.chan c).faults with dry := true } ∧
        ((s.chan c).inFault = false → t.events.faultCh.getLsbD c.val = true) ∧ (t.chan c).valve = .closing ∧
        (t.chan c).closeTimer = some (s.chan c).closeLoad ∧ (t.chan c).noFlowTimer = none ∧ t.log = s.log ∧
        { r with state := .closing .ending, endResult := some .noFlow } ∈ t.rm.pool) ∧
    ((s.chan c).noFlowTimer ≠ some 0 → exec (.noFlowTimerExpiry c) s = .next s)

/-- R72, R73, R52, R53, R61, R74: the load of the close timer; it expires: without an end switch the valve is CLOSED; with one that is not asserted
it is STUCK, with the level and demand of the closing head as its stuck values, or level 3 and demand 63 under no run, and the
fault kind STUCK; a head that was ENDING departs, with its close not confirmed exactly when the valve is STUCK, one CLOSING for
another purpose is QUEUED again, and head selection follows; a close under no run tells no run. A row with time left changes nothing (the model's choice, logs 1 and 5). -/
def Obligations.CloseTimerCompletesOrDeclaresStuck : Prop :=
  ∀ (s : State) (c : Chan) (set : ChannelSettings), s.inReset = false → s.Stays →
    (s.chan c).settings = some set → (s.chan c).valve = .closing →
    ((s.chan c).closeLoad = if set.endSwitch then 2000 * set.closeTime else 1000 * set.closeTime) ∧
    ((s.chan c).closeTimer ≠ some 0 → exec (.closeTimerExpiry c) s = .next s) ∧
    ((s.chan c).closeTimer = some 0 →
      ∃ t, exec (.closeTimerExpiry c) s = .next t ∧ (t.chan c).closeTimer = none ∧
        (t.chan c).unattributed = (s.chan c).unattributed ∧ (t.chan c).totalizer = (s.chan c).totalizer ∧
        ((set.endSwitch = false ∨ (s.chan c).vsw = some true) →
          (t.chan c).valve = .closed ∧ (t.chan c).faults = (s.chan c).faults) ∧
        (set.endSwitch = true → (s.chan c).vsw ≠ some true →
          (t.chan c).valve = .stuck ∧ (t.chan c).faults = { (s.chan c).faults with stuck := true } ∧
          ((s.chan c).inFault = false → t.events.faultCh.getLsbD c.val = true)) ∧
        (set.endSwitch = true → (s.chan c).vsw ≠ some true →
          ((∀ r ∈ s.head c, r.state.isClosing = false) → (t.chan c).stuckValues = some (3, 63)) ∧
          ∀ r p, s.head c = some r → r.state = .closing p → (t.chan c).stuckValues = some (r.level, r.demand)) ∧
        s.CloseEnded t c (set.endSwitch && (s.chan c).vsw != some true))

/-! ### Field pins and the steps of the part itself -/

/-- R87, R73, R154, R202: the levels at the field pins: a movement is recorded and starts the hold anew, and changes nothing
else, so a pulse or level that is due stays due; while RST# is low it is recorded alone (log 33). Where the level of the row is
due, the row is its taking, otherwise the movement (log 21); at a pin that stands at its level already, and for a taking that
is not due, nothing changes (log 1). -/
def Obligations.PinsMoveAndHold : Prop :=
  ∀ (s : State) (c : Chan) (level : Bool),
    (∃ t, exec (.meterPulse (if level then .rises c else .falls c)) s = .next t ∧ t.mtrPin c = level ∧
      (∀ d : Chan, d ≠ c → t.mtrPin d = s.mtrPin d ∧ t.chan d = s.chan d) ∧ t.pins.vsw = s.pins.vsw ∧
      t.pins.ploss = s.pins.ploss ∧ t = { s with pins := t.pins, chans := t.chans } ∧
      t.chan c = { s.chan c with
        mtrHeld := if s.inReset = false ∧ s.mtrPin c ≠ level then 0 else (s.chan c).mtrHeld }) ∧
    (s.switchDue c level = false → s.vswPin c ≠ level →
      ∃ t, exec (if level then .endSwitchAssertion c else .endSwitchDeassertion c) s = .next t ∧ t.vswPin c = level ∧
        (∀ d : Chan, d ≠ c → t.vswPin d = s.vswPin d ∧ t.chan d = s.chan d) ∧ t.pins.mtr = s.pins.mtr ∧
        t.pins.ploss = s.pins.ploss ∧ t = { s with pins := t.pins, chans := t.chans } ∧
        t.chan c = { s.chan c with vswHeld := if s.inReset then (s.chan c).vswHeld else 0 }) ∧
    (s.switchDue c level = false → s.vswPin c = level →
      exec (if level then .endSwitchAssertion c else .endSwitchDeassertion c) s = .next s) ∧
    (s.plossReady level = false ∨ s.hu.plossTaken = false ∨ s.hu.ploss = level →
      (s.pins.ploss ≠ level →
        exec (if level then .plossFallingEdge else .plossRisingEdge) s = .next { s with
          pins := { s.pins with ploss := level }
          hu := { s.hu with plossHeld := if s.inReset then s.hu.plossHeld else 0 } }) ∧
      (s.pins.ploss = level → exec (if level then .plossFallingEdge else .plossRisingEdge) s = .next s)) ∧
    (s.pulseDue c = false → exec (.meterPulse (.taken c)) s = .next s) ∧
    (s.plossReady level = false ∨ s.hu.plossTaken = true →
      exec (.plossLevelAtResetRelease level) s = .next s)

/-- R76, R87, R88, R91, R92, R93, R60, R95, R96, R97, R78, R77: a pulse that is due (when it becomes due, EmptyQueueIsOneMillisecond
says) is credited to the attributed run, the head of an opening, open or closing valve, or, with none, to the unattributed volume, and always to the totalizer, and is then due
no more. A pulse that brings the run to its target ends it COMPLETE: an open valve closes, a closing head ends at its close,
and a run with an end result keeps it. A pulse that detects LEAK sets FAULT_CHn and, where leak halts the site, queues HALT
LEAK in SYNCED, RESYNC and LEAVING. -/
def Obligations.MeterPulseCredits : Prop :=
  ∀ (s : State) (c : Chan) (set : ChannelSettings), s.inReset = false → s.Stays → s.RunsSound → s.OneHead →
    (s.chan c).settings = some set →
    (s.pulseDue c = (s.chan c).mtrDue) ∧
    ((s.chan c).valve = .opening ∨ (s.chan c).valve = .opened → s.attributed c = s.head c) ∧
    (∀ r, (s.chan c).valve = .closing →
      (s.attributed c = some r ↔ s.head c = some r ∧ ∃ p, r.state = .closing p)) ∧
    ((s.chan c).valve = .closed ∨ (s.chan c).valve = .stuck → s.attributed c = none) ∧
    (s.pulseDue c = true →
      ∃ t, exec (.meterPulse (.taken c)) s = .next t ∧ (t.chan c).mtrDue = false ∧
        (t.chan c).mtrLow = (s.chan c).mtrLow ∧
        (t.chan c).totalizer = (addDecimal (s.chan c).totalizer set.quantum).1 ∧
        (t.chan c).wrapped = ((s.chan c).wrapped || (addDecimal (s.chan c).totalizer set.quantum).2) ∧
        (∀ r, s.attributed c = some r → (t.chan c).unattributed = (s.chan c).unattributed ∧
          (t.chan c).faults = (s.chan c).faults ∧
          (reaches (addSaturating r.delivered set.quantum) r.target = false →
            t.log = s.log ∧ { r with
              delivered := addSaturating r.delivered set.quantum
              saturated := r.saturated || (addDecimal r.delivered set.quantum).2 } ∈ t.rm.pool ∧
            ((s.chan c).valve = .opened → (t.chan c).noFlowTimer = some (1000 * set.noFlowTime))) ∧
          (reaches (addSaturating r.delivered set.quantum) r.target = true →
            (∀ e, r.endResult = some e → t.log = s.log ∧ { r with
              delivered := addSaturating r.delivered set.quantum
              saturated := r.saturated || (addDecimal r.delivered set.quantum).2 } ∈ t.rm.pool) ∧
            (∀ p, r.endResult = none → r.state = .closing p → t.log = s.log ∧ (t.chan c).valve = (s.chan c).valve ∧
              { r with
                delivered := addSaturating r.delivered set.quantum
                saturated := r.saturated || (addDecimal r.delivered set.quantum).2
                state := .closing .ending
                endResult := some .complete } ∈ t.rm.pool) ∧
            (r.endResult = none → r.state = .flowing → (s.chan c).valve.driven = true →
              (s.chan c).confirmed = false →
              t.log = s.log ∧ (t.chan c).valve = .closing ∧ (t.chan c).closeTimer = some (s.chan c).closeLoad ∧
              { r with
                delivered := addSaturating r.delivered set.quantum
                saturated := r.saturated || (addDecimal r.delivered set.quantum).2
                state := .closing .ending
                endResult := some .complete } ∈ t.rm.pool) ∧
            (r.endResult = none → r.state = .flowing → (s.chan c).valve.driven = true →
              (s.chan c).confirmed = true →
              (t.chan c).valve = .closed ∧ t.log.records = s.log.records ++ [completionRecord { r with
                delivered := addSaturating r.delivered set.quantum
                saturated := r.saturated || (addDecimal r.delivered set.quantum).2
                endResult := some .complete } false s.clock.seconds]))) ∧
        (s.attributed c = none → t.rm = s.rm ∧ t.log = s.log ∧
          (t.chan c).unattributed = addSaturating (s.chan c).unattributed set.quantum ∧
          ((t.chan c).faults.leak = true ↔ (s.chan c).faults.leak = true ∨
            ((s.chan c).valve = .closed ∧ reaches (t.chan c).unattributed set.leakLimit = true)) ∧
          ((s.chan c).faults.leak = true ∨ (t.chan c).faults.leak = false → t.events = s.events) ∧
          ((s.chan c).faults.leak = false → (t.chan c).faults.leak = true →
            ((s.chan c).inFault = false → t.events.faultCh.getLsbD c.val = true) ∧
            (s.site.leakHalts = true → s.mu.station.active = true → t.HaltPending 2))) ∧
        (∀ d : Chan, d ≠ c → (t.chan d).totalizer = (s.chan d).totalizer ∧
          (t.chan d).unattributed = (s.chan d).unattributed))

/-- R73, R75, R52, R61: a level of VSWn# that is due on a present channel is taken. An assertion completes a close, after which a
head that was ENDING departs and one CLOSING for another purpose is QUEUED again with head selection; it releases a STUCK valve
with the fault kinds kept, and has no effect on the valve otherwise; a deassertion changes only the level held. That the level is taken on a present channel without an end switch too
is the model's reading (log 27). -/
def Obligations.EndSwitchTaken : Prop :=
  ∀ (s : State) (c : Chan) (set : ChannelSettings) (b : Bool), s.inReset = false → s.Stays →
    (s.chan c).settings = some set →
    (s.switchDue c b = true ↔ (s.chan c).vswDue = some b) ∧
    (s.switchDue c false = true →
      exec (.endSwitchDeassertion c) s = .next (s.setChan c { s.chan c with vsw := some false, vswDue := none })) ∧
    ((s.chan c).confirmed = true ↔ set.endSwitch = true ∧ (s.chan c).vsw = some true) ∧
    (s.switchDue c true = true →
      ∃ t, exec (.endSwitchAssertion c) s = .next t ∧ (t.chan c).vsw = some true ∧ (t.chan c).vswDue = none ∧
        (t.chan c).faults = (s.chan c).faults ∧
        (set.endSwitch = true → (s.chan c).valve = .stuck →
          (t.chan c).valve = .closed ∧ (t.chan c).stuckValues = none ∧ t.rm = s.rm ∧ t.log = s.log) ∧
        (set.endSwitch = true → (s.chan c).valve = .closing →
          (t.chan c).valve = .closed ∧ (t.chan c).closeTimer = none ∧ s.CloseEnded t c false) ∧
        ((set.endSwitch = false ∨ (s.chan c).valve = .closed ∨ (s.chan c).valve.driven = true) →
          (t.chan c).valve = (s.chan c).valve ∧ (t.chan c).closeTimer = (s.chan c).closeTimer ∧ t.rm = s.rm ∧
          t.log = s.log))

/-- R154: with PLE set, a level of PLOSS# that is due is taken: the first one after reset release as a level, which is no edge
whenever it comes (log 25), a later change as an edge, a falling one queueing HALT. With PLE clear the pin has no effect. -/
def Obligations.PressureLossTaken : Prop :=
  ∀ (s : State) (asserted : Bool), s.inReset = false →
    (s.plossReady asserted = true ↔ s.straps.ple = true ∧ s.hu.plossDue = some asserted) ∧
    (s.pressureLost = true ↔ s.straps.ple = true ∧ s.hu.ploss = true) ∧
    (s.plossReady true = true → s.hu.plossTaken = true → s.hu.ploss = false → s.mu.station.active = true →
      exec .plossFallingEdge s = .next { s with
        hu := { s.hu with ploss := true, plossDue := none }
        bus := { s.bus with outbound := insertOut (.halt reasonPressure) s.bus.outbound } }) ∧
    (s.plossReady true = true → s.hu.plossTaken = true → s.hu.ploss = false → s.mu.station.active = false →
      exec .plossFallingEdge s = .next { s with hu := { s.hu with ploss := true, plossDue := none } }) ∧
    (s.plossReady false = true → s.hu.plossTaken = true → s.hu.ploss = true →
      exec .plossRisingEdge s = .next { s with hu := { s.hu with ploss := false, plossDue := none } }) ∧
    (s.plossReady asserted = true → s.hu.plossTaken = false →
      exec (.plossLevelAtResetRelease asserted) s =
        .next { s with hu := { s.hu with ploss := asserted, plossTaken := true, plossDue := none } }) ∧
    (s.straps.ple = false → s.pins.ploss = asserted →
      exec (if asserted then .plossFallingEdge else .plossRisingEdge) s = .next s ∧
      exec (.plossLevelAtResetRelease asserted) s = .next s)

/-- R159, R147, R150: with ack pending and no valve of a present channel OPENING, OPEN or CLOSING, HALT_ACK is queued
with the mask of the STUCK channels; in LEAVING with every present valve CLOSED, LEAVE is queued; a station ISOLATED by
self-drop whose valves have come to rest enters LISTENING by itself, and with cause READBACK it stays. -/
def Obligations.StepsOfThePartItself : Prop :=
  ∀ (s : State), s.inReset = false →
    (s.hu.ackPending = true → s.mu.station.active = true →
      (∀ c : Chan, (s.chan c).present = true → (s.chan c).valve = .closed ∨ (s.chan c).valve = .stuck) →
      exec .haltAckQueued s = .next { s with
        hu := { s.hu with ackPending := false }
        bus := { s.bus with outbound := insertOut (.haltAck s.stuckMask) s.bus.outbound } } ∧
      ∀ c : Chan, s.stuckMask.getLsbD c.val = decide ((s.chan c).valve = .stuck)) ∧
    (s.mu.station = .leaving → s.bus.tx = none → (∀ c : Chan, (s.chan c).present = true → (s.chan c).valve = .closed) →
      exec .leaveQueued s = .next { s with bus := { s.bus with outbound := insertOut .leave s.bus.outbound } }) ∧
    (s.mu.station = .isolated → s.mu.cause = .selfDrop →
      (∀ c : Chan, (s.chan c).present = true → (s.chan c).valve = .closed ∨ (s.chan c).valve = .stuck) →
      ∃ t, exec .selfDropRelisten s = .next t ∧ t.mu.station = .listening ∧ t.mu.cause = .none ∧
        t.mu.listenWindow = some 4000 ∧ t.bus.seq = 0 ∧ t.bus.failures = 0 ∧ t.bus.outbound = [] ∧
        (∀ a : Addr, t.member a = none) ∧ t.mu.orphans = [] ∧ t.ct.adoptionPending = true ∧
        t.alloc = ⟨0, 0, 0, true, false⟩ ∧ t.ct.flags = s.ct.flags ∧ t.ct.pointers = s.ct.pointers) ∧
    (s.mu.station = .isolated → s.mu.cause = .readback → exec .selfDropRelisten s = .next s)

/-! ### Notices, claims, formats, arithmetic, allocation -/

/-- R35, R71, R36, R49, R73, R83: a grant notice to a channel that may open makes its head FLOWING and its valve OPENING, and
announces FLOWING; to any other it opens nothing and queues a CLAIM with the current derivation, a GONE with the cause and
level of a GONE CLAIM still pending or else WITHDRAWN with the level of the announced record. A revocation notice to a
FLOWING head closes its valve for REVOKED and queues YIELDING; an end switch already asserted completes the close at once,
and the next head is announced. In the silent station states no CLAIM is queued. R20, R34: a recomputation is the table and the
result of the allocator, then the notices: a grant to each channel whose own entry it latched, a revocation to each channel whose
head is FLOWING and whose own entry is absent or not placed; so an own entry that is latched opens its valve, and a head that is
revoked closes. That the notices are given in ascending order of the channels makes no difference (log 12). -/
def Obligations.NoticesOpenAndClose : Prop :=
  ∀ (s u : State) (c : Chan),
    (c ∈ s.allocate.granted ↔ (∃ o ∈ slot s.ct.table s.own c, o.latched = false) ∧
      ∃ e ∈ slot s.allocate.table s.own c, e.latched = true) ∧
    (s.revoked c = true ↔ ∃ r ∈ s.head c, r.state = .flowing ∧ ∀ e ∈ slot s.ct.table s.own c, e.placed = false) ∧
    (u = { s with ct := { s.ct with table := s.allocate.table }, alloc := s.allocate.result } →
      s.recompute = allChans.foldl (fun v d =>
        if d ∈ s.allocate.granted then v.grantNotice d
        else if u.revoked d = true then v.revocationNotice d else v) u ∧
      s.recompute.ct = u.ct ∧ s.recompute.alloc = u.alloc ∧
      (s.RunsSound → s.OneHead →
        (∀ r, s.head c = some r → c ∈ s.allocate.granted → u.canOpen c = true →
          { r with state := .flowing } ∈ s.recompute.rm.pool ∧ (s.recompute.chan c).valve = .opening) ∧
        (∀ r, s.head c = some r → u.revoked c = true → (s.chan c).valve.driven = true →
          (s.chan c).confirmed = false →
          { r with state := .closing .revoked } ∈ s.recompute.rm.pool ∧ (s.recompute.chan c).valve = .closing ∧
            (s.recompute.chan c).closeTimer = some (s.chan c).closeLoad))) ∧
    (∀ r, s.head c = some r →
      (s.canOpen c = true ↔ s.mu.station = .synced ∧ (s.chan c).present = true ∧ (s.chan c).inFault = false ∧
        (s.chan c).valve = .closed ∧ r.state = .asking ∧
        ∃ e ∈ slot s.ct.table s.own c, e.level = r.level ∧ e.demand = r.demand)) ∧
    (s.head c = none → s.canOpen c = false) ∧
    (∀ r v, s.RunsSound → s.head c = some r → s.canOpen c = true → (s.chan c).settings = some v →
      { r with state := .flowing } ∈ (s.grantNotice c).rm.pool ∧ ((s.grantNotice c).chan c).valve = .opening ∧
        ((s.grantNotice c).chan c).openTimer = some (1000 * v.openTime) ∧
        ((s.grantNotice c).chan c).unattributed = Decimal.zero 7 ∧ ((s.grantNotice c).chan c).accumulator = 0 ∧
        ((s.grantNotice c).chan c).announced = .live ⟨.flowing, r.level, r.demand⟩ ∧
        ((s.chan c).announced ≠ .live ⟨.flowing, r.level, r.demand⟩ →
          pendingClaim (s.grantNotice c).bus.outbound c = some (.live .flowing r.level r.demand))) ∧
    (s.canOpen c = false → (s.grantNotice c).rm = s.rm ∧
      (∀ d : Chan, ((s.grantNotice c).chan d).valve = (s.chan d).valve) ∧
      (s.mu.station.silent = true → s.grantNotice c = s) ∧
      (s.mu.station.silent = false →
        (∀ k, s.derive c = some k →
          pendingClaim (s.grantNotice c).bus.outbound c = some (.live k.phase k.level k.demand)) ∧
        (∀ l cause, s.derive c = none → pendingClaim s.bus.outbound c = some (.gone l cause) →
          pendingClaim (s.grantNotice c).bus.outbound c = some (.gone l cause)) ∧
        (∀ l, s.derive c = none → (∀ m cause, pendingClaim s.bus.outbound c ≠ some (.gone m cause)) →
          ((s.chan c).announced = .gone (some l) ∨ ∃ p d, (s.chan c).announced = .live ⟨p, l, d⟩) →
          pendingClaim (s.grantNotice c).bus.outbound c = some (.gone l .withdrawn)))) ∧
    (∀ r, s.RunsSound → s.OneHead → s.head c = some r → r.state = .flowing → (s.chan c).present = true →
      (s.chan c).valve.driven = true →
      ((s.chan c).confirmed = false →
        { r with state := .closing .revoked } ∈ (s.revocationNotice c).rm.pool ∧
          ((s.revocationNotice c).chan c).valve = .closing ∧
          ((s.revocationNotice c).chan c).closeTimer = some (s.chan c).closeLoad ∧
          (s.mu.station.silent = false →
            pendingClaim (s.revocationNotice c).bus.outbound c = some (.live .yielding r.level r.demand)) ∧
          (s.mu.station.silent = true → (s.revocationNotice c).bus = s.bus)) ∧
      ((s.chan c).confirmed = true → (s.chan c).inFault = false → s.mu.station = .synced →
        ((s.revocationNotice c).chan c).valve = .closed ∧
          ∃ q, (s.revocationNotice c).head c = some q ∧ q.state = .asking ∧
            pendingClaim (s.revocationNotice c).bus.outbound c = some (.live .asking q.level q.demand)))

/-- R81, R82, R83, R62: the derived phase of a channel by the table's lines; the comparison that queues a CLAIM where the
derivation differs from the announced record, a GONE with WITHDRAWN and the level of the record, and nothing in the silent
station states; after the end of an event the record holds the derivation; and the CLAIM queued at the departure of a head. -/
def Obligations.DerivedPhaseAndClaims : Prop :=
  ∀ (s : State) (c : Chan),
    ((s.chan c).present = false → s.derive c = none) ∧
    ((s.chan c).present = true →
      (∀ v, (s.chan c).valve = .stuck → (s.chan c).stuckValues = some v → s.derive c = some ⟨.stuck, v.1, v.2⟩) ∧
      (∀ r, (s.chan c).valve.driven = true → s.head c = some r → s.derive c = some ⟨.flowing, r.level, r.demand⟩) ∧
      (∀ r, (s.chan c).valve = .closing → s.head c = some r → r.state.isClosing = true →
        s.derive c = some ⟨.yielding, r.level, r.demand⟩) ∧
      ((s.chan c).valve = .closing → (∀ r, s.head c = some r → r.state.isClosing = false) →
        s.derive c = some ⟨.yielding, 3, 63⟩) ∧
      ((s.chan c).valve = .closed → (s.chan c).inFault = true → s.derive c = none) ∧
      (∀ r, (s.chan c).valve = .closed → (s.chan c).inFault = false → s.head c = some r →
        s.derive c = some ⟨if s.mu.station = .resync then .paused else .asking, r.level, r.demand⟩) ∧
      ((s.chan c).valve = .closed → s.head c = none → s.derive c = none)) ∧
    (s.mu.station.silent = true → s.announce c = s ∧ ∀ r, r.channel = c → s.queueDeparture r = s) ∧
    (s.mu.station.silent = false →
      (∀ k, s.derive c = some k → (s.chan c).announced = .live k → s.announce c = s) ∧
      (∀ l, s.derive c = none → (s.chan c).announced = .gone l → s.announce c = s) ∧
      (∀ k, s.derive c = some k → (s.chan c).announced ≠ .live k →
        s.announce c = (s.queued (.claim c (.live k.phase k.level k.demand))).setChan c
          { s.chan c with announced := .live k }) ∧
      (∀ k, s.derive c = none → (s.chan c).announced = .live k →
        s.announce c = (s.queued (.claim c (.gone k.level .withdrawn))).setChan c
          { s.chan c with announced := .gone (some k.level) }) ∧
      (∀ k, s.conclude.derive c = some k → (s.conclude.chan c).announced = .live k) ∧
      (s.conclude.derive c = none → ∃ l, (s.conclude.chan c).announced = .gone l) ∧
      (∀ r, r.channel = c →
        ((s.chan c).valve = .closed → (s.chan c).inFault = false → s.head c = none →
          pendingClaim (s.queueDeparture r).bus.outbound c =
            some (.gone r.level (if r.endResult = some .complete then .complete else .ended))) ∧
        (∀ h, (s.chan c).valve = .closed → (s.chan c).inFault = false → s.head c = some h →
          pendingClaim (s.queueDeparture r).bus.outbound c = some (.live .asking h.level h.demand)) ∧
        ((s.chan c).valve = .closed → (s.chan c).inFault = true → s.head c = none →
          pendingClaim (s.queueDeparture r).bus.outbound c = some (.gone r.level .ended)) ∧
        (∀ h, (s.chan c).valve = .closed → (s.chan c).inFault = true → s.head c = some h →
          pendingClaim (s.queueDeparture r).bus.outbound c = some (.gone r.level .withdrawn)) ∧
        ((s.chan c).valve = .closing →
          pendingClaim (s.queueDeparture r).bus.outbound c = some (.live .yielding 3 63)) ∧
        (∀ v, (s.chan c).valve = .stuck → (s.chan c).stuckValues = some v →
          pendingClaim (s.queueDeparture r).bus.outbound c = some (.live .stuck v.1 v.2))))

/-- R90, R92, R93, R95, R78: with no overflow a field holds the exact decimal sum; the overflow is the carry out of the highest
digit, and at it a delivered or unattributed volume stays at its ceiling, all nines. A volume reaches a limit when its tenths, the
guard digit ignored, are no fewer than the limit's. -/
def Obligations.DecimalSumIsExact : Prop :=
  ∀ (n m : Nat) (field : Decimal n) (quantum : Decimal m), m ≤ n →
    digitsValue (addDecimal field quantum).1.digits + (if (addDecimal field quantum).2 then 10 ^ n else 0) =
      digitsValue field.digits + digitsValue quantum.digits ∧
    ((addDecimal field quantum).2 = false → addSaturating field quantum = (addDecimal field quantum).1) ∧
    ((addDecimal field quantum).2 = true → (addSaturating field quantum).digits = List.replicate n 9) ∧
    digitsValue (addSaturating field quantum).digits =
      min (10 ^ n - 1) (digitsValue field.digits + digitsValue quantum.digits) ∧
    (m < n → (reaches field quantum = true ↔ digitsValue quantum.digits ≤ digitsValue field.digits / 10))

/-- R114, R115, R122, 12.1: the envelope of a frame, the code of each kind and its payload, and the CRC, bit by bit, with the
order in which its bits are sent; what the receive checker takes the characters since idle detection for: no frame where the first
is not SYNC, a fragment where the frame is not complete, a frame that is sent so, and a receive error otherwise; and it reads a
frame back from the levels a station sends for it. -/
def Obligations.FramesReadBack : Prop :=
  ∀ (f : Frame) (chars : List Byte),
    frameChars f = [0xC5] ++ coveredChars f ++ crcBytes (crcOf (coveredChars f)) ∧
    coveredChars f = [byteOf (16 * kindOf f.body + f.sender.val), byteOf (16 * f.seq.val),
      byteOf (payloadBytes f.body).length] ++ payloadBytes f.body ∧
    (∀ b : BeatBody, kindOf (.beat b) = 1 ∧ payloadBytes (.beat b) =
      [b.weight, b.cap, b.capacity] ++ gaugeFieldBytes b.gauge ++ bytes16 b.flags ++
      [byteOf (16 * b.pointers[0].val + b.pointers[1].val), byteOf (16 * b.pointers[2].val + b.pointers[3].val),
        b.haltState, b.reasons, byteOf b.orphans.length] ++ b.orphans.flatMap (fun o => o.station :: bytes16 o.load) ++
      [byteOf b.entries.length] ++ b.entries.flatMap (fun i =>
        [i.channel, i.level, i.demand, byteOf (16 * i.latched.toNat + i.phase.toNat)]) ∧
      (bodyFits (.beat b) = true ↔ b.orphans.length ≤ 15 ∧ b.entries.length ≤ 8)) ∧
    (∀ c l d p k : Byte, kindOf (.claim c l d p k) = 2 ∧ payloadBytes (.claim c l d p k) = [c, l, d, p, k]) ∧
    (∀ set clear, kindOf (.flag set clear) = 3 ∧ payloadBytes (.flag set clear) = bytes16 set ++ bytes16 clear) ∧
    (∀ g : GaugeField, kindOf (.gauge g) = 4 ∧ payloadBytes (.gauge g) = gaugeFieldBytes g ∧
      gaugeFieldBytes g = [byteOf (16 * g.presence.toNat + g.digits.toNat / 256), byteOf g.digits.toNat]) ∧
    (∀ x : Byte, kindOf (.drop x) = 5 ∧ payloadBytes (.drop x) = [x] ∧ kindOf (.purge x) = 6 ∧
      payloadBytes (.purge x) = [x] ∧ kindOf (.halt x) = 8 ∧ payloadBytes (.halt x) = [x] ∧ kindOf (.haltAck x) = 9 ∧
      payloadBytes (.haltAck x) = [x]) ∧
    kindOf .leave = 7 ∧ payloadBytes .leave = [] ∧ kindOf .release = 10 ∧ payloadBytes .release = [] ∧
    (∀ body : FrameBody, body.isBeat = false → bodyFits body = true) ∧
    (∀ (reg : BitVec 16) (bit : Bool) (i : Fin 16), (crcStep reg bit).getLsbD i.val =
      ((decide (i ≠ 0) && reg.getLsbD (i.val - 1)) ^^
        (decide (i = 0 ∨ i = 2 ∨ i = 15) && (reg.getLsbD 15 ^^ bit)))) ∧
    crcOf chars = (chars.flatMap fun b => (List.range 8).map b.getLsbD).foldl crcStep 0 ∧
    (∀ (w : BitVec 16) (i : Fin 8), (crcBytes w).length = 2 ∧ ((crcBytes w).getD 0 0).getLsbD i.val = w.getLsbD (15 - i.val) ∧
      ((crcBytes w).getD 1 0).getLsbD i.val = w.getLsbD (7 - i.val)) ∧
    crcOf (chars ++ crcBytes (crcOf chars)) = 0 ∧
    (receiveChars chars = .notSync ↔ chars ≠ [] ∧ chars.getD 0 0 ≠ 0xC5) ∧
    (receiveChars chars = .fragment ↔ chars = [] ∨ chars.getD 0 0 = 0xC5 ∧
      (chars.length < 4 ∨ (chars.getD 3 0).toNat ≤ 96 ∧ chars.length < (chars.getD 3 0).toNat + 6)) ∧
    (receiveChars chars = .frame f ↔ bodyFits f.body = true ∧ frameChars f <+: chars) ∧
    (bodyFits f.body = true → takeChars true (frameLevels f) = frameChars f ∧ receiveChars (frameChars f) = .frame f)

/-- R128, R129: the outbound set: the keys, the states in which a frame is taken, the newest place for a new key, and the
combination in the place of a pending frame of the key: CLAIM, GAUGE, HALT_ACK and PURGE replaced, HALT joined with its
reasons, BEAT, DROP, LEAVE and RELEASE standing, FLAG merged so that it leaves every flag as the requests applied one after
another, and never names a flag in both masks. -/
def Obligations.OutboundSetCombines : Prop :=
  ∀ (s : State) (f g : OutFrame) (older newer : List OutFrame),
    (f.sameKey g = true ↔ f.key = g.key) ∧
    (s.mu.station.active = true ∨ s.mu.station = .listening ∧ f = .beat → s.enqueue f = s.queued f) ∧
    (s.mu.station.active = false → (s.mu.station ≠ .listening ∨ f ≠ .beat) → s.enqueue f = s) ∧
    ((∀ h ∈ older, h.sameKey f = false) →
      insertOut f older = older ++ [f] ∧
      (g.sameKey f = true → insertOut f (older ++ g :: newer) = older ++ g.combine f :: newer)) ∧
    (∀ c k l, (OutFrame.claim c k).combine (.claim c l) = .claim c l) ∧
    (∀ v w, (OutFrame.gauge v).combine (.gauge w) = .gauge w) ∧
    (∀ m n, (OutFrame.haltAck m).combine (.haltAck n) = .haltAck n) ∧
    (∀ a b, (OutFrame.purge a).combine (.purge b) = .purge b) ∧
    (∀ r q, (OutFrame.halt r).combine (.halt q) = .halt (r ||| q)) ∧
    OutFrame.beat.combine .beat = .beat ∧ (∀ a, (OutFrame.drop a).combine (.drop a) = .drop a) ∧
    OutFrame.leave.combine .leave = .leave ∧ OutFrame.release.combine .release = .release ∧
    (∀ flags ps pc ns nc : BitVec 16, ps &&& pc = 0 → ns &&& nc = 0 →
      ∃ set clear, OutFrame.combine (.flag ps pc) (.flag ns nc) = .flag set clear ∧ set &&& clear = 0 ∧
        (flags ||| set) &&& ~~~clear = (((flags ||| ps) &&& ~~~pc) ||| ns) &&& ~~~nc)

/-- R27, R23, R29, R30, R31: the placed demand is no greater than the effective capacity, no member's share of the target set
is greater than its cap, and the drain condition says that the transient load fits beside it. Of an entry a recomputation
changes only its marks: with an orphan record, or in HALTED or SETTLING, none is latched; otherwise exactly those are that
were before, and the placed ASKING ones where the drain condition holds. -/
def Obligations.TargetSetAndLatches : Prop :=
  ∀ (s : State),
    s.allocate.result.effective =
      s.ct.capacityView - sumTable (fun e => if e.phase = .stuck then e.demand else 0) s.ct.table -
        (s.mu.orphans.map Orphan.load).sum ∧
    s.allocate.result.placedDemand ≤ s.allocate.result.effective ∧
    s.allocate.result.effective ≤ s.ct.capacityView ∧
    (∀ (a : Addr) (m : Member), s.member a = some m →
      sumRow (fun e => if e.placed then e.demand else 0) s.allocate.table[a.val] ≤ m.cap) ∧
    s.allocate.result.transient =
      sumTable (fun e => if e.placed = false ∧ (e.phase = .flowing ∨ e.phase = .yielding ∨
        (e.phase = .asking ∧ e.latched = true)) then e.demand else 0) s.allocate.table ∧
    (s.allocate.result.drain = true ↔
      s.allocate.result.placedDemand + s.allocate.result.transient ≤ s.allocate.result.effective) ∧
    (∀ (a : Addr) (c : Chan),
      (slot s.allocate.table a c).map Entry.said = (slot s.ct.table a c).map Entry.said ∧
      ∀ o ∈ slot s.ct.table a c, ∀ e ∈ slot s.allocate.table a c,
        (e.latched = true ↔ s.hu.halt = .none ∧ s.mu.orphans = [] ∧
          (o.latched = true ∨ (e.placed = true ∧ e.phase = .asking ∧ s.allocate.result.drain = true))))

/-- R24, R25, R26, R27: the candidates are the ASKING and FLOWING entries of the members, each once, ordered by level, class,
round, distance of the owner from the level's rotation pointer, and channel; each is placed exactly when its demand fits the
effective capacity and its owner's cap beside those placed before it, and no other entry is placed. -/
def Obligations.TargetSetIsFirstFit : Prop :=
  ∀ (s : State), (∀ a : Addr, ∀ m ∈ s.member a, 1 ≤ m.weight) →
    (candidateOrder s.clearedTable s.mu.roster s.ct.pointers).Pairwise (fun j k =>
      placeOf s.clearedTable s.mu.roster s.ct.pointers j < placeOf s.clearedTable s.mu.roster s.ct.pointers k) ∧
    (∀ (a : Addr) (c : Chan), (a, c) ∈ candidateOrder s.clearedTable s.mu.roster s.ct.pointers ↔
      s.isMember a = true ∧ ∃ e ∈ slot s.ct.table a c, e.phase = .asking ∨ e.phase = .flowing) ∧
    (∀ (a : Addr) (c : Chan), (slot s.allocate.table a c).any Entry.placed = true →
      (a, c) ∈ candidateOrder s.clearedTable s.mu.roster s.ct.pointers) ∧
    ∀ (n : Nat) (k : Key) (e : Entry) (m : Member),
      (candidateOrder s.clearedTable s.mu.roster s.ct.pointers)[n]? = some k → slot s.ct.table k.1 k.2 = some e →
      s.member k.1 = some m →
      ((slot s.allocate.table k.1 k.2).any Entry.placed = true ↔
        e.demand + ((((candidateOrder s.clearedTable s.mu.roster s.ct.pointers).take n).filter fun j =>
          (slot s.allocate.table j.1 j.2).any Entry.placed).map (demandAt s.ct.table)).sum ≤
            s.allocate.result.effective ∧
        e.demand + ((((candidateOrder s.clearedTable s.mu.roster s.ct.pointers).take n).filter fun j =>
          j.1 == k.1 && (slot s.allocate.table j.1 j.2).any Entry.placed).map (demandAt s.ct.table)).sum ≤ m.cap)

/-! ### Laws that every step keeps -/

/-- R171, R173, R40: every step keeps the reservation count equal to the number of live runs, records and reservations
within 48, and the pool within 24. -/
def Obligations.StepKeepsLogSound : Prop :=
  ∀ (s t : State), s.LogSound → step s = .next t → t.LogSound

/-- 1.1, R5, R8, R30, R31: every step keeps the entries in range, the latched mark on ASKING entries only, and on none
with an orphan record or in HALTED or SETTLING. -/
def Obligations.StepKeepsTableSound : Prop :=
  ∀ (s t : State), s.TableSound → s.MarksSound → step s = .next t → t.TableSound ∧ t.MarksSound

/-- R133, R2: every step keeps the own record in the roster exactly in SYNCED, RESYNC and LEAVING, and no entry of an
owner that is no member. -/
def Obligations.StepKeepsMembershipSound : Prop :=
  ∀ (s t : State), s.MembershipSound → step s = .next t → t.MembershipSound

/-- R137: every step keeps the orphan list sound. -/
def Obligations.StepKeepsOrphansSound : Prop :=
  ∀ (s t : State), s.OrphansSound → s.ResetHeld → s.TableSound → s.MembershipSound → step s = .next t →
    t.OrphansSound

/-- R128: every step keeps at most one frame for each key in the outbound set. -/
def Obligations.StepKeepsOutboundKeyed : Prop :=
  ∀ (s t : State), s.OutboundKeyed → step s = .next t → t.OutboundKeyed

/-- R13, R14: every step keeps the site capacity view and the announced set formed from the announced capacities of the
members. -/
def Obligations.StepKeepsViewFormed : Prop :=
  ∀ (s t : State), s.ViewFormed → step s = .next t → t.ViewFormed

/-- R70: every step keeps the valve law: a valve is OPENING or OPEN only while its head is FLOWING, the station is SYNCED,
the halt state is NONE and the channel is not in FAULT; with the soundness of runs and heads it rests on. -/
def Obligations.StepKeepsValveLaw : Prop :=
  ∀ (s t : State), s.ValvesSound → step s = .next t → t.ValvesSound

/-- The machine right after reset keeps every law. -/
def Obligations.ResetIsSound : Prop :=
  State.reset.LogSound ∧ State.reset.TableSound ∧ State.reset.MarksSound ∧ State.reset.MembershipSound ∧
    State.reset.OrphansSound ∧ State.reset.OutboundKeyed ∧ State.reset.ValvesSound ∧ State.reset.ViewFormed
end

