-- ==== Sys2Proof/Laws/State.lean ====
section
/-!
SUPPORT. The laws of the named updates of the state: each replaces its own part and leaves every other part as it was.
-/

namespace Sys2Proof.Machine

section setInReset

variable (s : State) (v : Bool)

@[simp] theorem State.setInReset_pending : (s.setInReset v).pending = s.pending := rfl
@[simp] theorem State.setInReset_inReset : (s.setInReset v).inReset = v := rfl
@[simp] theorem State.setInReset_straps : (s.setInReset v).straps = s.straps := rfl
@[simp] theorem State.setInReset_pins : (s.setInReset v).pins = s.pins := rfl
@[simp] theorem State.setInReset_clock : (s.setInReset v).clock = s.clock := rfl
@[simp] theorem State.setInReset_port : (s.setInReset v).port = s.port := rfl
@[simp] theorem State.setInReset_events : (s.setInReset v).events = s.events := rfl
@[simp] theorem State.setInReset_site : (s.setInReset v).site = s.site := rfl
@[simp] theorem State.setInReset_ct : (s.setInReset v).ct = s.ct := rfl
@[simp] theorem State.setInReset_alloc : (s.setInReset v).alloc = s.alloc := rfl
@[simp] theorem State.setInReset_mu : (s.setInReset v).mu = s.mu := rfl
@[simp] theorem State.setInReset_hu : (s.setInReset v).hu = s.hu := rfl
@[simp] theorem State.setInReset_bus : (s.setInReset v).bus = s.bus := rfl
@[simp] theorem State.setInReset_rm : (s.setInReset v).rm = s.rm := rfl
@[simp] theorem State.setInReset_chans : (s.setInReset v).chans = s.chans := rfl
@[simp] theorem State.setInReset_log : (s.setInReset v).log = s.log := rfl
@[simp] theorem State.setInReset_free : (s.setInReset v).free = s.free := rfl

end setInReset

section setStraps

variable (s : State) (v : StrapPins)

@[simp] theorem State.setStraps_pending : (s.setStraps v).pending = s.pending := rfl
@[simp] theorem State.setStraps_inReset : (s.setStraps v).inReset = s.inReset := rfl
@[simp] theorem State.setStraps_straps : (s.setStraps v).straps = v := rfl
@[simp] theorem State.setStraps_pins : (s.setStraps v).pins = s.pins := rfl
@[simp] theorem State.setStraps_clock : (s.setStraps v).clock = s.clock := rfl
@[simp] theorem State.setStraps_port : (s.setStraps v).port = s.port := rfl
@[simp] theorem State.setStraps_events : (s.setStraps v).events = s.events := rfl
@[simp] theorem State.setStraps_site : (s.setStraps v).site = s.site := rfl
@[simp] theorem State.setStraps_ct : (s.setStraps v).ct = s.ct := rfl
@[simp] theorem State.setStraps_alloc : (s.setStraps v).alloc = s.alloc := rfl
@[simp] theorem State.setStraps_mu : (s.setStraps v).mu = s.mu := rfl
@[simp] theorem State.setStraps_hu : (s.setStraps v).hu = s.hu := rfl
@[simp] theorem State.setStraps_bus : (s.setStraps v).bus = s.bus := rfl
@[simp] theorem State.setStraps_rm : (s.setStraps v).rm = s.rm := rfl
@[simp] theorem State.setStraps_chans : (s.setStraps v).chans = s.chans := rfl
@[simp] theorem State.setStraps_log : (s.setStraps v).log = s.log := rfl
@[simp] theorem State.setStraps_free : (s.setStraps v).free = s.free := rfl

end setStraps

section setPins

variable (s : State) (v : FieldPins)

@[simp] theorem State.setPins_pending : (s.setPins v).pending = s.pending := rfl
@[simp] theorem State.setPins_inReset : (s.setPins v).inReset = s.inReset := rfl
@[simp] theorem State.setPins_straps : (s.setPins v).straps = s.straps := rfl
@[simp] theorem State.setPins_pins : (s.setPins v).pins = v := rfl
@[simp] theorem State.setPins_clock : (s.setPins v).clock = s.clock := rfl
@[simp] theorem State.setPins_port : (s.setPins v).port = s.port := rfl
@[simp] theorem State.setPins_events : (s.setPins v).events = s.events := rfl
@[simp] theorem State.setPins_site : (s.setPins v).site = s.site := rfl
@[simp] theorem State.setPins_ct : (s.setPins v).ct = s.ct := rfl
@[simp] theorem State.setPins_alloc : (s.setPins v).alloc = s.alloc := rfl
@[simp] theorem State.setPins_mu : (s.setPins v).mu = s.mu := rfl
@[simp] theorem State.setPins_hu : (s.setPins v).hu = s.hu := rfl
@[simp] theorem State.setPins_bus : (s.setPins v).bus = s.bus := rfl
@[simp] theorem State.setPins_rm : (s.setPins v).rm = s.rm := rfl
@[simp] theorem State.setPins_chans : (s.setPins v).chans = s.chans := rfl
@[simp] theorem State.setPins_log : (s.setPins v).log = s.log := rfl
@[simp] theorem State.setPins_free : (s.setPins v).free = s.free := rfl

end setPins

section setClock

variable (s : State) (v : Clock)

@[simp] theorem State.setClock_pending : (s.setClock v).pending = s.pending := rfl
@[simp] theorem State.setClock_inReset : (s.setClock v).inReset = s.inReset := rfl
@[simp] theorem State.setClock_straps : (s.setClock v).straps = s.straps := rfl
@[simp] theorem State.setClock_pins : (s.setClock v).pins = s.pins := rfl
@[simp] theorem State.setClock_clock : (s.setClock v).clock = v := rfl
@[simp] theorem State.setClock_port : (s.setClock v).port = s.port := rfl
@[simp] theorem State.setClock_events : (s.setClock v).events = s.events := rfl
@[simp] theorem State.setClock_site : (s.setClock v).site = s.site := rfl
@[simp] theorem State.setClock_ct : (s.setClock v).ct = s.ct := rfl
@[simp] theorem State.setClock_alloc : (s.setClock v).alloc = s.alloc := rfl
@[simp] theorem State.setClock_mu : (s.setClock v).mu = s.mu := rfl
@[simp] theorem State.setClock_hu : (s.setClock v).hu = s.hu := rfl
@[simp] theorem State.setClock_bus : (s.setClock v).bus = s.bus := rfl
@[simp] theorem State.setClock_rm : (s.setClock v).rm = s.rm := rfl
@[simp] theorem State.setClock_chans : (s.setClock v).chans = s.chans := rfl
@[simp] theorem State.setClock_log : (s.setClock v).log = s.log := rfl
@[simp] theorem State.setClock_free : (s.setClock v).free = s.free := rfl

end setClock

section setPort

variable (s : State) (v : Port)

@[simp] theorem State.setPort_pending : (s.setPort v).pending = s.pending := rfl
@[simp] theorem State.setPort_inReset : (s.setPort v).inReset = s.inReset := rfl
@[simp] theorem State.setPort_straps : (s.setPort v).straps = s.straps := rfl
@[simp] theorem State.setPort_pins : (s.setPort v).pins = s.pins := rfl
@[simp] theorem State.setPort_clock : (s.setPort v).clock = s.clock := rfl
@[simp] theorem State.setPort_port : (s.setPort v).port = v := rfl
@[simp] theorem State.setPort_events : (s.setPort v).events = s.events := rfl
@[simp] theorem State.setPort_site : (s.setPort v).site = s.site := rfl
@[simp] theorem State.setPort_ct : (s.setPort v).ct = s.ct := rfl
@[simp] theorem State.setPort_alloc : (s.setPort v).alloc = s.alloc := rfl
@[simp] theorem State.setPort_mu : (s.setPort v).mu = s.mu := rfl
@[simp] theorem State.setPort_hu : (s.setPort v).hu = s.hu := rfl
@[simp] theorem State.setPort_bus : (s.setPort v).bus = s.bus := rfl
@[simp] theorem State.setPort_rm : (s.setPort v).rm = s.rm := rfl
@[simp] theorem State.setPort_chans : (s.setPort v).chans = s.chans := rfl
@[simp] theorem State.setPort_log : (s.setPort v).log = s.log := rfl
@[simp] theorem State.setPort_free : (s.setPort v).free = s.free := rfl

end setPort

section setEvents

variable (s : State) (v : Events)

@[simp] theorem State.setEvents_pending : (s.setEvents v).pending = s.pending := rfl
@[simp] theorem State.setEvents_inReset : (s.setEvents v).inReset = s.inReset := rfl
@[simp] theorem State.setEvents_straps : (s.setEvents v).straps = s.straps := rfl
@[simp] theorem State.setEvents_pins : (s.setEvents v).pins = s.pins := rfl
@[simp] theorem State.setEvents_clock : (s.setEvents v).clock = s.clock := rfl
@[simp] theorem State.setEvents_port : (s.setEvents v).port = s.port := rfl
@[simp] theorem State.setEvents_events : (s.setEvents v).events = v := rfl
@[simp] theorem State.setEvents_site : (s.setEvents v).site = s.site := rfl
@[simp] theorem State.setEvents_ct : (s.setEvents v).ct = s.ct := rfl
@[simp] theorem State.setEvents_alloc : (s.setEvents v).alloc = s.alloc := rfl
@[simp] theorem State.setEvents_mu : (s.setEvents v).mu = s.mu := rfl
@[simp] theorem State.setEvents_hu : (s.setEvents v).hu = s.hu := rfl
@[simp] theorem State.setEvents_bus : (s.setEvents v).bus = s.bus := rfl
@[simp] theorem State.setEvents_rm : (s.setEvents v).rm = s.rm := rfl
@[simp] theorem State.setEvents_chans : (s.setEvents v).chans = s.chans := rfl
@[simp] theorem State.setEvents_log : (s.setEvents v).log = s.log := rfl
@[simp] theorem State.setEvents_free : (s.setEvents v).free = s.free := rfl

end setEvents

section setSite

variable (s : State) (v : SiteConfiguration)

@[simp] theorem State.setSite_pending : (s.setSite v).pending = s.pending := rfl
@[simp] theorem State.setSite_inReset : (s.setSite v).inReset = s.inReset := rfl
@[simp] theorem State.setSite_straps : (s.setSite v).straps = s.straps := rfl
@[simp] theorem State.setSite_pins : (s.setSite v).pins = s.pins := rfl
@[simp] theorem State.setSite_clock : (s.setSite v).clock = s.clock := rfl
@[simp] theorem State.setSite_port : (s.setSite v).port = s.port := rfl
@[simp] theorem State.setSite_events : (s.setSite v).events = s.events := rfl
@[simp] theorem State.setSite_site : (s.setSite v).site = v := rfl
@[simp] theorem State.setSite_ct : (s.setSite v).ct = s.ct := rfl
@[simp] theorem State.setSite_alloc : (s.setSite v).alloc = s.alloc := rfl
@[simp] theorem State.setSite_mu : (s.setSite v).mu = s.mu := rfl
@[simp] theorem State.setSite_hu : (s.setSite v).hu = s.hu := rfl
@[simp] theorem State.setSite_bus : (s.setSite v).bus = s.bus := rfl
@[simp] theorem State.setSite_rm : (s.setSite v).rm = s.rm := rfl
@[simp] theorem State.setSite_chans : (s.setSite v).chans = s.chans := rfl
@[simp] theorem State.setSite_log : (s.setSite v).log = s.log := rfl
@[simp] theorem State.setSite_free : (s.setSite v).free = s.free := rfl

end setSite

section setCt

variable (s : State) (v : ClaimUnit)

@[simp] theorem State.setCt_pending : (s.setCt v).pending = s.pending := rfl
@[simp] theorem State.setCt_inReset : (s.setCt v).inReset = s.inReset := rfl
@[simp] theorem State.setCt_straps : (s.setCt v).straps = s.straps := rfl
@[simp] theorem State.setCt_pins : (s.setCt v).pins = s.pins := rfl
@[simp] theorem State.setCt_clock : (s.setCt v).clock = s.clock := rfl
@[simp] theorem State.setCt_port : (s.setCt v).port = s.port := rfl
@[simp] theorem State.setCt_events : (s.setCt v).events = s.events := rfl
@[simp] theorem State.setCt_site : (s.setCt v).site = s.site := rfl
@[simp] theorem State.setCt_ct : (s.setCt v).ct = v := rfl
@[simp] theorem State.setCt_alloc : (s.setCt v).alloc = s.alloc := rfl
@[simp] theorem State.setCt_mu : (s.setCt v).mu = s.mu := rfl
@[simp] theorem State.setCt_hu : (s.setCt v).hu = s.hu := rfl
@[simp] theorem State.setCt_bus : (s.setCt v).bus = s.bus := rfl
@[simp] theorem State.setCt_rm : (s.setCt v).rm = s.rm := rfl
@[simp] theorem State.setCt_chans : (s.setCt v).chans = s.chans := rfl
@[simp] theorem State.setCt_log : (s.setCt v).log = s.log := rfl
@[simp] theorem State.setCt_free : (s.setCt v).free = s.free := rfl

end setCt

section setAlloc

variable (s : State) (v : AllocResult)

@[simp] theorem State.setAlloc_pending : (s.setAlloc v).pending = s.pending := rfl
@[simp] theorem State.setAlloc_inReset : (s.setAlloc v).inReset = s.inReset := rfl
@[simp] theorem State.setAlloc_straps : (s.setAlloc v).straps = s.straps := rfl
@[simp] theorem State.setAlloc_pins : (s.setAlloc v).pins = s.pins := rfl
@[simp] theorem State.setAlloc_clock : (s.setAlloc v).clock = s.clock := rfl
@[simp] theorem State.setAlloc_port : (s.setAlloc v).port = s.port := rfl
@[simp] theorem State.setAlloc_events : (s.setAlloc v).events = s.events := rfl
@[simp] theorem State.setAlloc_site : (s.setAlloc v).site = s.site := rfl
@[simp] theorem State.setAlloc_ct : (s.setAlloc v).ct = s.ct := rfl
@[simp] theorem State.setAlloc_alloc : (s.setAlloc v).alloc = v := rfl
@[simp] theorem State.setAlloc_mu : (s.setAlloc v).mu = s.mu := rfl
@[simp] theorem State.setAlloc_hu : (s.setAlloc v).hu = s.hu := rfl
@[simp] theorem State.setAlloc_bus : (s.setAlloc v).bus = s.bus := rfl
@[simp] theorem State.setAlloc_rm : (s.setAlloc v).rm = s.rm := rfl
@[simp] theorem State.setAlloc_chans : (s.setAlloc v).chans = s.chans := rfl
@[simp] theorem State.setAlloc_log : (s.setAlloc v).log = s.log := rfl
@[simp] theorem State.setAlloc_free : (s.setAlloc v).free = s.free := rfl

end setAlloc

section setMu

variable (s : State) (v : MemberUnit)

@[simp] theorem State.setMu_pending : (s.setMu v).pending = s.pending := rfl
@[simp] theorem State.setMu_inReset : (s.setMu v).inReset = s.inReset := rfl
@[simp] theorem State.setMu_straps : (s.setMu v).straps = s.straps := rfl
@[simp] theorem State.setMu_pins : (s.setMu v).pins = s.pins := rfl
@[simp] theorem State.setMu_clock : (s.setMu v).clock = s.clock := rfl
@[simp] theorem State.setMu_port : (s.setMu v).port = s.port := rfl
@[simp] theorem State.setMu_events : (s.setMu v).events = s.events := rfl
@[simp] theorem State.setMu_site : (s.setMu v).site = s.site := rfl
@[simp] theorem State.setMu_ct : (s.setMu v).ct = s.ct := rfl
@[simp] theorem State.setMu_alloc : (s.setMu v).alloc = s.alloc := rfl
@[simp] theorem State.setMu_mu : (s.setMu v).mu = v := rfl
@[simp] theorem State.setMu_hu : (s.setMu v).hu = s.hu := rfl
@[simp] theorem State.setMu_bus : (s.setMu v).bus = s.bus := rfl
@[simp] theorem State.setMu_rm : (s.setMu v).rm = s.rm := rfl
@[simp] theorem State.setMu_chans : (s.setMu v).chans = s.chans := rfl
@[simp] theorem State.setMu_log : (s.setMu v).log = s.log := rfl
@[simp] theorem State.setMu_free : (s.setMu v).free = s.free := rfl

end setMu

section setHu

variable (s : State) (v : HaltUnit)

@[simp] theorem State.setHu_pending : (s.setHu v).pending = s.pending := rfl
@[simp] theorem State.setHu_inReset : (s.setHu v).inReset = s.inReset := rfl
@[simp] theorem State.setHu_straps : (s.setHu v).straps = s.straps := rfl
@[simp] theorem State.setHu_pins : (s.setHu v).pins = s.pins := rfl
@[simp] theorem State.setHu_clock : (s.setHu v).clock = s.clock := rfl
@[simp] theorem State.setHu_port : (s.setHu v).port = s.port := rfl
@[simp] theorem State.setHu_events : (s.setHu v).events = s.events := rfl
@[simp] theorem State.setHu_site : (s.setHu v).site = s.site := rfl
@[simp] theorem State.setHu_ct : (s.setHu v).ct = s.ct := rfl
@[simp] theorem State.setHu_alloc : (s.setHu v).alloc = s.alloc := rfl
@[simp] theorem State.setHu_mu : (s.setHu v).mu = s.mu := rfl
@[simp] theorem State.setHu_hu : (s.setHu v).hu = v := rfl
@[simp] theorem State.setHu_bus : (s.setHu v).bus = s.bus := rfl
@[simp] theorem State.setHu_rm : (s.setHu v).rm = s.rm := rfl
@[simp] theorem State.setHu_chans : (s.setHu v).chans = s.chans := rfl
@[simp] theorem State.setHu_log : (s.setHu v).log = s.log := rfl
@[simp] theorem State.setHu_free : (s.setHu v).free = s.free := rfl

end setHu

section setBus

variable (s : State) (v : BusUnit)

@[simp] theorem State.setBus_pending : (s.setBus v).pending = s.pending := rfl
@[simp] theorem State.setBus_inReset : (s.setBus v).inReset = s.inReset := rfl
@[simp] theorem State.setBus_straps : (s.setBus v).straps = s.straps := rfl
@[simp] theorem State.setBus_pins : (s.setBus v).pins = s.pins := rfl
@[simp] theorem State.setBus_clock : (s.setBus v).clock = s.clock := rfl
@[simp] theorem State.setBus_port : (s.setBus v).port = s.port := rfl
@[simp] theorem State.setBus_events : (s.setBus v).events = s.events := rfl
@[simp] theorem State.setBus_site : (s.setBus v).site = s.site := rfl
@[simp] theorem State.setBus_ct : (s.setBus v).ct = s.ct := rfl
@[simp] theorem State.setBus_alloc : (s.setBus v).alloc = s.alloc := rfl
@[simp] theorem State.setBus_mu : (s.setBus v).mu = s.mu := rfl
@[simp] theorem State.setBus_hu : (s.setBus v).hu = s.hu := rfl
@[simp] theorem State.setBus_bus : (s.setBus v).bus = v := rfl
@[simp] theorem State.setBus_rm : (s.setBus v).rm = s.rm := rfl
@[simp] theorem State.setBus_chans : (s.setBus v).chans = s.chans := rfl
@[simp] theorem State.setBus_log : (s.setBus v).log = s.log := rfl
@[simp] theorem State.setBus_free : (s.setBus v).free = s.free := rfl

end setBus

section setRm

variable (s : State) (v : RunUnit)

@[simp] theorem State.setRm_pending : (s.setRm v).pending = s.pending := rfl
@[simp] theorem State.setRm_inReset : (s.setRm v).inReset = s.inReset := rfl
@[simp] theorem State.setRm_straps : (s.setRm v).straps = s.straps := rfl
@[simp] theorem State.setRm_pins : (s.setRm v).pins = s.pins := rfl
@[simp] theorem State.setRm_clock : (s.setRm v).clock = s.clock := rfl
@[simp] theorem State.setRm_port : (s.setRm v).port = s.port := rfl
@[simp] theorem State.setRm_events : (s.setRm v).events = s.events := rfl
@[simp] theorem State.setRm_site : (s.setRm v).site = s.site := rfl
@[simp] theorem State.setRm_ct : (s.setRm v).ct = s.ct := rfl
@[simp] theorem State.setRm_alloc : (s.setRm v).alloc = s.alloc := rfl
@[simp] theorem State.setRm_mu : (s.setRm v).mu = s.mu := rfl
@[simp] theorem State.setRm_hu : (s.setRm v).hu = s.hu := rfl
@[simp] theorem State.setRm_bus : (s.setRm v).bus = s.bus := rfl
@[simp] theorem State.setRm_rm : (s.setRm v).rm = v := rfl
@[simp] theorem State.setRm_chans : (s.setRm v).chans = s.chans := rfl
@[simp] theorem State.setRm_log : (s.setRm v).log = s.log := rfl
@[simp] theorem State.setRm_free : (s.setRm v).free = s.free := rfl

end setRm

section setChans

variable (s : State) (v : Vector Channel 8)

@[simp] theorem State.setChans_pending : (s.setChans v).pending = s.pending := rfl
@[simp] theorem State.setChans_inReset : (s.setChans v).inReset = s.inReset := rfl
@[simp] theorem State.setChans_straps : (s.setChans v).straps = s.straps := rfl
@[simp] theorem State.setChans_pins : (s.setChans v).pins = s.pins := rfl
@[simp] theorem State.setChans_clock : (s.setChans v).clock = s.clock := rfl
@[simp] theorem State.setChans_port : (s.setChans v).port = s.port := rfl
@[simp] theorem State.setChans_events : (s.setChans v).events = s.events := rfl
@[simp] theorem State.setChans_site : (s.setChans v).site = s.site := rfl
@[simp] theorem State.setChans_ct : (s.setChans v).ct = s.ct := rfl
@[simp] theorem State.setChans_alloc : (s.setChans v).alloc = s.alloc := rfl
@[simp] theorem State.setChans_mu : (s.setChans v).mu = s.mu := rfl
@[simp] theorem State.setChans_hu : (s.setChans v).hu = s.hu := rfl
@[simp] theorem State.setChans_bus : (s.setChans v).bus = s.bus := rfl
@[simp] theorem State.setChans_rm : (s.setChans v).rm = s.rm := rfl
@[simp] theorem State.setChans_chans : (s.setChans v).chans = v := rfl
@[simp] theorem State.setChans_log : (s.setChans v).log = s.log := rfl
@[simp] theorem State.setChans_free : (s.setChans v).free = s.free := rfl

end setChans

section setLog

variable (s : State) (v : LogUnit)

@[simp] theorem State.setLog_pending : (s.setLog v).pending = s.pending := rfl
@[simp] theorem State.setLog_inReset : (s.setLog v).inReset = s.inReset := rfl
@[simp] theorem State.setLog_straps : (s.setLog v).straps = s.straps := rfl
@[simp] theorem State.setLog_pins : (s.setLog v).pins = s.pins := rfl
@[simp] theorem State.setLog_clock : (s.setLog v).clock = s.clock := rfl
@[simp] theorem State.setLog_port : (s.setLog v).port = s.port := rfl
@[simp] theorem State.setLog_events : (s.setLog v).events = s.events := rfl
@[simp] theorem State.setLog_site : (s.setLog v).site = s.site := rfl
@[simp] theorem State.setLog_ct : (s.setLog v).ct = s.ct := rfl
@[simp] theorem State.setLog_alloc : (s.setLog v).alloc = s.alloc := rfl
@[simp] theorem State.setLog_mu : (s.setLog v).mu = s.mu := rfl
@[simp] theorem State.setLog_hu : (s.setLog v).hu = s.hu := rfl
@[simp] theorem State.setLog_bus : (s.setLog v).bus = s.bus := rfl
@[simp] theorem State.setLog_rm : (s.setLog v).rm = s.rm := rfl
@[simp] theorem State.setLog_chans : (s.setLog v).chans = s.chans := rfl
@[simp] theorem State.setLog_log : (s.setLog v).log = v := rfl
@[simp] theorem State.setLog_free : (s.setLog v).free = s.free := rfl

end setLog

section setFree

variable (s : State) (v : Nat)

@[simp] theorem State.setFree_pending : (s.setFree v).pending = s.pending := rfl
@[simp] theorem State.setFree_inReset : (s.setFree v).inReset = s.inReset := rfl
@[simp] theorem State.setFree_straps : (s.setFree v).straps = s.straps := rfl
@[simp] theorem State.setFree_pins : (s.setFree v).pins = s.pins := rfl
@[simp] theorem State.setFree_clock : (s.setFree v).clock = s.clock := rfl
@[simp] theorem State.setFree_port : (s.setFree v).port = s.port := rfl
@[simp] theorem State.setFree_events : (s.setFree v).events = s.events := rfl
@[simp] theorem State.setFree_site : (s.setFree v).site = s.site := rfl
@[simp] theorem State.setFree_ct : (s.setFree v).ct = s.ct := rfl
@[simp] theorem State.setFree_alloc : (s.setFree v).alloc = s.alloc := rfl
@[simp] theorem State.setFree_mu : (s.setFree v).mu = s.mu := rfl
@[simp] theorem State.setFree_hu : (s.setFree v).hu = s.hu := rfl
@[simp] theorem State.setFree_bus : (s.setFree v).bus = s.bus := rfl
@[simp] theorem State.setFree_rm : (s.setFree v).rm = s.rm := rfl
@[simp] theorem State.setFree_chans : (s.setFree v).chans = s.chans := rfl
@[simp] theorem State.setFree_log : (s.setFree v).log = s.log := rfl
@[simp] theorem State.setFree_free : (s.setFree v).free = v := rfl

end setFree

end Sys2Proof.Machine
end

