-- ==== Sys2Proof/Laws/Tables.lean ====
section
/-!
SUPPORT. The laws of the rows of like things: `mapVec`, channels, slots of the claim table, roster records.
-/

namespace Sys2Proof.Machine

/-! ### mapVec -/

@[simp] theorem mapVec_get {α β : Type} {n : Nat} (f : α → β) (v : Vector α n) (i : Nat) (h : i < n) :
    (mapVec f v)[i] = f v[i] := by
  simp [mapVec]

theorem mapVec_set {α β : Type} {n : Nat} (f : α → β) (v : Vector α n) (i : Nat) (x : α) (h : i < n) :
    mapVec f (v.set i x h) = (mapVec f v).set i (f x) h := by
  ext j hj
  simp only [mapVec_get, Vector.getElem_set]
  split <;> rfl

theorem mapVec_mapVec {α β γ : Type} {n : Nat} (f : α → β) (g : β → γ) (v : Vector α n) :
    mapVec g (mapVec f v) = mapVec (fun x => g (f x)) v := by
  ext j hj
  simp

/-! ### Channels -/

@[simp] theorem State.chan_setChan_same (s : State) (c : Chan) (ch : Channel) : (s.setChan c ch).chan c = ch := by
  simp [State.chan, State.setChan]

theorem State.chan_setChan_ne (s : State) {c d : Chan} (ch : Channel) (h : c ≠ d) :
    (s.setChan c ch).chan d = s.chan d := by
  have : c.val ≠ d.val := fun e => h (Fin.ext e)
  simp [State.chan, State.setChan, this]

theorem State.chan_setChan (s : State) (c d : Chan) (ch : Channel) :
    (s.setChan c ch).chan d = if c = d then ch else s.chan d := by
  split
  · next h => subst h; simp
  · next h => exact s.chan_setChan_ne ch h

@[simp] theorem State.setChan_self (s : State) (c : Chan) : s.setChan c (s.chan c) = s := by
  simp [State.chan, State.setChan, State.setChans]

/-! ### Claim table -/

@[simp] theorem slot_setSlot_same (t : Table) (a : Addr) (c : Chan) (e : Option Entry) :
    slot (setSlot t a c e) a c = e := by
  simp [slot, setSlot]

theorem slot_setSlot (t : Table) (a b : Addr) (c d : Chan) (e : Option Entry) :
    slot (setSlot t a c e) b d = if a = b ∧ c = d then e else slot t b d := by
  by_cases hab : a = b
  · subst hab
    by_cases hcd : c = d
    · subst hcd; simp
    · have : c.val ≠ d.val := fun e => hcd (Fin.ext e)
      simp [slot, setSlot, hcd, this]
  · have : a.val ≠ b.val := fun e => hab (Fin.ext e)
    simp [slot, setSlot, hab, this]

theorem slot_clearRow (t : Table) (a b : Addr) (c : Chan) :
    slot (clearRow t a) b c = if a = b then none else slot t b c := by
  by_cases hab : a = b
  · subst hab; simp [slot, clearRow]
  · have : a.val ≠ b.val := fun e => hab (Fin.ext e)
    simp [slot, clearRow, hab, this]

@[simp] theorem slot_mapEntries (f : Entry → Entry) (t : Table) (a : Addr) (c : Chan) :
    slot (mapEntries f t) a c = (slot t a c).map f := by
  simp [slot, mapEntries]

@[simp] theorem slot_empty (a : Addr) (c : Chan) : slot Table.empty a c = none := by
  simp [slot, Table.empty]

/-! ### Roster -/

@[simp] theorem State.member_setMember_same (s : State) (a : Addr) (m : Option Member) :
    (s.setMember a m).member a = m := by
  simp [State.member, State.setMember]

theorem State.member_setMember (s : State) (a b : Addr) (m : Option Member) :
    (s.setMember a m).member b = if a = b then m else s.member b := by
  by_cases hab : a = b
  · subst hab; simp
  · have : a.val ≠ b.val := fun e => hab (Fin.ext e)
    simp [State.member, State.setMember, hab, this]

theorem State.isMember_setMember (s : State) (a b : Addr) (m : Option Member) :
    (s.setMember a m).isMember b = if a = b then m.isSome else s.isMember b := by
  unfold State.isMember
  rw [State.member_setMember]
  split <;> rfl

theorem State.member_modMember (s : State) (a b : Addr) (f : Member → Member) :
    (s.modMember a f).member b = if a = b then (s.member b).map f else s.member b := by
  unfold State.modMember
  rw [State.member_setMember]
  split
  · next h => subst h; rfl
  · rfl

@[simp] theorem State.isMember_modMember (s : State) (a b : Addr) (f : Member → Member) :
    (s.modMember a f).isMember b = s.isMember b := by
  unfold State.isMember
  rw [State.member_modMember]
  split <;> simp

/-! ### Folds -/

/-- What no step of a fold over the state changes, the whole fold does not change. -/
theorem fold_leaves {α β : Type} (part : State → β) (op : State → α → State) (xs : List α) (s : State)
    (leaves : ∀ t x, part (op t x) = part t) : part (xs.foldl op s) = part s :=
  List.foldlRecOn xs op (motive := fun t => part t = part s) rfl fun t same x _ => (leaves t x).trans same

end Sys2Proof.Machine
end

