-- ==== Sys2Proof/Laws/Bare.lean ====
section
/-!
SUPPORT. What the operations over runs, valves and the outbound set can touch, said once: the pool, the log's records and
reservations, the frames of the outbound set, and of a channel its valve, timers, announced record, unattributed volume
and accumulator. `State.bare` is the state with just these taken away; an operation that keeps `bare` keeps every other
part of the state (`congrArg State.hu (… : (op s).bare = s.bare)` and so on).
-/

namespace Sys2Proof.Machine

/-- A channel without what the run-side operations touch. -/
def Channel.bare (ch : Channel) : Channel :=
  { Channel.initial with
    settings := ch.settings, faults := ch.faults, stuckValues := ch.stuckValues, vsw := ch.vsw,
    vswHeld := ch.vswHeld, vswDue := ch.vswDue, mtrHeld := ch.mtrHeld, mtrLow := ch.mtrLow, mtrDue := ch.mtrDue,
    totalizer := ch.totalizer, wrapped := ch.wrapped }

/-- A state without what the run-side operations touch. -/
def State.bare (s : State) : State :=
  { s with
    bus := { s.bus with outbound := [] }
    rm := ⟨[], s.rm.handleCounter⟩
    chans := mapVec Channel.bare s.chans
    log := ⟨[], s.log.readPos, 0⟩ }

/-! ### What states with one bare part share -/

section shared

variable {s t : State} (h : s.bare = t.bare)
include h

theorem pending_of_bare : s.pending = t.pending := by have e := congrArg State.pending h; exact e
theorem inReset_of_bare : s.inReset = t.inReset := by have e := congrArg State.inReset h; exact e
theorem straps_of_bare : s.straps = t.straps := by have e := congrArg State.straps h; exact e
theorem pins_of_bare : s.pins = t.pins := by have e := congrArg State.pins h; exact e
theorem clock_of_bare : s.clock = t.clock := by have e := congrArg State.clock h; exact e
theorem port_of_bare : s.port = t.port := by have e := congrArg State.port h; exact e
theorem events_of_bare : s.events = t.events := by have e := congrArg State.events h; exact e
theorem site_of_bare : s.site = t.site := by have e := congrArg State.site h; exact e
theorem ct_of_bare : s.ct = t.ct := by have e := congrArg State.ct h; exact e
theorem alloc_of_bare : s.alloc = t.alloc := by have e := congrArg State.alloc h; exact e
theorem mu_of_bare : s.mu = t.mu := by have e := congrArg State.mu h; exact e
theorem hu_of_bare : s.hu = t.hu := by have e := congrArg State.hu h; exact e
theorem free_of_bare : s.free = t.free := by have e := congrArg State.free h; exact e
theorem tx_of_bare : s.bus.tx = t.bus.tx := by have e := congrArg (fun u : State => u.bus.tx) h; exact e
theorem seq_of_bare : s.bus.seq = t.bus.seq := by have e := congrArg (fun u : State => u.bus.seq) h; exact e
theorem failures_of_bare : s.bus.failures = t.bus.failures := by
  have e := congrArg (fun u : State => u.bus.failures) h; exact e
theorem lastSender_of_bare : s.bus.lastSender = t.bus.lastSender := by
  have e := congrArg (fun u : State => u.bus.lastSender) h; exact e
theorem beatTimer_of_bare : s.bus.beatTimer = t.bus.beatTimer := by
  have e := congrArg (fun u : State => u.bus.beatTimer) h; exact e
theorem rxReady_of_bare : s.bus.rxReady = t.bus.rxReady := by
  have e := congrArg (fun u : State => u.bus.rxReady) h; exact e
theorem access_of_bare : s.bus.access = t.bus.access := by
  have e := congrArg (fun u : State => u.bus.access) h; exact e
theorem handleCounter_of_bare : s.rm.handleCounter = t.rm.handleCounter := by
  have e := congrArg (fun u : State => u.rm.handleCounter) h; exact e
theorem readPos_of_bare : s.log.readPos = t.log.readPos := by
  have e := congrArg (fun u : State => u.log.readPos) h; exact e
theorem chan_of_bare (c : Chan) : (s.chan c).bare = (t.chan c).bare := by
  have e := congrArg (fun u : State => u.chans[c.val]) h
  simpa [State.bare, State.chan] using e

end shared

/-! ### The setters -/

theorem State.bare_setHu (s : State) (v : HaltUnit) : (s.setHu v).bare = s.bare.setHu v := rfl
theorem State.bare_setMu (s : State) (v : MemberUnit) : (s.setMu v).bare = s.bare.setMu v := rfl
theorem State.bare_setCt (s : State) (v : ClaimUnit) : (s.setCt v).bare = s.bare.setCt v := rfl
theorem State.bare_setAlloc (s : State) (v : AllocResult) : (s.setAlloc v).bare = s.bare.setAlloc v := rfl
theorem State.bare_setEvents (s : State) (v : Events) : (s.setEvents v).bare = s.bare.setEvents v := rfl
theorem State.bare_setPort (s : State) (v : Port) : (s.setPort v).bare = s.bare.setPort v := rfl

theorem State.setPool_bare (s : State) (p : List Run) : (s.setPool p).bare = s.bare := rfl

theorem State.setChan_bare (s : State) (c : Chan) (ch : Channel) (h : ch.bare = (s.chan c).bare) :
    (s.setChan c ch).bare = s.bare := by
  have e : mapVec Channel.bare (s.setChan c ch).chans = mapVec Channel.bare s.chans := by
    show mapVec Channel.bare (s.chans.set c.val ch) = _
    rw [mapVec_set, h]
    ext1 j hj
    by_cases hc : c.val = j
    · subst hc; simp [State.chan]
    · simp [hc]
  show { s with bus := _, rm := _, chans := mapVec Channel.bare (s.setChan c ch).chans, log := _ } = s.bare
  rw [e]
  rfl

theorem State.appendRecord_bare (s : State) (r : LogRecord) : (s.appendRecord r).bare = s.bare := rfl

theorem State.modRun_bare (s : State) (h : Nat) (f : Run → Run) : (s.modRun h f).bare = s.bare := rfl

theorem State.setRunState_bare (s : State) (h : Nat) (st : RunState) : (s.setRunState h st).bare = s.bare := rfl

theorem State.enqueue_bare (s : State) (f : OutFrame) : (s.enqueue f).bare = s.bare := by
  unfold State.enqueue
  split <;> rfl

/-! ### Channels -/

theorem Channel.beginClose_bare (ch : Channel) : ch.beginClose.bare = ch.bare := by
  unfold Channel.beginClose
  split <;> rfl

theorem Channel.endClose_bare (ch : Channel) : ch.endClose.bare = ch.bare := rfl

theorem Channel.beginOpen_bare (ch : Channel) : ch.beginOpen.bare = ch.bare := rfl

/-! ### CLAIMs -/

theorem State.queueClaim_bare (s : State) (c : Chan) (k : ClaimContent) : (s.queueClaim c k).bare = s.bare := by
  unfold State.queueClaim
  split
  · rfl
  · have h : ((s.enqueue (.claim c k)).chan c) = s.chan c := by
      unfold State.enqueue
      split <;> rfl
    rw [State.setChan_bare]
    · exact State.enqueue_bare ..
    · rw [h]; rfl

theorem State.announce_bare (s : State) (c : Chan) : (s.announce c).bare = s.bare := by
  unfold State.announce
  repeat' split
  all_goals first | rfl | exact State.queueClaim_bare ..

theorem State.announceAll_bare (s : State) : s.announceAll.bare = s.bare :=
  fold_leaves State.bare _ _ s fun s c => s.announce_bare c

theorem State.queueCurrent_bare (s : State) (c : Chan) : (s.queueCurrent c).bare = s.bare := by
  unfold State.queueCurrent
  repeat' split
  all_goals exact State.queueClaim_bare ..

/-! ### Heads and closes -/

theorem State.pickHead_bare (s : State) (c : Chan) : (s.pickHead c).bare = s.bare := by
  unfold State.pickHead
  split <;> rfl

theorem State.requeue_bare (s : State) (c : Chan) (h : Nat) : (s.requeue c h).bare = s.bare :=
  (State.pickHead_bare _ c).trans (s.setRunState_bare h .queued)

theorem State.preempt_bare (s : State) (c : Chan) (r : Run) : (s.preempt c r).bare = s.bare := by
  unfold State.preempt
  dsimp only
  split
  · rw [State.requeue_bare, State.setChan_bare]
    · exact State.modRun_bare ..
    · exact (Channel.endClose_bare _).trans (Channel.beginClose_bare _)
  · rw [State.setChan_bare]
    · exact State.modRun_bare ..
    · exact Channel.beginClose_bare _

theorem State.headSelect_bare (s : State) (c : Chan) : (s.headSelect c).bare = s.bare := by
  unfold State.headSelect
  repeat' split
  all_goals first | rfl | exact State.pickHead_bare .. | exact State.preempt_bare ..

theorem State.headSelectAll_bare (s : State) (cs : List Chan) : (s.headSelectAll cs).bare = s.bare :=
  fold_leaves State.bare _ _ s fun s c => s.headSelect_bare c

theorem State.releaseWaiting_bare (s : State) (h : Nat) : (s.releaseWaiting h).bare = s.bare :=
  (State.headSelectAll_bare _ _).trans rfl

theorem State.queueDeparture_bare (s : State) (r : Run) : (s.queueDeparture r).bare = s.bare := by
  unfold State.queueDeparture
  dsimp only
  split
  all_goals first | exact State.queueClaim_bare .. | rfl

theorem State.removeRun_bare (s : State) (r : Run) (b : Bool) : (s.removeRun r b).bare = s.bare := rfl

theorem State.depart_bare (s : State) (h : Nat) (b : Bool) : (s.depart h b).bare = s.bare := by
  unfold State.depart
  split
  · rfl
  · dsimp only
    split
    · rw [State.queueDeparture_bare, State.headSelect_bare, State.releaseWaiting_bare, State.removeRun_bare]
    · rw [State.headSelect_bare, State.releaseWaiting_bare, State.removeRun_bare]

theorem State.completeClose_bare (s : State) (c : Chan) : (s.completeClose c).bare = s.bare := by
  have h : (s.setChan c (s.chan c).endClose).bare = s.bare := s.setChan_bare c _ (Channel.endClose_bare _)
  unfold State.completeClose
  dsimp only
  repeat' split
  all_goals first | exact h | exact (State.depart_bare ..).trans h | exact (State.requeue_bare ..).trans h

theorem State.demandClose_bare (s : State) (c : Chan) (p : Purpose) : (s.demandClose c p).bare = s.bare := by
  unfold State.demandClose
  split
  · split
    · next r _ _ =>
      have h : ((s.setRunState r.handle (.closing p)).setChan c
          ((s.setRunState r.handle (.closing p)).chan c).beginClose).bare = s.bare :=
        (State.setChan_bare _ _ _ (Channel.beginClose_bare _)).trans (s.setRunState_bare _ _)
      dsimp only
      split
      · exact (State.completeClose_bare ..).trans h
      · exact h
    · rfl
  · rfl

theorem State.closeAll_bare (s : State) (p : Purpose) : (s.closeAll p).bare = s.bare :=
  fold_leaves State.bare _ _ s fun s c => s.demandClose_bare c p

theorem State.endRun_bare (s : State) (h : Nat) (e : EndResult) : (s.endRun h e).bare = s.bare := by
  unfold State.endRun
  split
  · rfl
  · split
    · rfl
    · dsimp only
      split
      · rw [State.depart_bare, State.modRun_bare]
      · rw [State.depart_bare, State.modRun_bare]
      · rw [State.depart_bare, State.modRun_bare]
      · rw [State.demandClose_bare, State.modRun_bare]
      · rw [State.setRunState_bare, State.modRun_bare]

/-! ### Notices and evaluations -/

theorem State.grantNotice_bare (s : State) (c : Chan) : (s.grantNotice c).bare = s.bare := by
  unfold State.grantNotice
  split
  · split
    · next r _ =>
      rw [State.announce_bare, State.setChan_bare]
      · exact s.setRunState_bare _ _
      · rfl
    · rfl
  · exact s.queueCurrent_bare c

theorem State.revocationNotice_bare (s : State) (c : Chan) : (s.revocationNotice c).bare = s.bare := by
  unfold State.revocationNotice
  rw [State.queueCurrent_bare, State.demandClose_bare]

theorem State.notices_bare (s : State) (g r : List Chan) : (s.notices g r).bare = s.bare := by
  unfold State.notices
  refine fold_leaves State.bare _ _ s fun s c => ?_
  split
  · exact s.grantNotice_bare c
  · split
    · exact s.revocationNotice_bare c
    · rfl

/-- A recomputation replaces the table and the result; the notices are run-side. -/
theorem State.recompute_bare (s : State) :
    s.recompute.bare = ((s.setTable s.allocate.table).setAlloc s.allocate.result).bare :=
  State.notices_bare _ _ _

theorem State.stopWatch_bare (s : State) : s.stopWatch.bare = s.bare :=
  fold_leaves State.bare _ _ s fun s h => s.endRun_bare h .stopped

theorem State.gateTest_bare (s : State) : s.gateTest.bare = s.bare :=
  (State.headSelectAll_bare _ _).trans rfl

theorem State.evaluate_bare (s : State) : s.evaluate.bare = s.bare :=
  (State.gateTest_bare _).trans s.stopWatch_bare

theorem State.evaluateIf_bare (s : State) (p : Bool) : (s.evaluateIf p).bare = s.bare := by
  unfold State.evaluateIf
  split
  · exact s.evaluate_bare
  · rfl

/-! ### What follows an event -/

/-- The test of R159 clears at most ack pending. -/
theorem State.ackTest_bare (s : State) :
    s.ackTest.bare = (s.setHu { s.hu with ackPending := s.ackTest.hu.ackPending }).bare := by
  unfold State.ackTest
  split
  · have h : ((s.enqueue (.haltAck s.stuckMask)).setHu { s.hu with ackPending := false }).bare =
        (s.setHu { s.hu with ackPending := false }).bare := by
      rw [State.bare_setHu, State.bare_setHu, s.enqueue_bare]
    exact h
  · rfl

theorem State.ackTest_mu (s : State) : s.ackTest.mu = s.mu := by
  rw [mu_of_bare s.ackTest_bare]
  rfl

theorem State.leaveTest_bare (s : State) : s.leaveTest.bare = s.bare := by
  unfold State.leaveTest
  split
  · exact s.enqueue_bare _
  · rfl

/-- In a state that does not listen again by itself the end of an event is the comparisons and the two tests. -/
theorem State.conclude_eq (s : State) (h : s.mu.station ≠ .isolated ∨ s.mu.cause ≠ .selfDrop) :
    s.conclude = s.announceAll.ackTest.leaveTest := by
  have e : s.announceAll.ackTest.leaveTest.mu = s.mu :=
    (mu_of_bare (State.leaveTest_bare _)).trans
      ((State.ackTest_mu _).trans (mu_of_bare s.announceAll_bare))
  unfold State.conclude State.relistenTest
  rw [e]
  exact if_neg fun ⟨p, q, _⟩ => h.elim (fun n => n p) (fun n => n q)

/-- The end of an event in a state that does not listen again by itself: run-side but for ack pending. -/
theorem State.conclude_bare (s : State) (h : s.mu.station ≠ .isolated ∨ s.mu.cause ≠ .selfDrop) :
    s.conclude.bare = (s.setHu { s.hu with ackPending := s.conclude.hu.ackPending }).bare := by
  rw [s.conclude_eq h]
  have e : s.announceAll.ackTest.leaveTest.hu = s.announceAll.ackTest.hu := hu_of_bare (State.leaveTest_bare _)
  rw [State.leaveTest_bare, State.ackTest_bare, e, State.bare_setHu, State.bare_setHu, s.announceAll_bare,
    hu_of_bare s.announceAll_bare]

end Sys2Proof.Machine
end

