-- ==== Sys2Proof/Laws/Outbound.lean ====
section
/-!
SUPPORT. What queueing does to the outbound set (R128, R129): the key of a frame, and the set with one frame for a key.
-/

namespace Sys2Proof.Machine

theorem OutFrame.sameKey_refl (f : OutFrame) : f.sameKey f = true := by
  cases f <;> first | rfl | exact beq_self_eq_true _

theorem OutFrame.sameKey_symm (f g : OutFrame) : f.sameKey g = g.sameKey f := by
  cases f <;> cases g <;> first | rfl | exact BEq.comm

/-- A combined frame has the key of both. -/
theorem OutFrame.combine_sameKey (f g h : OutFrame) (hk : f.sameKey g = true) :
    (f.combine g).sameKey h = f.sameKey h := by
  cases f <;> cases g <;> first | (cases h <;> rfl) | exact absurd hk Bool.false_ne_true | skip
  obtain rfl := eq_of_beq (α := Chan) hk
  cases h <;> rfl

/-- R129: a request takes the newest place, or is combined with the oldest pending frame of its key, in the place of that
frame. -/
theorem insertOut_places (f : OutFrame) (out : List OutFrame) :
    (∀ g ∈ out, g.sameKey f = false) ∧ insertOut f out = out ++ [f] ∨
      ∃ older g newer, out = older ++ g :: newer ∧ (∀ k ∈ older, k.sameKey f = false) ∧ g.sameKey f = true ∧
        insertOut f out = older ++ g.combine f :: newer := by
  induction out with
  | nil => exact .inl ⟨nofun, rfl⟩
  | cons g gs ih =>
    by_cases key : g.sameKey f
    · exact .inr ⟨[], g, gs, rfl, nofun, key, by simp [insertOut, key]⟩
    · rcases ih with ⟨apart, placed⟩ | ⟨older, k, newer, rfl, apart, same, placed⟩
      · exact .inl ⟨by simpa [key] using apart, by simp [insertOut, key, placed]⟩
      · exact .inr ⟨g :: older, k, newer, rfl, by simpa [key] using apart, same, by simp [insertOut, key, placed]⟩

/-- R129: a request keeps the set keyed. -/
theorem insertOut_keyed (f : OutFrame) (out : List OutFrame) (keyed : out.Pairwise fun a b => a.sameKey b = false) :
    (insertOut f out).Pairwise fun a b => a.sameKey b = false := by
  rcases insertOut_places f out with ⟨apart, placed⟩ | ⟨older, g, newer, rfl, -, same, placed⟩
  · rw [placed, List.pairwise_append]
    exact ⟨keyed, by simp, by simpa using apart⟩
  · rw [List.pairwise_append, List.pairwise_cons] at keyed
    rw [placed, List.pairwise_append, List.pairwise_cons]
    obtain ⟨olderKeyed, ⟨fromG, newerKeyed⟩, across⟩ := keyed
    refine ⟨olderKeyed, ⟨fun b hb => ?_, newerKeyed⟩, fun a ha b hb => ?_⟩
    · rw [OutFrame.combine_sameKey _ _ _ same]
      exact fromG b hb
    · rcases List.mem_cons.1 hb with rfl | hb
      · rw [OutFrame.sameKey_symm, OutFrame.combine_sameKey _ _ _ same, OutFrame.sameKey_symm]
        exact across a ha g (by simp)
      · exact across a ha b (by simp [hb])

/-- R128, R129: what queueing a frame leaves in the set. -/
theorem State.enqueue_outbound (s : State) (f : OutFrame) :
    (s.enqueue f).bus.outbound = if s.mu.station.takes f then insertOut f s.bus.outbound else s.bus.outbound := by
  unfold State.enqueue
  split <;> rfl

end Sys2Proof.Machine
end

