-- ==== Sys2Proof/Laws/Runs.lean ====
section
/-!
SUPPORT. What the run-side operations do to the pool's handles and to the log. An operation that moves runs between
states keeps both (`State.roll`); a departure takes one run from the pool and puts its record at the log's end.
-/

namespace Sys2Proof.Machine

/-- The handles of the live runs in their order, with the log. -/
def State.roll (s : State) : List Nat × LogUnit := (s.rm.pool.map Run.handle, s.log)

theorem log_of_roll {s t : State} (h : s.roll = t.roll) : s.log = t.log := congrArg Prod.snd h

theorem handles_of_roll {s t : State} (h : s.roll = t.roll) : s.rm.pool.map Run.handle = t.rm.pool.map Run.handle :=
  congrArg Prod.fst h

theorem poolLength_of_roll {s t : State} (h : s.roll = t.roll) : s.rm.pool.length = t.rm.pool.length := by
  have e := congrArg List.length (handles_of_roll h)
  simpa using e

/-! ### Operations that keep the roll -/

theorem State.setChan_roll (s : State) (c : Chan) (ch : Channel) : (s.setChan c ch).roll = s.roll := rfl

theorem State.modRun_roll (s : State) (h : Nat) (f : Run → Run) (hf : ∀ r, (f r).handle = r.handle) :
    (s.modRun h f).roll = s.roll := by
  have e : (updateRun s.rm.pool h f).map Run.handle = s.rm.pool.map Run.handle := by
    simp only [updateRun, List.map_map]
    refine List.map_congr_left fun r _ => ?_
    by_cases hr : r.handle = h <;> simp [hr, hf]
  show ((updateRun s.rm.pool h f).map Run.handle, s.log) = _
  rw [e]
  rfl

theorem State.setRunState_roll (s : State) (h : Nat) (st : RunState) : (s.setRunState h st).roll = s.roll :=
  s.modRun_roll h _ fun _ => rfl

theorem State.pickHead_roll (s : State) (c : Chan) : (s.pickHead c).roll = s.roll := by
  unfold State.pickHead
  split
  · exact State.setRunState_roll _ _ _
  · rfl

theorem State.requeue_roll (s : State) (c : Chan) (h : Nat) : (s.requeue c h).roll = s.roll := by
  unfold State.requeue
  rw [State.pickHead_roll, State.setRunState_roll]

theorem State.preempt_roll (s : State) (c : Chan) (r : Run) : (s.preempt c r).roll = s.roll := by
  unfold State.preempt
  dsimp only
  split
  · rw [State.requeue_roll, State.setChan_roll]
    exact State.modRun_roll _ _ _ fun _ => rfl
  · rw [State.setChan_roll]
    exact State.modRun_roll _ _ _ fun _ => rfl

theorem State.headSelect_roll (s : State) (c : Chan) : (s.headSelect c).roll = s.roll := by
  unfold State.headSelect
  split
  · exact s.pickHead_roll c
  · split
    · split
      · rfl
      · rw [State.setRunState_roll, State.setRunState_roll]
    · split
      · rfl
      · exact s.preempt_roll c _
    · rfl

theorem State.headSelectAll_roll (s : State) (cs : List Chan) : (s.headSelectAll cs).roll = s.roll :=
  fold_leaves State.roll State.headSelect cs s fun t c => t.headSelect_roll c

theorem State.releaseWaiting_roll (s : State) (h : Nat) : (s.releaseWaiting h).roll = s.roll := by
  unfold State.releaseWaiting
  rw [State.headSelectAll_roll]
  have e : (s.rm.pool.map fun r => if waitsOn h r then passGate r else r).map Run.handle = s.rm.pool.map Run.handle := by
    simp only [List.map_map]
    refine List.map_congr_left fun r _ => ?_
    by_cases hr : waitsOn h r = true <;> simp [hr, passGate]
  exact congrArg (fun x => (x, s.log)) e

theorem State.enqueue_roll (s : State) (f : OutFrame) : (s.enqueue f).roll = s.roll := by
  unfold State.enqueue
  split <;> rfl

theorem State.queueClaim_roll (s : State) (c : Chan) (k : ClaimContent) : (s.queueClaim c k).roll = s.roll := by
  unfold State.queueClaim
  split
  · rfl
  · rw [State.setChan_roll, State.enqueue_roll]

theorem State.announce_roll (s : State) (c : Chan) : (s.announce c).roll = s.roll := by
  unfold State.announce
  split
  · rfl
  · exact s.queueClaim_roll c _
  · exact s.queueClaim_roll c _
  · split
    · rfl
    · exact s.queueClaim_roll c _

theorem State.announceAll_roll (s : State) : s.announceAll.roll = s.roll :=
  fold_leaves State.roll State.announce allChans s fun t c => t.announce_roll c

theorem State.queueDeparture_roll (s : State) (r : Run) : (s.queueDeparture r).roll = s.roll := by
  unfold State.queueDeparture
  dsimp only
  split <;> first | exact s.queueClaim_roll _ _ | rfl

/-! ### Departures -/

/-- R61, R174: a departure takes the run from the pool and puts its record, as it stands, at the end of the log. -/
theorem State.depart_roll (s : State) (h : Nat) (notConfirmed : Bool) (r : Run) (hr : findRun s.rm.pool h = some r) :
    (s.depart h notConfirmed).roll =
      ((s.rm.pool.eraseP fun q => q.handle == r.handle).map Run.handle,
        { s.log with
          records := s.log.records ++ [completionRecord r notConfirmed s.clock.seconds]
          reservations := s.log.reservations - 1 }) := by
  unfold State.depart
  rw [hr]
  dsimp only
  split
  · rw [State.queueDeparture_roll, State.headSelect_roll, State.releaseWaiting_roll]
    rfl
  · rw [State.headSelect_roll, State.releaseWaiting_roll]
    rfl

/-- The departure of a handle that no live run holds is no departure. -/
theorem State.depart_none (s : State) (h : Nat) (notConfirmed : Bool) (hr : findRun s.rm.pool h = none) :
    s.depart h notConfirmed = s := by
  unfold State.depart
  rw [hr]

/-- A departure takes exactly one run from the pool. -/
theorem State.depart_length (s : State) (h : Nat) (notConfirmed : Bool) (r : Run)
    (hr : findRun s.rm.pool h = some r) : (s.depart h notConfirmed).rm.pool.length + 1 = s.rm.pool.length := by
  have e := congrArg (fun p => p.1.length) (s.depart_roll h notConfirmed r hr)
  have hmem : r ∈ s.rm.pool := List.mem_of_find?_eq_some hr
  have hl := List.length_eraseP_of_mem (p := fun q : Run => q.handle == r.handle) hmem (by simp)
  have hpos : 0 < s.rm.pool.length := List.length_pos_of_mem hmem
  simp only [State.roll, List.length_map] at e
  omega

end Sys2Proof.Machine
end

