-- ==== Sys2Proof/Tests/Slice0.lean ====
section
/-!
SUPPORT. Tests: an ill-formed term for each check of WellFormed; small checks of single commands on small states, worked
by hand from the spec; and for each obligation with hypotheses a state and operands that meet them, clause by clause.
-/

namespace Sys2Proof.Tests

set_option Elab.async false

open Sys2Proof.Machine

/-! ### Small states -/

/-- The state a command leads to. -/
def after (i : Instr) (s : State) : State :=
  match exec i s with
  | .next t => t
  | _ => s

/-- A quantum of 2.35 L without end switch: open time 2 s, close time 3 s, leak limit 0.5 L, no-flow time 5 s. -/
def settingsA : ChannelSettings := ⟨⟨[5, 3, 2, 0], rfl⟩, 2, 3, false, ⟨[5, 0, 0, 0, 0], rfl⟩, 5⟩

/-- The same with an end switch. -/
def settingsB : ChannelSettings := { settingsA with endSwitch := true }

/-- A roster record with last SEQ `n`. -/
def memberA (n : Seq) : Member := ⟨2, 30, 40, none, n, 0, false, some 6000, false⟩

/-- Station 3, released with PLE set, the site configured, channels 0 (no switch) and 1 (a switch) present. -/
def configured : State :=
  ((({ State.reset with straps := ⟨3, 1, false, true⟩, site := ⟨true, 40, 30, true⟩ }).setChan 0
    { Channel.initial with settings := some settingsA }).setChan 1 { Channel.initial with settings := some settingsB })

/-- The station SYNCED with itself and station 5 in the roster, and idle detected. -/
def synced : State :=
  (((configured.setStation .synced).setMember 3 (some { memberA 15 with silence := none })).setMember 5
    (some (memberA 7))).setBus { BusUnit.initial with rxReady := true, access := .fresh }

/-- The station LISTENING, with station 5 in its copy. -/
def listening : State :=
  ((configured.setMu { MemberUnit.initial with station := .listening, listenWindow := some 4000 }).setMember 5
    (some (memberA 7))).setBus { BusUnit.initial with rxReady := true, access := .fresh }

/-- A run of 10.0 L at level 1 with demand 4. -/
def runA (handle : Nat) (c : Chan) (st : RunState) : Run :=
  ⟨handle, 9, c, 1, 4, ⟨[0, 0, 1, 0, 0, 0], rfl⟩, Decimal.zero 7, false, none, true, none, none, 0, 0, 0, st, none⟩

/-- `s` with a pool and as many reservations. -/
def withRuns (rs : List Run) (s : State) : State :=
  (s.setRm ⟨rs, 9⟩).setLog ⟨s.log.records, s.log.readPos, rs.length⟩

/-- `s` with the valve of a channel in a state. -/
def withValve (c : Chan) (v : Valve) (s : State) : State := s.setChan c { s.chan c with valve := v }

/-- SYNCED with channel `c` delivering for run 4. -/
def flowing (c : Chan) : State := withValve c .opened (withRuns [runA 4 c .flowing] synced)

/-- SYNCED with channel `c` closing after the end of run 4. -/
def closingEnd (c : Chan) : State :=
  (withValve c .closing (withRuns [{ runA 4 c (.closing .ending) with endResult := some .cancelled }] synced)).setChan c
    { (withValve c .closing synced).chan c with closeTimer := some 0 }

/-- `s` with the port waiting to execute the command of a byte, with its argument bytes. -/
def waiting (code : Byte) (args : List Byte) (s : State) : State :=
  s.setPort { Port.initial with state := .executing, command := some code, args := args }

/-- The arguments of a SUBMIT on channel 0: tag 9, level 1, demand 4, target 10.0 L, no gate, a stop flag, no limit. -/
def submitArgs (stop : Byte) : List Byte := [0, 9, 0, 1, 4, 0x00, 0x01, 0x00, 0, 0, 0, 0, stop, 0, 0]

/-- The station sending a frame. -/
def sending (f : OutFrame) (body : FrameBody) (failures : Nat) (s : State) : State :=
  s.setBus { s.bus with tx := some ⟨⟨3, 0, body⟩, f, 0⟩, failures := failures, access := .closed }

/-- `s` with a pulse due on a channel. -/
def pulseAt (c : Chan) (s : State) : State := s.setChan c { s.chan c with mtrDue := true }

/-- A SYNCED state in which the own entry of channel `c` asks and is not latched. -/
def mayAsk (c : Chan) : State :=
  (withRuns [runA 4 c .asking] synced).setTable (setSlot synced.ct.table 3 c (some ⟨1, 4, .asking, false, false⟩))

/-- `s` with a level of VSW# of a channel due, the other level having been taken. -/
def switchAt (c : Chan) (asserted : Bool) (s : State) : State :=
  s.setChan c { s.chan c with vsw := some (!asserted), vswDue := some asserted }

/-- `s` with a level of PLOSS# due, and the level last taken, if any. -/
def plossAt (asserted : Bool) (last : Option Bool) (s : State) : State :=
  s.setHu { s.hu with ploss := last.getD false, plossTaken := last.isSome, plossDue := some asserted }

/-- `n` milliseconds with nothing waiting. -/
def wait (n : Nat) (s : State) : State := Nat.repeat State.tick n s

/-- A BEAT of a station with one ASKING item. -/
def beatA : BeatBody :=
  ⟨2, 30, 40, ⟨1, 0x250⟩, 0, #v[0, 0, 0, 0], 0, 0, [], [⟨2, 1, 6, 0, 1⟩, ⟨9, 1, 6, 0, 1⟩]⟩

/-- A log record. -/
def recordA (handle : Nat) : LogRecord :=
  ⟨handle, 9, 0, 1, .complete, ⟨[0, 0, 1, 0, 0, 0], rfl⟩, Decimal.zero 7, false, false, 0, 0, 0, 5⟩

/-! ### WellFormed refuses -/

theorem test_wellFormed_receiveError : (Instr.receiveError [0x00]).wellFormed = false := by decide +kernel

theorem test_wellFormed_frameIgnored : (Instr.frameIgnored 1 0 (.beat beatA)).wellFormed = false := by decide +kernel

theorem test_wellFormed_clashFrame :
    (Instr.clashFrameReceived 0 (.beat { beatA with entries := List.replicate 9 ⟨0, 0, 1, 0, 1⟩ })).wellFormed = false := by
  decide +kernel

theorem test_wellFormed_beatFrame :
    (Instr.beatFrame 1 0 { beatA with orphans := List.replicate 16 ⟨0, 1⟩ }).wellFormed = false := by decide +kernel

theorem test_wellFormed_nonSync : (Instr.nonSyncFirstCharacter 0xC5).wellFormed = false := by decide +kernel

theorem test_wellFormed_accepts :
    (Instr.beatFrame 1 0 beatA).wellFormed = true ∧ (Instr.receiveError [0xC5, 0, 0, 97]).wellFormed = true := by
  decide +kernel

/-! ### Arithmetic and formats -/

/-- The example of R90: 9.4|0 plus 2.35 is 11.7|5. -/
theorem test_addDecimal_example :
    addDecimal (⟨[0, 4, 9, 0, 0, 0, 0], rfl⟩ : Decimal 7) (⟨[5, 3, 2, 0], rfl⟩ : Decimal 4) =
      (⟨[5, 7, 1, 1, 0, 0, 0], rfl⟩, false) := by decide +kernel

/-- The example of R41: counter 253 and live handles 254, 1 and 2 give 255. -/
theorem test_nextHandle_example :
    RunUnit.nextHandle ⟨[runA 254 0 .queued, runA 1 0 .queued, runA 2 0 .queued], 253⟩ = 255 := by decide +kernel

/-- A FLAG frame of station 3 as characters, and back. -/
theorem test_frame_characters :
    (frameChars ⟨3, 1, .flag 0x8001 0x0002⟩).take 8 = [0xC5, 0x33, 0x10, 4, 0x80, 0x01, 0x00, 0x02] ∧
      receiveChars (frameChars ⟨3, 1, .flag 0x8001 0x0002⟩) = .frame ⟨3, 1, .flag 0x8001 0x0002⟩ := by
  decide +kernel

/-- The levels of a character, and the characters taken back from the levels of a frame. -/
theorem test_frame_levels :
    charLevels 0xC5 = [false, true, false, true, false, false, false, true, true, true] ∧
      takeChars true (frameLevels ⟨3, 1, .flag 0x8001 0x0002⟩) = frameChars ⟨3, 1, .flag 0x8001 0x0002⟩ := by
  decide +kernel

/-! ### The controller port -/

/-- A write cycle, a read cycle with both strobes asserted together, and a read cycle with CD low. -/
theorem test_cyclesTaken :
    let idle : PortPins := ⟨false, false, false, true, 0⟩
    cyclesTaken false idle [⟨true, false, false, true, 3⟩, ⟨true, false, true, true, 3⟩, ⟨true, false, false, true, 3⟩,
      ⟨true, true, false, false, 0⟩, ⟨true, true, true, false, 0⟩, ⟨true, true, false, false, 0⟩,
      ⟨true, false, false, false, 0⟩, ⟨true, true, false, false, 0⟩, ⟨true, false, false, false, 0⟩] =
        [.commandByteWrite 3, .responseByteRead] := by decide +kernel

/-- R182: strobes that overlap only while CS# is deasserted leave the read cycle that follows. -/
theorem test_strobes_without_select :
    cyclesTaken false ⟨false, true, true, false, 0⟩ [⟨false, true, false, false, 0⟩, ⟨true, true, false, false, 0⟩,
      ⟨true, false, false, false, 0⟩] = [.responseByteRead] ∧
    spoils true ⟨false, true, true, false, 0⟩ = false := by decide +kernel

/-- D0–D7 show the status byte or the front byte in a read cycle, and nothing otherwise, as in what remains of a cycle in
which both strobes were asserted. -/
theorem test_dataOut :
    let s := configured.setPort { Port.initial with state := .done, result := .ok, response := [5, 6] }
    s.dataOut false ⟨true, true, false, true, 0⟩ = some 0xC1 ∧ s.dataOut false ⟨true, true, false, false, 0⟩ = some 5 ∧
      s.dataOut false ⟨true, true, true, false, 0⟩ = none ∧ s.dataOut false ⟨false, true, false, false, 0⟩ = none ∧
      s.dataOut true ⟨true, true, false, false, 0⟩ = none ∧
      (after .reset s).dataOut false ⟨true, true, false, true, 0⟩ = none := by decide +kernel

theorem test_commandByteWrite :
    (after (.commandByteWrite 0x01) configured).port.state = .collecting ∧
      (after (.commandByteWrite 0x03) configured).port.state = .executing := by decide +kernel

theorem test_argumentByteWrite :
    (after (.argumentByteWrite 7) (after (.commandByteWrite 0x12) configured)).port.args = [7] ∧
      (after (.argumentByteWrite 7) configured).port.sequence = true := by decide +kernel

theorem test_writeWhileExecuting :
    (after (.writeWhileExecuting true 1) (waiting 0x03 [] configured)).port.sequence = true := by decide +kernel

theorem test_responseByteRead :
    (after .responseByteRead (configured.setPort { Port.initial with state := .done, response := [5, 6] })).port.lastRead
      = 5 := by decide +kernel

theorem test_badCommand : (after .badCommand (waiting 0xEE [] configured)).port.result = .badCommand := by decide +kernel

/-! ### Host commands -/

theorem test_siteConfig :
    (after .siteConfig (waiting 0x01 [40, 30, 1] configured)).site = ⟨true, 40, 30, true⟩ ∧
      (after .siteConfig (waiting 0x01 [40, 0, 1] configured)).port.result = .badArg := by decide +kernel

theorem test_channelConfig :
    (((after .channelConfig (waiting 0x02 [2, 1, 0x02, 0x35, 2, 3, 1, 0, 0, 0x05, 5] configured)).chan 2).valve,
      ((after .channelConfig (waiting 0x02 [2, 1, 0x02, 0x35, 2, 3, 0, 0, 0, 0x05, 5] configured)).chan 2).settings)
      = (.closing, some settingsA) := by decide +kernel

theorem test_join : (after .join (waiting 0x03 [] configured)).mu.station = .listening := by decide +kernel

theorem test_leaveCommand :
    (after .leaveCommand (waiting 0x04 [] synced)).mu.station = .leaving ∧
      (after .leaveCommand (waiting 0x04 [] synced)).bus.outbound = [.leave] := by decide +kernel

theorem test_submit :
    ((after .submit (waiting 0x10 (submitArgs 0xFF) configured)).rm.pool.map Run.state,
      (after .submit (waiting 0x10 (submitArgs 0xFF) configured)).port.response) = ([.asking], [1]) := by
  decide +kernel

theorem test_loadRun :
    (after .loadRun (waiting 0x11 ([0, 9, 0, 1, 4, 0x00, 0x01, 0x00, 0, 0, 0, 0x50, 2, 0, 7, 0, 0, 0, 1] ++
      [0, 0, 0, 0, 0xFF, 0, 1]) configured)).rm.pool.map (fun r => (r.openSeconds, r.preemptions, r.submitTime)) =
      [(7, 2, 1)] := by decide +kernel

theorem test_cancel :
    ((after .cancel (waiting 0x12 [4] (flowing 0))).chan 0).valve = .closing ∧
      (after .cancel (waiting 0x12 [5] (flowing 0))).port.result = .noSuchRun := by decide +kernel

theorem test_queryRun :
    (after .queryRun (waiting 0x13 [4] (flowing 0))).port.response =
      [0, 9, 0, 1, 4, 0, 1, 0, 0, 0, 0, 0, 0, 0, 0, 0, 0, 0, 0, 0, 0, 0, 0, 0xFF, 0, 0, 4, 4, 0, 0, 2] := by
  decide +kernel

theorem test_readChannel :
    (after .readChannel (waiting 0x20 [0, 0] (flowing 0))).port.response =
      [1, 0x02, 0x35, 2, 3, 0, 0, 0, 0x05, 5, 2, 1, 0, 0, 0, 4, 4, 0, 0, 0, 0, 0, 0, 0, 0, 0, 0, 0, 0] := by
  decide +kernel

theorem test_clearFault :
    ((after .clearFault (waiting 0x21 [0] (configured.setChan 0
      { configured.chan 0 with valve := .stuck, faults := ⟨false, false, true⟩, stuckValues := some (1, 4) }))).chan 0) =
      { configured.chan 0 with valve := .closed } := by decide +kernel

theorem test_readLog :
    (after .readLog (waiting 0x30 [] (configured.setLog ⟨[recordA 7, recordA 8], 47, 0⟩))).log =
      ⟨[recordA 8], 0, 0⟩ := by decide +kernel

theorem test_peekLog :
    (after .peekLog (waiting 0x31 [1] (configured.setLog ⟨[recordA 7, recordA 8], 47, 0⟩))).port.response =
      [8, 0, 9, 0, 1, 1, 0, 1, 0, 0, 0, 0, 0, 0, 0, 0, 0, 0, 0, 0, 0, 0, 0, 0, 5] := by decide +kernel

theorem test_logStatus :
    (after .logStatus (waiting 0x32 [] (withRuns [runA 4 0 .queued] configured))).port.response = [0, 1] := by
  decide +kernel

theorem test_setFlags :
    (after .setFlags (waiting 0x40 [0, 3, 0, 1] synced)).bus.outbound = [.flag 2 1] ∧
      (after .setFlags (waiting 0x40 [0, 3, 0, 1] configured)).port.result = .wrongState := by decide +kernel

theorem test_setGauge :
    (after .setGauge (waiting 0x41 [0x12, 0x50] synced)).bus.outbound = [.gauge (some ⟨2, 5, 0⟩)] := by decide +kernel

theorem test_haltCommand : (after .haltCommand (waiting 0x42 [] synced)).bus.outbound = [.halt 1] := by decide +kernel

theorem test_releaseCommand :
    (after .releaseCommand (waiting 0x43 [] (synced.setHu { HaltUnit.initial with halt := .halted }))).bus.outbound =
      [.release] := by decide +kernel

theorem test_purgeCommand :
    (after .purgeCommand (waiting 0x44 [9] (synced.setOrphans [⟨9, 12⟩]))).bus.outbound = [.purge 9] := by
  decide +kernel

theorem test_readRoster : (after .readRoster (waiting 0x50 [] synced)).port.response.length = 25 := by decide +kernel

theorem test_readEntry :
    (after .readEntry (waiting 0x51 [5, 2] (synced.setTable
      (setSlot synced.ct.table 5 2 (some ⟨1, 6, .asking, true, false⟩))))).port.response = [1, 5, 2, 1, 6, 1, 1] := by
  decide +kernel

theorem test_readSite :
    (after .readSite (waiting 0x52 [] (synced.setOrphans [⟨9, 300⟩]))).port.response.take 16 =
      [0, 0, 0, 0, 0, 0, 0, 0, 0, 0, 1, 1, 9, 1, 44, 0] := by decide +kernel

theorem test_stationStatus :
    (after .stationStatus (waiting 0x53 [] synced)).port.response = [2, 0, 0x93, 1, 40, 30, 1, 0, 0, 0, 0] := by
  decide +kernel

theorem test_readEvents :
    (after .readEvents (waiting 0x54 [] (synced.setEvents ⟨3, 0x801⟩))).port.response = [3, 0x80, 0x10] ∧
      (after .readEvents (waiting 0x54 [] (synced.setEvents ⟨3, 0x801⟩))).events = ⟨0, 0⟩ := by decide +kernel

/-! ### The line and the transmit engine -/

theorem test_idleDetection : (after .idleDetection configured).bus.rxReady = true := by decide +kernel

theorem test_accessRoundExpiry :
    (after .accessRoundExpiry (after (.transmissionStart .normal) synced)).bus.access = .fresh ∧
      (after .accessRoundExpiry (after (.nonSyncFirstCharacter 0) synced)).bus.access = .closed := by decide +kernel

theorem test_transmissionStart :
    (after (.transmissionStart .urgent) (synced.setBus { synced.bus with outbound := [.flag 1 2, .release] })).bus.outbound
      = [.flag 1 2] ∧
    (after (.transmissionStart .urgent) (synced.setBus { synced.bus with outbound := [.flag 1 2] })).bus.tx = none := by
  decide +kernel

/-- R117, R121: an urgent start that failed at its start bit leaves the normal moment of the round; no moment comes twice. -/
theorem test_start_after_failure :
    let s := synced.setBus { synced.bus with outbound := [.release], access := .urgentPassed, failures := 1 }
    (after (.transmissionStart .urgent) s).bus.tx = none ∧
      (after (.transmissionStart .normal) s).bus.tx = some ⟨⟨3, 0, .release⟩, .release, 0⟩ := by decide +kernel

/-- R117: after a start that failed past its start bit the station starts nothing, and no round begins, before the next idle
detection; a failure at the start bit leaves the round as it was. -/
theorem test_round_after_failure :
    let s := after (.transmissionStart .urgent) (synced.setBus { synced.bus with outbound := [.release] })
    (after (.readbackFailure .later) s).bus.access = .closed ∧
      (after (.readbackFailure .startBit) s).bus.access = .urgentPassed := by decide +kernel

theorem test_readbackFailure :
    (after (.readbackFailure .later) (sending (.flag 1 2) (.flag 1 2) 0 synced)).bus.outbound = [.flag 1 2] ∧
      (after (.readbackFailure .startBit) (sending (.flag 1 2) (.flag 1 2) 2 synced)).mu.station = .isolated := by
  decide +kernel

theorem test_frameSent :
    (after .frameSent (sending (.flag 1 2) (.flag 1 2) 0 synced)).ct.flags = 1 ∧
      (after .frameSent (sending .beat (.beat beatA) 0 (listening.setStation .listening))).mu.station = .synced := by
  decide +kernel

theorem test_receiveError :
    (after (.receiveError [0xC5, 0, 0, 97]) synced).mu.station = .resync := by decide +kernel

theorem test_frameIgnored : (after (.frameIgnored 6 0 .release) synced).bus.lastSender = 6 := by decide +kernel

theorem test_clashFrameReceived : (after (.clashFrameReceived 0 .release) synced).mu.station = .clash := by
  decide +kernel

theorem test_nonSyncFirstCharacter : (after (.nonSyncFirstCharacter 0) synced).bus.rxReady = false := by decide +kernel

/-- SBTX: the start bit and the data bits of SYNC, and high with nothing sent. -/
theorem test_sbtx :
    ((List.range 11).map (sending (.flag 1 2) (.flag 1 2) 0 synced).sbtx) =
      [false, true, false, true, false, false, false, true, true, true, false] ∧ synced.sbtx 0 = true := by
  decide +kernel

/-! ### Frames -/

theorem test_beatFrame :
    (after (.beatFrame 6 4 beatA) synced).says 6 2 = some (1, 6, .asking) ∧
      (after (.beatFrame 6 4 beatA) synced).gaugeOf 6 = some ⟨2, 5, 0⟩ := by decide +kernel

theorem test_claimFrame :
    (after (.claimFrame 5 8 2 1 6 2 0) synced).says 5 2 = some (1, 6, .flowing) ∧
      (after (.claimFrame 5 8 2 1 0 0 1) synced).ct.pointers = #v[0, 6, 0, 0] := by decide +kernel

theorem test_flagFrame : (after (.flagFrame 5 8 3 1) synced).ct.flags = 2 := by decide +kernel

theorem test_gaugeFrame :
    (after (.gaugeFrame 5 8 ⟨1, 0x250⟩) synced).gaugeOf 5 = some ⟨2, 5, 0⟩ ∧
      (after (.gaugeFrame 5 8 ⟨1, 0x2A0⟩) synced).gaugeOf 5 = none := by decide +kernel

theorem test_dropFrame :
    (after (.dropFrame 5 8 3) (withValve 0 .opened synced)).mu.cause = .selfDrop ∧
      (after (.dropFrame 5 8 3) synced).mu.station = .listening := by decide +kernel

theorem test_purgeFrame : (after (.purgeFrame 5 8 9) (synced.setOrphans [⟨9, 12⟩])).mu.orphans = [] := by decide +kernel

theorem test_leaveFrame : (after (.leaveFrame 5 8) synced).isMember 5 = false := by decide +kernel

theorem test_haltFrame :
    (after (.haltFrame 5 8 2) (flowing 0)).hu.ackSet = 0x28 ∧
      ((after (.haltFrame 5 8 2) (flowing 0)).chan 0).valve = .closing := by decide +kernel

theorem test_haltAckFrame :
    (after (.haltAckFrame 5 8 0) (synced.setHu
      { HaltUnit.initial with halt := .halted, round := .opened, ackSet := 0x20 })).hu.round = .confirmed := by
  decide +kernel

theorem test_releaseFrame :
    (after (.releaseFrame 5 8) (synced.setHu { HaltUnit.initial with halt := .halted, reasons := 1 })).hu.settle = 0x28 := by
  decide +kernel

/-! ### Timers and field pins -/

theorem test_beatTimerExpiry :
    (after .beatTimerExpiry (synced.setBus { synced.bus with beatTimer := some 0 })).bus.outbound = [.beat] := by
  decide +kernel

theorem test_silenceExpiry :
    (after (.silenceExpiry 5) (synced.setMember 5 (some { memberA 7 with silence := some 0 }))).bus.outbound = [.drop 5] ∧
      after (.silenceExpiry 5) synced = synced := by decide +kernel

theorem test_listenWindowExpiry :
    (after .listenWindowExpiry (listening.setMu { listening.mu with listenWindow := some 0 })).bus.outbound = [.beat] := by
  decide +kernel

theorem test_roundTimerExpiry :
    (after .roundTimerExpiry (synced.setHu { HaltUnit.initial with
      halt := .halted, round := .opened, ackSet := 0x28, roundTimer := some 0 })).hu.missing = 0x28 := by decide +kernel

theorem test_openTimerExpiry :
    ((after (.openTimerExpiry 0) (synced.setChan 0
      { synced.chan 0 with valve := .opening, openTimer := some 0 })).chan 0).noFlowTimer = some 5000 := by decide +kernel

theorem test_closeTimerExpiry :
    ((after (.closeTimerExpiry 0) (closingEnd 0)).chan 0).valve = .closed ∧
      ((after (.closeTimerExpiry 1) (closingEnd 1)).chan 1).stuckValues = some (1, 4) := by decide +kernel

theorem test_noFlowTimerExpiry :
    ((after (.noFlowTimerExpiry 0) ((flowing 0).setChan 0
      { (flowing 0).chan 0 with noFlowTimer := some 0 })).chan 0).faults = ⟨false, true, false⟩ := by decide +kernel

theorem test_openSecondsTick :
    (after (.openSecondsTick 0) ((flowing 0).setChan 0 { (flowing 0).chan 0 with accumulator := 1000 })).rm.pool.map
      Run.openSeconds = [1] := by decide +kernel

theorem test_stationSecondsTick :
    (after .stationSecondsTick { synced with clock := ⟨0, 1000⟩ }).clock = ⟨1, 0⟩ := by decide +kernel

theorem test_meterPulse :
    (after (.meterPulse (.taken 0)) (pulseAt 0 (flowing 0))).rm.pool.map Run.delivered =
        [⟨[5, 3, 2, 0, 0, 0, 0], rfl⟩] ∧
      ((after (.meterPulse (.taken 0)) (pulseAt 0 synced)).chan 0).faults.leak = true := by decide +kernel

/-- R87: the pulse of 2 ms low and 2 ms high is due at the end of the high period, and a fall before its row leaves it. -/
theorem test_meterPulse_due :
    let s := wait 2 (after (.meterPulse (.rises 0)) (wait 2 synced))
    (s.chan 0).mtrDue = true ∧ (s.chan 0).totalizer = Decimal.zero 10 ∧
      ((after (.meterPulse (.taken 0)) (after (.meterPulse (.falls 0)) s)).chan 0).totalizer =
        ⟨[5, 3, 2, 0, 0, 0, 0, 0, 0, 0], rfl⟩ := by decide +kernel

/-- R87: no pulse is taken before it is due, and none twice. -/
theorem test_meterPulse_holds :
    after (.meterPulse (.taken 0)) (flowing 0) = flowing 0 ∧
      (after (.meterPulse (.rises 0)) (flowing 0)).mtrPin 0 = true ∧
      (after (.meterPulse (.taken 0)) (after (.meterPulse (.taken 0)) (pulseAt 0 (flowing 0)))).rm.pool.map Run.delivered =
        [⟨[5, 3, 2, 0, 0, 0, 0], rfl⟩] := by decide +kernel

/-- R99: a pulse taken before the expiry of the same millisecond reloads the timer, and no DRY follows. -/
theorem test_pulse_before_noFlow :
    let s := (flowing 0).setChan 0 { (flowing 0).chan 0 with noFlowTimer := some 0 }
    ((after (.noFlowTimerExpiry 0) (after (.meterPulse (.taken 0)) (pulseAt 0 s))).chan 0).faults.dry = false := by
  decide +kernel

theorem test_endSwitchAssertion :
    ((after (.endSwitchAssertion 1) (switchAt 1 true (closingEnd 1))).chan 1).valve = .closed ∧
      ((after (.endSwitchAssertion 1) (closingEnd 1)).chan 1).valve = .closing := by decide +kernel

theorem test_endSwitchDeassertion :
    ((after (.endSwitchDeassertion 1) (switchAt 1 false synced)).chan 1).vsw = some false := by decide +kernel

theorem test_plossFallingEdge :
    (after .plossFallingEdge (plossAt true (some false) synced)).bus.outbound = [.halt 2] ∧
      (after .plossFallingEdge synced).pins.ploss = true := by decide +kernel

theorem test_plossRisingEdge :
    (after .plossRisingEdge (plossAt false (some true) synced)).hu.ploss = false := by decide +kernel

theorem test_plossLevelAtResetRelease :
    (after (.plossLevelAtResetRelease true) (plossAt true none configured)).hu.ploss = true ∧
      (after (.plossLevelAtResetRelease true) (plossAt true none synced)).bus.outbound = [] := by decide +kernel

theorem test_selfDropRelisten :
    (after .selfDropRelisten (configured.setMu
      { MemberUnit.initial with station := .isolated, cause := .selfDrop })).mu.station = .listening := by decide +kernel

theorem test_leaveQueued : (after .leaveQueued (synced.setStation .leaving)).bus.outbound = [.leave] := by decide +kernel

theorem test_haltAckQueued :
    (after .haltAckQueued (synced.setHu { HaltUnit.initial with halt := .halted, ackPending := true })).bus.outbound =
      [.haltAck 0] := by decide +kernel

theorem test_reset : (after .reset (flowing 0)).rm.pool = [] ∧ (after .reset (flowing 0)).inReset = true := by
  decide +kernel

theorem test_resetRelease :
    (after (.resetRelease ⟨3, 1, false, true⟩) (after .reset (flowing 0))).straps.addr = 3 := by decide +kernel

/-! ### Grants -/

/-- A CLAIM of the station itself, sent and applied, is granted: the head flows and the valve opens. -/
theorem test_grant_opens :
    let s := (withRuns [runA 4 0 .asking] synced).refreshView
    let t := after .frameSent
      (sending (.claim 0 (.live .asking 1 4)) (.claim 0 1 4 1 0) 0 s)
    (t.chan 0).valve = .opening ∧ t.rm.pool.map Run.state = [.flowing] ∧
      t.bus.outbound = [.claim 0 (.live .flowing 1 4)] := by decide +kernel

/-- R34, R35: an applied BEAT of another station, whose recomputation latches the own entry, opens the valve; without the
entry the head that flows is revoked. -/
theorem test_beat_notices :
    let s := (mayAsk 0).refreshView
    ((after (.beatFrame 5 8 beatA) s).chan 0).valve = .opening ∧
      (slot (after (.beatFrame 5 8 beatA) s).ct.table 3 0).map Entry.latched = some true ∧
      ((after (.beatFrame 5 8 beatA) (flowing 0)).chan 0).valve = .closing := by decide +kernel

/-- R22: the allocator's result after JOIN. -/
theorem test_join_result : (after .join (waiting 0x03 [] configured)).alloc = ⟨0, 0, 0, true, false⟩ := by decide +kernel

/-- R149, R169: a dropped station that delivers closes for ISOLATE, and owes no acknowledgement. -/
theorem test_self_drop_closes :
    let t := after (.dropFrame 5 8 3) ((flowing 0).setHu { HaltUnit.initial with ackPending := true, settle := 0x28 })
    t.rm.pool.map Run.state = [.closing .isolate] ∧ t.hu.ackPending = false ∧ t.hu.settle = 0x20 := by decide +kernel

/-- R52: the run whose close ends returns to ASKING, or gives way to a better one. -/
theorem test_close_requeues :
    let s (rs : List Run) := (withValve 0 .closing (withRuns rs synced)).setChan 0
      { (withValve 0 .closing synced).chan 0 with closeTimer := some 0 }
    (after (.closeTimerExpiry 0) (s [runA 4 0 (.closing .revoked)])).rm.pool.map Run.state = [.asking] ∧
      (after (.closeTimerExpiry 0) (s [runA 4 0 (.closing .revoked), { runA 9 0 .queued with level := 0 }])).rm.pool.map
        Run.state = [.queued, .asking] := by decide +kernel

/-! ### Witnesses: states and operands that meet the hypotheses of the obligations -/

/-- SYNCED with every timer and count at the last value before something is due. -/
def quiet : State :=
  ({ flowing 0 with
      clock := ⟨7, 999⟩
      hu := { HaltUnit.initial with plossTaken := true, plossHeld := 19 }
      pins := ⟨1, 1, true⟩
      bus := { synced.bus with beatTimer := some 1 } }).setChan 0
    { (flowing 0).chan 0 with noFlowTimer := some 1, accumulator := 999, mtrLow := true, mtrHeld := 1, vswHeld := 19 }

/-- RESYNC with adoption pending and station 5 stale. -/
def resyncing : State :=
  (((synced.setStation .resync).setMember 5 (some { memberA 7 with stale := true })).setCt
    { synced.ct with adoptionPending := true })

/-- LISTENING with adoption pending. -/
def listeningNew : State := listening.setCt { listening.ct with adoptionPending := true }

/-- The arguments of a LOAD_RUN on a channel: those of `submitArgs`, with 2 preemptions and 7 open seconds. -/
def loadArgs (c stop : Byte) : List Byte :=
  [0, 9, c, 1, 4, 0x00, 0x01, 0x00, 0, 0, 0, 0x50, 2, 0, 7, 0, 0, 0, 1, 0, 0, 0, 0, stop, 0, 1]

/-- `n` queued runs of one channel. -/
def queuedRuns (n : Nat) (c : Chan) : List Run := (List.range n).map fun k => runA (k + 1) c .queued

/-- 24 queued runs, six on each of the channels 4 to 7. -/
def fullPool : List Run := (List.range 24).map fun k => runA (k + 1) (Fin.ofNat 8 (4 + k / 6)) .queued

/-- The port in a state, with a response. -/
def portIn (st : PortState) (response : List Byte) : State :=
  synced.setPort { Port.initial with state := st, command := some 0x12, response := response }

/-- SYNCED in HALTED with an open round over stations 3 and 5. -/
def haltedRound (acked : Vector (Option Byte) 16) (missing : BitVec 16) : State :=
  synced.setHu { HaltUnit.initial with
    halt := .halted, round := .opened, ackSet := 0x28, acked := acked, missing := missing, roundTimer := some 0 }

/-- A state in which channel 0 may open. -/
def mayOpen : State :=
  (withRuns [runA 4 0 .asking] synced).setTable (setSlot synced.ct.table 3 0 (some ⟨1, 4, .asking, true, true⟩))

theorem witness_StepTakesFrontCommand :
    ({ synced with pending := [.join, .reset] } : State).pending = .join :: [.reset] := by decide +kernel

theorem witness_EmptyQueueIsOneMillisecond :
    quiet.pending = [] ∧ quiet.inReset = false ∧ quiet.port.state ≠ .executing ∧ quiet.clock.millis < 1000 ∧
    (∀ c : Chan, ((quiet.chan c).valve.driven = true → (quiet.chan c).accumulator < 1000) ∧
      (∀ t ∈ [(quiet.chan c).openTimer, (quiet.chan c).closeTimer, (quiet.chan c).noFlowTimer], t ≠ some 0) ∧
      ((quiet.chan c).present = true →
        quiet.pulseDue c = false ∧ quiet.switchDue c true = false ∧ quiet.switchDue c false = false)) ∧
    (∀ t ∈ [quiet.bus.beatTimer, quiet.mu.listenWindow, quiet.hu.roundTimer], t ≠ some 0) ∧
    (∀ a : Addr, ∀ m ∈ quiet.member a, m.silence ≠ some 0) ∧
    (∀ b : Bool, quiet.plossReady b = false) ∧
    (quiet.tick.hu.plossDue = some true ∧ (quiet.tick.chan 0).mtrDue = true ∧
      (quiet.tick.chan 0).vswDue = some true) := by decide +kernel

theorem witness_ResetHoldsAndReleases :
    (after .reset synced).inReset = true ∧ (after .reset synced).pending = [] ∧ synced.inReset = false ∧
      Instr.join ≠ .reset ∧ Instr.join.movesPin = false ∧ (Instr.meterPulse (.falls 7)).movesPin = true := by
  decide +kernel

theorem witness_ResetHoldsAndReleases_row : ∀ q, Instr.join ≠ .resetRelease q := nofun

/-- IDLE_DETECTION is none of the commands that are named, so every clause speaks of it. -/
theorem witness_PartsWrittenOnlyByTheirCommands :
    Instr.idleDetection ≠ .reset ∧ Instr.idleDetection.movesPin = false ∧ Instr.idleDetection.carriesFrame = false ∧
      (∀ c, Instr.idleDetection ≠ .endSwitchAssertion c ∧ Instr.idleDetection ≠ .meterPulse (.taken c)) ∧
      Instr.idleDetection ≠ .plossFallingEdge := by decide +kernel

theorem witness_PartsWrittenOnlyByTheirCommands_step :
    exec .idleDetection synced = .next (after .idleDetection synced) := rfl

theorem witness_PartsWrittenOnlyByTheirCommands_rows (k : HostCommand) (b : Byte) (p : StrapPins) (m : Moment) :
    Instr.idleDetection ≠ hostRow k ∧ Instr.idleDetection ≠ .commandByteWrite b ∧
      Instr.idleDetection ≠ .resetRelease p ∧ Instr.idleDetection ≠ .transmissionStart m := by
  cases k <;> simp [hostRow]

theorem witness_CommandByteStartsCommand :
    (portIn .idle []).inReset = false ∧ (portIn .collecting []).port.state ≠ .executing ∧
      (portIn .executing []).port.state = .executing := by decide +kernel

theorem witness_ArgumentAndResponseBytes :
    (portIn .collecting []).port.state = .collecting ∧ (portIn .idle []).port.state = .idle ∧
      (portIn .executing []).port.state = .executing ∧ (portIn .done [1]).port.response = 1 :: [] ∧
      (portIn .done []).port.response = [] ∧ (portIn .done [1]).inReset = false ∧
      (waiting 0xEE [] synced).port.awaitsUnknown = true ∧ (waiting 0xEE [] synced).port.awaits .join = false ∧
      (waiting 0xEE [] synced).inReset = false := by decide +kernel

theorem witness_ArgumentAndResponseBytes_codes :
    ((0x54, .readEvents, 0) : Byte × HostCommand × Nat) ∈ commandTable ∧ (0xEE : Byte) ∉ commandTable.map Prod.fst ∧
      (waiting 0x54 [] synced).port.awaits .readEvents = true ∧ (waiting 0x54 [] synced).port.command = some 0x54 ∧
      (waiting 0x54 [] synced).port.awaitsUnknown = false := by decide +kernel

theorem witness_PortPinsAndOutputs :
    let write : PortPins := ⟨true, false, true, true, 0xFF⟩
    let read : PortPins := ⟨true, true, false, false, 0⟩
    let quietPins : PortPins := ⟨true, false, false, true, 0xFF⟩
    let both : PortPins := ⟨true, true, true, false, 0⟩
    (write.cs = true ∧ quietPins.cs = true ∧ write.wr = true ∧ write.rd = false ∧ quietPins.wr = false ∧
      quietPins.cd = true) ∧ (read.rd = true ∧ read.wr = false ∧ quietPins.rd = false ∧ read.cd = false) ∧
      both.cs = true ∧ both.rd = true ∧ both.wr = true ∧ (sending .release .release 0 synced).bus.tx.isSome = true ∧
      synced.bus.tx = none ∧ synced.inReset = false ∧ synced.straps.atm = false ∧
      ({ synced with straps := ⟨15, 3, true, true⟩ } : State).straps.atm = true := by decide +kernel

theorem witness_ConfigurationCommands :
    let args : Byte → Byte → List Byte := fun n p => [n, p, 0x02, 0x35, 2, 3, 1, 0, 0, 0x05, 5]
    let s := waiting 0x02 (args 1 1) configured
    s.port.awaits .channelConfig = true ∧ s.inReset = false ∧ s.mu.station = .config ∧ synced.mu.station ≠ .config ∧
      8 ≤ ((waiting 0x02 (args 8 1) configured).port.arg 0).toNat ∧
      readSettings (waiting 0x02 (args 1 2) configured).port = none ∧
      toChan (s.port.arg 0) = some 1 ∧ readSettings s.port = some (some settingsB) ∧
      (s.chan 1).valve = .closed ∧ (s.chan 1).vsw ≠ some true ∧ (s.chan 7).settings = none ∧
      toChan ((waiting 0x02 (args 7 1) configured).port.arg 0) = some 7 ∧
      (withValve 1 .stuck s).mu.station = .config ∧ ((withValve 1 .stuck s).chan 1).valve = .stuck ∧
      readSettings (waiting 0x02 (args 1 0) configured).port = some none ∧ listOf configured.rm.pool 1 = [] ∧
      listOf (withRuns [runA 4 1 .queued] configured).rm.pool 1 ≠ [] ∧
      (waiting 0x01 [1, 1, 0] configured).port.awaits .siteConfig = true ∧
      (waiting 0x01 [1, 1, 0] configured).port.arg 0 ≠ 0 ∧ (waiting 0x01 [255, 255, 1] configured).port.arg 1 ≠ 0 ∧
      ((waiting 0x01 [255, 255, 1] configured).port.arg 2).toNat ≤ 1 ∧
      2 ≤ ((waiting 0x01 [1, 1, 2] configured).port.arg 2).toNat := by decide +kernel

theorem witness_JoinAndLeaveCommands :
    (waiting 0x03 [] configured).port.awaits .join = true ∧ configured.mu.station = .config ∧
      configured.site.isSet = true ∧ State.reset.site.isSet = false ∧ State.reset.mu.station = .config ∧
      (configured.setStation .isolated).mu.station = .isolated ∧ synced.mu.station ≠ .isolated ∧
      synced.mu.station ≠ .config ∧
      (waiting 0x04 [] synced).port.awaits .leave = true ∧ (waiting 0x04 [] synced).mu.station = .synced ∧
      (∀ c : Chan, ((waiting 0x04 [] synced).chan c).present = true →
        ((waiting 0x04 [] synced).chan c).valve ≠ .stuck) ∧
      ((withValve 0 .stuck synced).chan 0).present = true ∧ ((withValve 0 .stuck synced).chan 0).valve = .stuck ∧
      (waiting 0x04 [] (flowing 0)).port.awaits .leave = true ∧ (flowing 0).RunsSound ∧ (flowing 0).OneHead ∧
      (flowing 0).head 0 = some (runA 4 0 .flowing) ∧ ((flowing 0).chan 0).confirmed = false ∧ synced.bus.tx = none ∧
      (∀ c : Chan, (synced.chan c).present = true → (synced.chan c).valve = .closed) := by
  decide +kernel

theorem witness_AdmissionChecksInOrder :
    let ctx := submitContext (submitArgs 0xFF)
    let s := waiting 0x10 (submitArgs 0xFF) configured
    let faulty := s.setChan 0 { s.chan 0 with faults := ⟨true, false, false⟩ }
    s.inReset = false ∧ s.presentChan (ctx.getD 2 0) = some 0 ∧ s.presentChan 2 = none ∧ (s.chan 0).inFault = false ∧
      (faulty.chan 0).inFault = true ∧ (readRunContext ctx).isSome = true ∧
      readRunContext (submitContext (submitArgs 16)) = none ∧
      6 ≤ (listOf (withRuns (queuedRuns 6 0) s).rm.pool 0).length ∧
      (listOf (withRuns (queuedRuns 5 0) s).rm.pool 0).length < 6 ∧
      24 ≤ (withRuns fullPool s).rm.pool.length ∧ (listOf (withRuns fullPool s).rm.pool 0).length < 6 ∧
      48 ≤ s.rm.pool.length + (s.setLog ⟨List.replicate 48 (recordA 7), 0, 0⟩).log.records.length ∧
      s.port.awaits .submit = true ∧ s.admission (submitContext s.port.args) ≠ .refused .badArg ∧
      (waiting 0x10 (submitArgs 16) configured).admission (submitContext (submitArgs 16)) = .refused .badArg ∧
      (waiting 0x11 (loadArgs 2 0xFF) configured).port.awaits .loadRun = true ∧
      (waiting 0x11 (loadArgs 2 0xFF) configured).admission (loadArgs 2 0xFF) = .refused .channelAbsent := by
  decide +kernel

theorem witness_AdmissionMakesRun :
    let s := waiting 0x10 (submitArgs 2) (synced.setCt { synced.ct with flags := 4 })
    let u := waiting 0x11 (loadArgs 0 3) (synced.setCt { synced.ct with flags := 4 })
    s.inReset = false ∧ s.Stays ∧ s.port.awaits .submit = true ∧
      (s.admission (submitContext s.port.args) =
        .admitted 0 ⟨9, 1, 4, (runA 4 0 .queued).target, Decimal.zero 7, 0, 0, 0, none, some 2, none⟩) ∧
      s.stopSet (some 2) = true ∧ u.port.awaits .loadRun = true ∧
      (u.admission u.port.args =
        .admitted 0 ⟨9, 1, 4, (runA 4 0 .queued).target, ⟨[0, 5, 0, 0, 0, 0, 0], rfl⟩, 2, 7, 1, none, some 3, some 1⟩) ∧
      u.stopSet (some 3) = false := by decide +kernel

theorem witness_CancelEndsRun :
    let s (st : RunState) := waiting 0x12 [4] (withRuns [runA 4 0 st] synced)
    (s .gated).inReset = false ∧ (s .gated).Stays ∧ (s .gated).port.awaits .cancel = true ∧
      findRun (s .gated).rm.pool ((s .gated).port.arg 0).toNat = some (runA 4 0 .gated) ∧
      findRun (s .asking).rm.pool 4 = some (runA 4 0 .asking) ∧ (runA 4 0 .asking).endResult = none ∧
      findRun (s (.closing .halt)).rm.pool 4 = some (runA 4 0 (.closing .halt)) ∧
      findRun (s .gated).rm.pool ((waiting 0x12 [0] synced).port.arg 0).toNat = none ∧
      findRun (flowing 0).rm.pool 4 = some (runA 4 0 .flowing) ∧ (flowing 0).head 0 = some (runA 4 0 .flowing) ∧
      ((flowing 0).chan 0).valve.driven = true ∧ ((flowing 0).chan 0).confirmed = false ∧
      ((closingEnd 0).rm.pool.all fun r => r.endResult.isSome) = true := by decide +kernel

/-- Each kind of gate, at a bound of its operands, and what is refused beside it. -/
theorem test_readGate :
    readGate 0x1F 15 9 9 = some (some (.flagSet 15)) ∧ readGate 0x20 16 0 0 = none ∧
      readGate 0x33 15 0x09 0x99 = some (some (.gauge 15 .lt ⟨9, 9, 9⟩)) ∧ readGate 0x34 15 0 0 = none ∧
      readGate 0x30 15 0x19 0 = none ∧ readGate 0x40 255 0 0 = some (some (.after 255)) ∧ readGate 0x40 0 0 0 = none ∧
      readGate 0x0F 0 0 0 = some none ∧ readGate 0x50 0 0 0 = none := by decide +kernel

theorem witness_RunContextsRead :
    let r := { runA 4 0 .gated with gate := some (.after 255), timeLimit := some 999 }
    1 ≤ r.demand ∧ r.demand ≤ 63 ∧ r.target ≠ Decimal.zero 6 ∧ reaches r.delivered r.target = false ∧
      r.preemptions ≤ 255 ∧ r.openSeconds ≤ 65535 ∧ belowLimit r.openSeconds r.timeLimit = true ∧
      (∀ m ∈ r.timeLimit, 1 ≤ m ∧ m ≤ 999) ∧ r.gate = some (.after 255) := by decide +kernel

theorem witness_NextHandleIsFree :
    let rm : RunUnit := ⟨fullPool, 255⟩
    rm.pool.length ≤ 24 ∧ rm.handleCounter ≤ 255 := by decide +kernel

theorem witness_EvaluationStopsAndPasses :
    let r (st : RunState) : Run := { runA 4 0 st with stopFlag := some 15 }
    let s (st : RunState) (v : Valve) := withValve 0 v (withRuns [r st] (synced.setCt { synced.ct with flags := 0x8000 }))
    let g : Run := { runA 4 0 .gated with gate := some (.flagClear 0), gateSatisfied := false }
    (s .gated .closed).RunsSound ∧ (s .gated .closed).OneHead ∧ (s .gated .closed).stopSet (some 15) = true ∧
      (s .gated .closed).rm.pool = [r .gated] ∧ (s .flowing .opened).RunsSound ∧
      (s .flowing .opened).head 0 = some (r .flowing) ∧ ((s .flowing .opened).chan 0).valve.driven = true ∧
      ((s .flowing .opened).chan 0).confirmed = false ∧ (s (.closing .halt) .closing).RunsSound ∧
      (r (.closing .halt)).endResult = none ∧ (withRuns [g] synced).RunsSound ∧ (withRuns [g] synced).OneHead ∧
      (withRuns [g] synced).stopSet g.stopFlag = false ∧ (withRuns [g] synced).gateOpen g.gate = true ∧
      (withRuns [g] synced).Hears 5 8 := by decide +kernel

theorem witness_HeadSelectionByTable :
    let better (c : Chan) : Run := { runA 9 c .queued with level := 0 }
    let s (c : Chan) (st : RunState) (v : Valve) := withValve c v (withRuns [runA 4 c st, better c] synced)
    let g : Run := { runA 5 0 .gated with gate := some (.after 4), gateSatisfied := false }
    firstEligible synced.rm.pool 0 = none ∧ (s 0 .asking .closed).RunsSound ∧ (s 0 .asking .closed).OneHead ∧
      firstEligible (s 0 .asking .closed).rm.pool 0 = some (better 0) ∧
      (s 0 .queued .closed).head 0 = none ∧ (s 0 .asking .closed).head 0 = some (runA 4 0 .asking) ∧
      (s 0 (.closing .halt) .closing).head 0 = some (runA 4 0 (.closing .halt)) ∧
      (s 0 .flowing .opened).head 0 = some (runA 4 0 .flowing) ∧ (s 0 .flowing .opened).RunsSound ∧
      ((s 0 .flowing .opened).chan 0).valve.driven = true ∧ ((s 0 .flowing .opened).chan 0).confirmed = false ∧
      ((switchAt 1 false (s 1 .flowing .opened)).chan 1).confirmed = true ∧ (s 1 .flowing .opened).RunsSound ∧
      (switchAt 1 false (s 1 .flowing .opened)).head 1 = some (runA 4 1 .flowing) ∧
      firstEligible (withRuns [runA 4 0 .asking] synced).rm.pool 0 = some (runA 4 0 .asking) ∧
      (withRuns [runA 4 0 .asking, g] synced).RunsSound ∧ g.gate = some (.after (runA 4 0 .asking).handle) := by
  decide +kernel

theorem witness_HeadSelectionByTable_departure :
    let r := { runA 4 0 (.closing .ending) with endResult := some .cancelled }
    let s := withRuns [r, runA 5 0 .queued] synced
    s.RunsSound ∧ s.OneHead ∧ r ∈ s.rm.pool ∧ r.state.isHead = true ∧ r.endResult = some .cancelled ∧
      firstEligible (s.depart 4 false).rm.pool 0 = some (runA 5 0 .asking) ∧ s.head 0 = some r := by decide +kernel

theorem witness_ReadChannelAndLogCommands :
    let s (k : Byte) (a : List Byte) (n : Nat) := waiting k a (synced.setLog ⟨List.replicate n (recordA 7), 47, 0⟩)
    (waiting 0x20 [7, 1] synced).port.awaits .readChannel = true ∧
      toChan ((waiting 0x20 [7, 1] synced).port.arg 0) = some 7 ∧
      ((waiting 0x20 [7, 1] synced).port.arg 1).getLsbD 0 = true ∧
      ((waiting 0x20 [7, 2] synced).port.arg 1).getLsbD 0 = false ∧
      8 ≤ ((waiting 0x20 [8, 0] synced).port.arg 0).toNat ∧
      (s 0x30 [] 0).port.awaits .readLog = true ∧ (s 0x30 [] 0).log.records = [] ∧
      (s 0x30 [] 1).log.records = recordA 7 :: [] ∧ (s 0x30 [] 1).log.readPos < 48 ∧
      (s 0x31 [0] 1).port.awaits .peekLog = true ∧
      (s 0x31 [0] 1).log.records[((s 0x31 [0] 1).port.arg 0).toNat]? = some (recordA 7) ∧
      (s 0x31 [1] 1).log.records.length ≤ ((s 0x31 [1] 1).port.arg 0).toNat ∧
      (s 0x32 [] 1).port.awaits .logStatus = true := by decide +kernel

theorem witness_ClearFaultReturnsChannel :
    let s := waiting 0x21 [0] (synced.setChan 0 { synced.chan 0 with
      valve := .stuck, faults := ⟨false, false, true⟩, stuckValues := some (1, 4) })
    s.inReset = false ∧ s.Stays ∧ s.port.awaits .clearFault = true ∧ s.presentChan (s.port.arg 0) = some 0 ∧
      (s.chan 0).inFault = true ∧ (s.chan 0).valve ≠ .closing ∧ (synced.chan 0).inFault = false ∧
      synced.presentChan 2 = none := by decide +kernel

theorem witness_SiteCommandsQueueFrames :
    let halted := synced.setHu { HaltUnit.initial with halt := .halted }
    (waiting 0x42 [] listening).inReset = false ∧
      HostCommand.halt ∈ [HostCommand.setFlags, .setGauge, .halt, .release, .purge, .leave] ∧
      (waiting 0x42 [] listening).port.awaits .halt = true ∧ listening.mu.station ≠ .synced ∧
      listening.mu.station ≠ .resync ∧
      synced.inReset = false ∧ synced.mu.station = .synced ∧ (waiting 0x40 [0, 3, 0, 1] synced).port.awaits .setFlags = true ∧
      (waiting 0x41 [0x19, 0x99] synced).port.awaits .setGauge = true ∧ readGauge (gaugeFieldOf 0x1A 0) = none ∧
      readGauge (gaugeFieldOf 0x19 0x99) = some (some ⟨9, 9, 9⟩) ∧ (waiting 0x42 [] synced).port.awaits .halt = true ∧
      (waiting 0x43 [] halted).port.awaits .release = true ∧ halted.hu.halt = .halted ∧ synced.hu.halt ≠ .halted ∧
      halted.straps.ple = true ∧ halted.hu.ploss = false ∧
      (halted.setHu { halted.hu with ploss := true }).hu.ploss = true ∧
      (waiting 0x44 [15] synced).port.awaits .purge = true ∧ toAddr 15 = some 15 ∧ synced.hasOrphan 15 = false ∧
      (synced.setOrphans [⟨15, 1⟩]).hasOrphan 15 = true ∧ synced.isMember 15 = false := by decide +kernel

theorem witness_ReadsReportAndChangeNothing :
    (waiting 0x50 [] synced).port.awaits .readRoster = true ∧ (waiting 0x52 [] synced).port.awaits .readSite = true ∧
      (waiting 0x53 [] synced).port.awaits .stationStatus = true ∧
      (waiting 0x51 [15, 7] synced).port.awaits .readEntry = true ∧ toAddr 15 = some 15 ∧ toChan 7 = some 7 ∧
      slot synced.ct.table 15 7 = none ∧ slot mayOpen.ct.table 3 0 = some ⟨1, 4, .asking, true, true⟩ ∧
      (waiting 0x13 [4] (flowing 0)).port.awaits .queryRun = true ∧
      findRun (flowing 0).rm.pool 4 = some (runA 4 0 .flowing) ∧ findRun (flowing 0).rm.pool 0 = none := by
  decide +kernel

theorem witness_ReadEventsReportsAndClears :
    (waiting 0x54 [] synced).inReset = false ∧ (waiting 0x54 [] synced).port.awaits .readEvents = true := by
  decide +kernel

theorem witness_RoundsIgnoredFramesAndClash :
    let config := synced.setStation .config
    synced.inReset = false ∧ synced.bus.tx = none ∧ synced.canReceive = true ∧ (0x00 : Byte) ≠ 0xC5 ∧
      (6 : Addr) ≠ synced.own ∧ synced.isMember 6 = false ∧ FrameBody.release.isBeat = false ∧ config.canReceive = true ∧
      config.mu.station = .config ∧ bodyFits (.beat beatA) = true ∧ synced.mu.station ≠ .clash ∧
      (synced.setStation .clash).canReceive = true ∧ (synced.setStation .clash).mu.station = .clash := by decide +kernel

/-- A station that delivers, that is a member or not, with its address in the settle set of a SETTLING halt unit. -/
theorem witness_RoundsIgnoredFramesAndClash_isolates :
    let s := (flowing 0).setHu { HaltUnit.initial with halt := .settling, settle := 8 }
    let u := s.setMember 3 none
    s.canReceive = true ∧ s.mu.station ≠ .clash ∧ s.RunsSound ∧ s.OneHead ∧ s.head 0 = some (runA 4 0 .flowing) ∧
      (s.chan 0).valve.driven = true ∧ (s.chan 0).confirmed = false ∧ s.stopSet (runA 4 0 .flowing).stopFlag = false ∧
      s.isMember s.own = true ∧ u.isMember u.own = false ∧ u.hu.halt = .settling ∧ inSet u.hu.settle u.own = true ∧
      (after (.clashFrameReceived 0 .release) u).hu.settle = 0 ∧
      (after (.clashFrameReceived 0 .release) u).hu.halt = .none := by decide +kernel

/-- The third failure of a station that delivers. -/
theorem witness_TransmissionStartsAndFails_isolates :
    let s := sending .release .release 2 (flowing 0)
    s.inReset = false ∧ s.bus.tx = some ⟨⟨3, 0, .release⟩, .release, 0⟩ ∧ 2 ≤ s.bus.failures ∧ s.RunsSound ∧ s.OneHead ∧
      s.isMember s.own = true ∧ s.head 0 = some (runA 4 0 .flowing) ∧
      (after (.readbackFailure .later) s).rm.pool.map Run.state = [.closing .isolate] := by decide +kernel

theorem witness_TransmissionStartsAndFails :
    let s := synced.setBus { synced.bus with outbound := [.flag 1 2, .release] }
    let l := (withRuns [runA 4 0 .asking] listening).setBus { listening.bus with outbound := [.beat] }
    s.inReset = false ∧ s.bus.access = .fresh ∧ s.bus.tx = none ∧ s.front = some .release ∧
      OutFrame.release.urgent = true ∧ l.front = some .beat ∧ l.mu.station = .listening ∧ l.bus.access = .fresh ∧
      (after (.transmissionStart .urgent) l).bus.access = .urgentPassed ∧ l.bus.outbound.all (fun g => !g.urgent) = true ∧
      (after (.transmissionStart .normal) synced).bus.access = .normalPassed ∧ synced.bus.outbound = [] ∧
      (l.chan 0).present = true ∧ l.head 0 = some (runA 4 0 .asking) ∧ l.head 1 = none ∧
      (l.chan 1).announced = .gone none ∧
      (sending .release .release 1 synced).bus.failures < 2 ∧ 2 ≤ (sending .release .release 2 synced).bus.failures ∧
      (sending .release .release 1 synced).bus.tx = some ⟨⟨3, 0, .release⟩, .release, 0⟩ ∧
      ([OutFrame.beat, .release, .leave]).filter (OutFrame.sameKey .release) = [.release] := by decide +kernel

theorem witness_FrontFrameAndItsContent :
    let s := synced.setBus { synced.bus with outbound := [.beat, .halt 2, .release] }
    s.bus.outbound = [.beat] ++ OutFrame.halt 2 :: [.release] ∧ (OutFrame.halt 2).urgent = true ∧
      OutFrame.beat.urgent = false ∧ s.isMember s.own = true ∧ s.gaugeOf s.own = none ∧
      (synced.setMember 3 (some { memberA 15 with gauge := some ⟨2, 5, 0⟩ })).gaugeOf synced.own = some ⟨2, 5, 0⟩ ∧
      (mayOpen.beatBody.entries = [⟨0, 1, 4, 1, 1⟩]) ∧
      ((withRuns [runA 4 0 .asking] listening).beatBody.entries = [⟨0, 1, 4, 0, 1⟩]) := by decide +kernel

theorem witness_FramesSentClean :
    let s := sending .beat (.beat beatA) 0 listening
    (sending (.flag 1 2) (.flag 1 2) 0 synced).bus.tx = some ⟨⟨3, 0, .flag 1 2⟩, .flag 1 2, 0⟩ ∧
      (sending (.flag 1 2) (.flag 1 2) 0 synced).mu.station = .synced ∧
      (sending .leave .leave 0 (synced.setStation .leaving)).bus.tx = some ⟨⟨3, 0, .leave⟩, .leave, 0⟩ ∧
      synced.isMember synced.own = true ∧
      s.inReset = false ∧ s.bus.tx = some ⟨⟨s.own, s.bus.seq, .beat beatA⟩, .beat, 0⟩ ∧ s.mu.station = .listening ∧
      s.isMember s.own = false ∧
      ((s.setMember 5 (some { memberA 7 with silent := true })).member 5).any Member.silent = true ∧
      (plossAt false (some true) s).pressureLost = true ∧ s.hu.halt ≠ .halted := by decide +kernel

/-- Every kind that a SYNCED station may send, and its BEAT in RESYNC with station 5 in the roster. -/
theorem witness_FramesSentClean_applied :
    (sending .release .release 0 synced).Sends ⟨⟨3, 0, .release⟩, .release, 0⟩ ∧
      (sending (.drop 5) (.drop 5) 0 synced).Sends ⟨⟨3, 0, .drop 5⟩, .drop 5, 0⟩ ∧
      (sending .beat (.beat beatA) 0 resyncing).Sends ⟨⟨3, 0, .beat beatA⟩, .beat, 0⟩ ∧ resyncing.Adopts ∧
      resyncing.isMember 5 = true ∧ (5 : Addr) ≠ resyncing.own ∧
      (after .frameSent (sending (.haltAck 1) (.haltAck 1) 0 (haltedRound (Vector.replicate 16 none) 0))).hu.ackedSet = 8 ∧
      (after .frameSent (sending (.halt 2) (.halt 2) 0 synced)).hu.halt = .halted ∧
      (after .frameSent (sending .beat (.beat beatA) 0 synced)).says 3 2 = some (1, 6, .asking) := by decide +kernel

theorem witness_LostFramesByStationState :
    let dropped := closingEnd 0 |>.setMu { synced.mu with station := .isolated, cause := .selfDrop }
    receiveChars [0xC5, 0, 0, 97] = .error ∧ synced.canReceive = true ∧ synced.mu.station = .synced ∧
      (5 : Addr) ≠ synced.own ∧ synced.isMember 5 = true ∧ resyncing.mu.station = .resync ∧ resyncing.canReceive = true ∧
      resyncing.isMember 5 = true ∧ listening.canReceive = true ∧ listening.mu.station = .listening ∧
      (synced.setStation .config).canReceive = true ∧ (synced.setStation .leaving).canReceive = true ∧
      dropped.mu.station = .isolated ∧ dropped.canReceive = true ∧ dropped.settled = false ∧
      (synced.setMu { synced.mu with station := .isolated, cause := .readback }).mu.cause ≠ .selfDrop ∧
      synced.hasGap ⟨5, 9, .flag 1 2⟩ = true ∧ resyncing.hasGap ⟨5, 9, .flag 1 2⟩ = true ∧
      listening.hasGap ⟨5, 9, .flag 1 2⟩ = true ∧ dropped.hasGap ⟨5, 9, .flag 1 2⟩ = true ∧ dropped.isMember 5 = true ∧
      dropped.StaysOnFrame := by decide +kernel

/-- A station that delivers loses a frame. -/
theorem witness_LostFramesByStationState_closes :
    let s := flowing 0
    s.canReceive = true ∧ s.mu.station = .synced ∧ s.RunsSound ∧ s.OneHead ∧ s.head 0 = some (runA 4 0 .flowing) ∧
      (s.chan 0).valve.driven = true ∧ (s.chan 0).confirmed = false ∧ s.hasGap ⟨5, 9, .flag 1 2⟩ = true ∧
      (after (.receiveError [0xC5, 0, 0, 97]) s).rm.pool.map Run.state = [.closing .resync] ∧
      ((after (.flagFrame 5 9 1 2) s).chan 0).valve = .closing := by decide +kernel

theorem witness_ResyncRestartsAndEnds :
    let alone := synced.setMember 5 none
    receiveChars [0xC5, 0, 0, 97] = .error ∧ alone.canReceive = true ∧ alone.mu.station = .synced ∧
      (∀ d : Addr, d ≠ alone.own → alone.isMember d = false) ∧ (∀ m ∈ alone.member alone.own, m.stale = false) ∧
      resyncing.HearsBeat 5 8 beatA ∧ resyncing.mu.station = .resync ∧
      (∀ d : Addr, d ≠ 5 → ∀ m ∈ resyncing.member d, m.stale = false) ∧ resyncing.HearsBeat 6 0 beatA ∧
      (∃ d : Addr, d ≠ 6 ∧ ((resyncing.member d).any fun m => m.stale) = true) ∧
      ((resyncing.member 5).any fun m => m.lastSeq + 1 != 9) = true ∧ resyncing.Hears 5 8 := by decide +kernel

/-- The same with a silent member and PLOSS# asserted. -/
theorem witness_ResyncRestartsAndEnds_queues :
    let s := plossAt false (some true) (resyncing.setMember 9 (some { memberA 7 with silent := true }))
    s.HearsBeat 5 8 beatA ∧ s.pressureLost = true ∧ s.hu.halt ≠ .halted ∧
      (after (.beatFrame 5 8 beatA) s).bus.outbound = [.drop 9, .halt 2] := by decide +kernel

/-- Premise of the statements on applied frames of members. -/
theorem witness_Hears : synced.Hears 5 8 ∧ listening.Hears 5 8 := by decide +kernel

/-- A station ISOLATED by self-drop whose valve is still closing hears frames too. -/
theorem witness_Hears_isolated :
    ((closingEnd 0).setMu { synced.mu with station := .isolated, cause := .selfDrop }).Hears 5 8 := by decide +kernel

/-- Premise of the statements on applied BEATs: of a member, and of a station that is none. -/
theorem witness_HearsBeat : synced.HearsBeat 5 8 beatA ∧ synced.HearsBeat 15 0 beatA :=
  ⟨by decide +kernel, by decide +kernel⟩

theorem witness_BeatFrameApplied :
    synced.HearsBeat 5 8 beatA ∧ synced.HearsBeat 15 8 beatA ∧ synced.isMember 15 = false ∧
      synced.mu.station = .synced ∧ ((synced.member 5).any fun m => m.lastSeq + 1 != 9) = true ∧
      ((after (.beatFrame 5 8 beatA) synced).says 5 2).isSome = true ∧
      (after (.beatFrame 5 8 beatA) synced).hu.halt = .none ∧ (after (.beatFrame 5 8 beatA) synced).mu.orphans = [] := by
  decide +kernel

/-- Items at the bounds of their fields, and one that is skipped. -/
theorem witness_BeatFrameApplied_items :
    readItem true ⟨7, 3, 63, 1, 1⟩ = some (7, ⟨3, 63, .asking, true, false⟩) ∧
      readItem true ⟨0, 0, 1, 2, 1⟩ = some (0, ⟨0, 1, .asking, false, false⟩) ∧
      readItem false ⟨0, 0, 1, 1, 5⟩ = some (0, ⟨0, 1, .stuck, false, false⟩) ∧ readItem true ⟨0, 0, 64, 1, 1⟩ = none := by
  decide +kernel

/-- The premises under which the notices of a recomputation are taken: a grant, and a revocation. -/
theorem witness_NoticesTaken :
    let s := (mayAsk 0).refreshView
    s.HearsBeat 5 8 beatA ∧ s.RunsSound ∧ s.OneHead ∧ (s.chan 0).confirmed = false ∧ s.canOpen 0 = true ∧
      (slot s.ct.table s.own 0).map Entry.latched = some false ∧
      (∀ r ∈ s.rm.pool, r.stopFlag = none ∧ r.state ≠ .gated) ∧ (flowing 0).HearsBeat 5 8 beatA ∧
      (flowing 0).head 0 = some (runA 4 0 .flowing) ∧ slot (flowing 0).ct.table 3 0 = none := by decide +kernel

theorem witness_BeatViewTaken :
    let s := synced.setOrphans [⟨15, 1⟩, ⟨9, 12⟩]
    (resyncing.HearsBeat 5 8 beatA ∧ resyncing.Adopts) ∧ (listeningNew.HearsBeat 5 8 beatA ∧ listeningNew.Adopts) ∧
      (s.HearsBeat 15 0 beatA ∧ s.Merges ∧ s.isMember 15 = false ∧
        [⟨9, 12⟩] = s.mu.orphans.filter fun o => o.station != 15) ∧
      ((synced.setStation .clash).HearsBeat 5 8 beatA ∧ (synced.setStation .clash).mu.station = .clash) :=
  ⟨by decide +kernel, by decide +kernel, by decide +kernel, by decide +kernel⟩

/-- A BEAT with a halt state code. -/
def beatHalted (n : Byte) : BeatBody := { beatA with haltState := n }

/-- The premises and each kind of state code, in RESYNC with adoption pending, out of HALTED and in it. -/
theorem witness_BeatHaltPartTaken_adopted :
    let s := resyncing.setHu { HaltUnit.initial with halt := .halted }
    (∀ n ∈ [(0 : Byte), 2, 1, 255], s.HearsBeat 5 8 (beatHalted n)) ∧ s.Adopts ∧ s.hu.halt = .halted ∧
      resyncing.hu.halt ≠ .halted ∧ resyncing.Adopts := by decide +kernel

/-- In SYNCED and SETTLING. -/
theorem witness_BeatHaltPartTaken_merged :
    let s := synced.setHu { HaltUnit.initial with halt := .settling, settle := 0x20 }
    (∀ n ∈ [(0 : Byte), 2, 1, 255], s.HearsBeat 5 8 (beatHalted n)) ∧ s.Merges ∧ s.hu.halt = .settling ∧
      (after (.beatFrame 5 8 (beatHalted 0)) s).hu.settle = 0 ∧
      (after (.beatFrame 5 8 (beatHalted 0)) s).hu.halt = .none := by decide +kernel

/-- In CLASH, and the soundness that the closes rest on. -/
theorem witness_BeatHaltPartTaken_ignored :
    (synced.setStation .clash).HearsBeat 5 8 (beatHalted 1) ∧ synced.RunsSound ∧ synced.OneHead := by decide +kernel

/-- A CLAIM of a latched entry clears its mark where the recomputation does not latch it again. -/
theorem test_claim_clears_mark :
    let s := (synced.setTable (setSlot synced.ct.table 5 2 (some ⟨1, 6, .asking, true, false⟩)))
    (slot (after (.claimFrame 5 8 2 1 6 1 0) s).ct.table 5 2).map Entry.latched = some false ∧
      (slot (after (.claimFrame 5 8 2 1 6 1 0) s.refreshView).ct.table 5 2).map Entry.latched = some true := by
  decide +kernel

theorem witness_ClaimFlagGaugeFramesApplied :
    toChan 7 = some 7 ∧ toLevel 3 = some 3 ∧ toDemand 63 = some 63 ∧ toPhase (5 : Byte).toNat = some .stuck ∧
      toCause (1 : Byte).toNat = some .complete ∧ toChan 8 = none ∧ toLevel 4 = none ∧ toDemand 64 = none ∧
      toDemand 0 = none ∧ toPhase (6 : Byte).toNat = none ∧ toCause (0 : Byte).toNat = none := by decide +kernel

theorem witness_DropFrameApplied :
    synced.Hears 5 8 ∧ toAddr 5 = some 5 ∧ (5 : Addr) ≠ synced.own ∧ synced.isMember 5 = true ∧
      toAddr 3 = some synced.own ∧ synced.mu.station.active = true ∧ listening.Hears 5 8 ∧
      toAddr 3 = some listening.own ∧ listening.mu.station.active = false ∧ toAddr 15 = some 15 ∧
      synced.isMember 15 = false ∧ 16 ≤ (16 : Byte).toNat ∧ (withValve 0 .opened synced).isMember 3 = true ∧
      (after (.dropFrame 5 8 3) (withValve 0 .opened synced)).mu.station = .isolated := by decide +kernel

/-- A member whose latched entry leaves a load, and a station that delivers when it is dropped. -/
theorem witness_DropFrameApplied_load :
    let s := synced.setTable (setSlot synced.ct.table 5 7 (some ⟨1, 6, .asking, true, false⟩))
    s.Hears 5 8 ∧ s.ownerLoad 5 = 6 ∧ s.mu.orphans = [] ∧ (after (.dropFrame 5 8 5) s).mu.orphans = [⟨5, 6⟩] ∧
      (flowing 0).Hears 5 8 ∧ (flowing 0).mu.station.active = true ∧ (flowing 0).RunsSound ∧ (flowing 0).OneHead ∧
      (after (.dropFrame 5 8 3) (flowing 0)).mu.station = .isolated ∧
      (after (.dropFrame 5 8 3) synced).mu.station = .listening := by decide +kernel

/-- R161, R165: what the halt unit does when a member that has not acked is dropped, and when the last of the settle set is. -/
theorem witness_ToldHalt :
    let s := haltedRound ((Vector.replicate 16 none).set 3 (some 0)) 0
    let u := synced.setHu { HaltUnit.initial with halt := .settling, settle := 0x20 }
    s.Hears 5 8 ∧ inSet s.hu.ackSet 5 = true ∧ s.hu.acked[(5 : Addr).val] = none ∧
      s.hu.ackedSet = removeAddr s.hu.ackSet 5 ∧ (after (.dropFrame 5 8 5) s).hu.round = .unconfirmed ∧
      (haltedRound (Vector.replicate 16 none) 0).hu.ackedSet ≠ removeAddr s.hu.ackSet 5 ∧
      u.Hears 5 8 ∧ (after (.leaveFrame 5 8) u).hu.halt = .none ∧ (after (.purgeFrame 5 8 5) u).hu.settle = 0 := by
  decide +kernel

theorem witness_PurgeAndLeaveFramesApplied :
    (synced.setOrphans [⟨15, 1⟩]).Hears 5 8 ∧ (synced.setOrphans [⟨15, 1⟩]).hasOrphan 15 = true ∧
      toAddr 15 = some 15 ∧ synced.hasOrphan 5 = false ∧ toAddr 3 = some synced.own ∧
      synced.mu.station.active = true ∧ listening.Hears 5 8 ∧ toAddr 3 = some listening.own ∧
      listening.mu.station.active = false := by decide +kernel

theorem witness_HaltFrameApplied :
    (haltedRound (Vector.replicate 16 none) 0).Hears 5 8 ∧ synced.hu.halt ≠ .halted ∧
      synced.mu.station ≠ .listening ∧ listening.hu.halt ≠ .halted ∧ listening.mu.station = .listening ∧
      (flowing 0).Hears 5 8 ∧ (flowing 0).RunsSound ∧ (flowing 0).OneHead ∧
      (flowing 0).head 0 = some (runA 4 0 .flowing) ∧ ((flowing 0).chan 0).valve.driven = true ∧
      ((flowing 0).chan 0).confirmed = false := by decide +kernel

theorem witness_AckAndReleaseFramesApplied :
    let s := haltedRound (Vector.replicate 16 none) 0
    s.Hears 5 8 ∧ s.hu.round = .opened ∧ inSet s.hu.ackSet 5 = true ∧ s.hu.acked[(5 : Addr).val] = none ∧
      (after (.haltAckFrame 5 8 0) (haltedRound ((Vector.replicate 16 none).set 3 (some 0)) 0)).hu.round =
        .confirmed ∧
      (after (.haltAckFrame 5 8 0) (haltedRound ((Vector.replicate 16 none).set 3 (some 0)) 0x40)).hu.round =
        .unconfirmed ∧
      (after (.haltAckFrame 5 8 0) s).hu.round = .opened ∧ s.hu.halt = .halted ∧ synced.hu.round ≠ .opened ∧
      (plossAt false (some true) s).Hears 5 8 ∧ s.straps.ple = true ∧
      (plossAt false (some true) s).hu.ploss = true ∧ s.mu.station.active = true := by decide +kernel

theorem witness_BusAndRoundTimersExpire :
    (synced.setBus { synced.bus with beatTimer := some 0 }).bus.beatTimer = some 0 ∧ synced.inReset = false ∧
      synced.mu.station.active = true ∧ listening.mu.station.active = false ∧ synced.bus.beatTimer ≠ some 0 ∧
      (synced.setMember 5 (some { memberA 7 with silence := some 0 })).member 5 =
        some { memberA 7 with silence := some 0 } ∧ (∀ m ∈ synced.member 5, m.silence ≠ some 0) ∧
      (listening.setMu { listening.mu with listenWindow := some 0 }).mu.listenWindow = some 0 ∧
      listening.mu.station = .listening ∧ listening.mu.listenWindow ≠ some 0 ∧
      (haltedRound (Vector.replicate 16 none) 0).hu.roundTimer = some 0 ∧
      (haltedRound (Vector.replicate 16 none) 0).hu.round = .opened ∧ synced.hu.roundTimer ≠ some 0 := by decide +kernel

theorem witness_OpenTimerAndSeconds :
    let s := synced.setChan 0 { synced.chan 0 with valve := .opening, openTimer := some 0 }
    let f := (flowing 0).setChan 0 { (flowing 0).chan 0 with accumulator := 1000 }
    s.inReset = false ∧ (s.chan 0).settings = some settingsA ∧ (s.chan 0).openTimer = some 0 ∧
      (s.chan 0).valve = .opening ∧ (synced.chan 0).openTimer ≠ some 0 ∧ (f.chan 0).valve.driven = true ∧
      1000 ≤ (f.chan 0).accumulator ∧ f.head 0 = some (runA 4 0 .flowing) ∧
      (∀ m ∈ (runA 4 0 .flowing).timeLimit, min 65535 ((runA 4 0 .flowing).openSeconds + 1) < m * 60) ∧
      ((flowing 0).chan 0).accumulator < 1000 ∧ 1000 ≤ ({ synced with clock := ⟨7, 1000⟩ } : State).clock.millis ∧
      synced.clock.millis < 1000 := by decide +kernel

theorem witness_TimeLimitAndNoFlowClose :
    let r := { runA 4 0 .flowing with timeLimit := some 1, openSeconds := 59 }
    let s := withValve 0 .opened (withRuns [r] synced)
    let u := s.setChan 0 { s.chan 0 with accumulator := 1000, noFlowTimer := some 0 }
    u.inReset = false ∧ u.Stays ∧ u.RunsSound ∧ u.OneHead ∧ (u.chan 0).valve.driven = true ∧
      (u.chan 0).confirmed = false ∧ u.head 0 = some r ∧ r.state = .flowing ∧ r.timeLimit = some 1 ∧
      1000 ≤ (u.chan 0).accumulator ∧ 1 * 60 ≤ r.openSeconds + 1 ∧ r.openSeconds < 65535 ∧
      (u.chan 0).noFlowTimer = some 0 ∧ (u.chan 0).valve = .opened ∧ (u.chan 0).inFault = false ∧
      (s.chan 0).noFlowTimer ≠ some 0 := by decide +kernel

theorem witness_CloseTimerCompletesOrDeclaresStuck :
    let r := { runA 4 1 (.closing .ending) with endResult := some .cancelled }
    let s := closingEnd 1
    s.inReset = false ∧ s.Stays ∧ (s.chan 1).settings = some settingsB ∧ (s.chan 1).closeTimer = some 0 ∧
      (s.chan 1).valve = .closing ∧ s.head 1 = some r ∧ findRun s.rm.pool r.handle = some r ∧
      settingsB.endSwitch = true ∧ (s.chan 1).vsw ≠ some true ∧ (s.chan 1).inFault = false ∧
      settingsA.endSwitch = false ∧ ((closingEnd 0).chan 0).settings = some settingsA ∧
      ((s.setChan 1 { s.chan 1 with closeTimer := some 1 }).chan 1).closeTimer ≠ some 0 := by decide +kernel

/-- A close under no run, as a configuration begins it. -/
theorem witness_CloseTimerCompletesOrDeclaresStuck_no_run :
    let s := (withValve 1 .closing configured).setChan 1
      { (withValve 1 .closing configured).chan 1 with closeTimer := some 0 }
    s.inReset = false ∧ s.Stays ∧ (s.chan 1).settings = some settingsB ∧ (s.chan 1).valve = .closing ∧
      (s.chan 1).closeTimer = some 0 ∧ s.head 1 = none ∧
      ((after (.closeTimerExpiry 1) s).chan 1).stuckValues = some (3, 63) := by decide +kernel

/-- A head closing for a purpose other than ENDING, at the timer and at the switch. -/
theorem witness_CloseEnded :
    let s := (withValve 1 .closing (withRuns [runA 4 1 (.closing .halt), runA 5 1 .queued] synced)).setChan 1
      { (withValve 1 .closing synced).chan 1 with closeTimer := some 0 }
    s.RunsSound ∧ s.OneHead ∧ s.Stays ∧ s.head 1 = some (runA 4 1 (.closing .halt)) ∧ (s.chan 1).closeTimer = some 0 ∧
      findRun s.rm.pool 4 = some (runA 4 1 (.closing .halt)) ∧ (switchAt 1 true s).switchDue 1 true = true ∧
      ((after (.closeTimerExpiry 1) s).chan 1).valve = .stuck ∧
      (after (.closeTimerExpiry 1) s).head 1 = some (runA 4 1 .asking) ∧
      ((after (.endSwitchAssertion 1) (switchAt 1 true s)).chan 1).valve = .closed := by decide +kernel

theorem witness_PinsMoveAndHold :
    synced.inReset = false ∧ synced.mtrPin 7 ≠ true ∧ synced.switchDue 7 true = false ∧ synced.vswPin 7 ≠ true ∧
      synced.vswPin 7 = false ∧ synced.switchDue 7 false = false ∧ synced.plossReady true = false ∧
      synced.pins.ploss ≠ true ∧ synced.pins.ploss = false ∧ (plossAt true none synced).plossReady true = true ∧
      (plossAt true none synced).hu.plossTaken = false ∧ (plossAt true (some true) synced).hu.ploss = true ∧
      synced.pulseDue 0 = false ∧ (plossAt true (some true) synced).hu.plossTaken = true := by decide +kernel

theorem witness_MeterPulseCredits :
    let near (st : RunState) (e : Option EndResult) : Run :=
      { runA 4 0 st with delivered := ⟨[5, 6, 7, 0, 0, 0, 0], rfl⟩, endResult := e }
    let s (st : RunState) (e : Option EndResult) (v : Valve) := pulseAt 0 (withValve 0 v (withRuns [near st e] synced))
    let u := pulseAt 0 (flowing 0)
    let w := pulseAt 1 (switchAt 1 false (withValve 1 .opened
      (withRuns [{ near .flowing none with channel := 1 }] synced)))
    u.inReset = false ∧ u.Stays ∧ u.RunsSound ∧ u.OneHead ∧ u.pulseDue 0 = true ∧
      (u.chan 0).settings = some settingsA ∧ u.attributed 0 = some (runA 4 0 .flowing) ∧
      reaches (addSaturating (runA 4 0 .flowing).delivered settingsA.quantum) (runA 4 0 .flowing).target = false ∧
      reaches (addSaturating (near .flowing none).delivered settingsA.quantum) (near .flowing none).target = true ∧
      (s .flowing none .opened).RunsSound ∧ (s .flowing none .opened).pulseDue 0 = true ∧
      (s .flowing none .opened).attributed 0 = some (near .flowing none) ∧
      ((s .flowing none .opened).chan 0).confirmed = false ∧ (s (.closing .halt) none .closing).RunsSound ∧
      (s (.closing .halt) none .closing).attributed 0 = some (near (.closing .halt) none) ∧
      (s (.closing .ending) (some .cancelled) .closing).RunsSound ∧
      (s (.closing .ending) (some .cancelled) .closing).attributed 0 = some (near (.closing .ending) (some .cancelled)) ∧
      (pulseAt 0 synced).attributed 0 = none ∧ (pulseAt 0 synced).RunsSound ∧ (pulseAt 0 synced).pulseDue 0 = true ∧
      w.RunsSound ∧ w.OneHead ∧ (w.chan 1).settings = some settingsB ∧ (w.chan 1).confirmed = true ∧ w.pulseDue 1 = true ∧
      w.attributed 1 = some { near .flowing none with channel := 1 } := by decide +kernel

/-- A pulse that detects LEAK, with the leak halting the site. -/
theorem witness_MeterPulseCredits_leak :
    let t := after (.meterPulse (.taken 0)) (pulseAt 0 synced)
    (synced.chan 0).faults.leak = false ∧ (t.chan 0).faults.leak = true ∧ (synced.chan 0).inFault = false ∧
      synced.site.leakHalts = true ∧ synced.mu.station.active = true ∧ t.bus.outbound = [.halt 4] := by decide +kernel

theorem witness_EndSwitchTaken :
    let s := switchAt 1 true synced
    s.inReset = false ∧ s.Stays ∧ (s.chan 1).settings = some settingsB ∧ s.switchDue 1 true = true ∧
      (switchAt 1 false synced).switchDue 1 false = true ∧ settingsB.endSwitch = true ∧
      ((switchAt 1 true (withValve 1 .stuck synced)).chan 1).valve = .stuck ∧
      (switchAt 1 true (withValve 1 .stuck synced)).switchDue 1 true = true ∧
      ((switchAt 1 true (closingEnd 1)).chan 1).valve = .closing ∧ (switchAt 1 true (closingEnd 1)).switchDue 1 true = true ∧
      (s.chan 1).valve = .closed ∧ settingsA.endSwitch = false ∧ ((switchAt 0 true synced).chan 0).settings = some settingsA ∧
      (switchAt 0 true synced).switchDue 0 true = true := by decide +kernel

theorem witness_PressureLossTaken :
    let s := plossAt true (some false) synced
    s.inReset = false ∧ s.straps.ple = true ∧ s.plossReady true = true ∧ s.hu.plossTaken = true ∧ s.hu.ploss = false ∧
      s.mu.station.active = true ∧ (plossAt true (some false) listening).plossReady true = true ∧
      listening.mu.station.active = false ∧ (plossAt false (some true) synced).plossReady false = true ∧
      (plossAt false (some true) synced).hu.ploss = true ∧ (plossAt true none synced).plossReady true = true ∧
      (plossAt true none synced).hu.plossTaken = false ∧
      ({ s with straps := ⟨3, 1, false, false⟩ } : State).straps.ple = false ∧ s.pins.ploss = false := by decide +kernel

theorem witness_StepsOfThePartItself :
    (synced.setHu { synced.hu with ackPending := true }).hu.ackPending = true ∧ synced.mu.station.active = true ∧
      (∀ c : Chan, (synced.chan c).present = true → (synced.chan c).valve = .closed) ∧
      (synced.setStation .leaving).mu.station = .leaving ∧ synced.bus.tx = none ∧
      (configured.setMu { MemberUnit.initial with station := .isolated, cause := .selfDrop }).mu.cause = .selfDrop ∧
      (configured.setMu { MemberUnit.initial with station := .isolated, cause := .readback }).mu.cause = .readback := by
  decide +kernel

theorem witness_NoticesOpenAndClose_grant :
    let s := synced.queued (.claim 1 (.gone 2 .ended))
    mayOpen.RunsSound ∧ mayOpen.head 0 = some (runA 4 0 .asking) ∧ mayOpen.canOpen 0 = true ∧ (mayOpen.chan 0).settings = some settingsA ∧
      (flowing 0).canOpen 0 = false ∧ (flowing 0).mu.station.silent = false ∧ ((flowing 0).derive 0).isSome = true ∧
      synced.derive 1 = none ∧ synced.canOpen 1 = false ∧
      pendingClaim s.bus.outbound 1 = some (.gone 2 .ended) ∧ pendingClaim synced.bus.outbound 1 = none ∧
      ((synced.setChan 1 { synced.chan 1 with announced := .gone (some 2) }).chan 1).announced = .gone (some 2) := by
  decide +kernel

theorem witness_NoticesOpenAndClose_revocation :
    let s := switchAt 1 false (flowing 1)
    (flowing 0).RunsSound ∧ (flowing 0).OneHead ∧ (flowing 0).head 0 = some (runA 4 0 .flowing) ∧
      ((flowing 0).chan 0).present = true ∧ ((flowing 0).chan 0).valve.driven = true ∧
      ((flowing 0).chan 0).confirmed = false ∧ s.RunsSound ∧ s.OneHead ∧ s.head 1 = some (runA 4 1 .flowing) ∧
      (s.chan 1).confirmed = true ∧ (s.chan 1).inFault = false := by decide +kernel

/-- R34: a channel that is granted, one that is revoked, and the state of the notices. -/
theorem witness_NoticesOpenAndClose_recompute :
    let s := (mayAsk 0).refreshView
    let u : State := { s with ct := { s.ct with table := s.allocate.table }, alloc := s.allocate.result }
    0 ∈ s.allocate.granted ∧ u.canOpen 0 = true ∧ s.head 0 = some (runA 4 0 .asking) ∧ s.RunsSound ∧ s.OneHead ∧
      (flowing 0).revoked 0 = true ∧ (flowing 0).allocate.granted = [] ∧
      ((flowing 0).recompute.chan 0).valve = .closing := by decide +kernel

theorem witness_DerivedPhaseAndClaims :
    let stuck := synced.setChan 0 { synced.chan 0 with
      valve := .stuck, faults := ⟨false, false, true⟩, stuckValues := some (3, 63) }
    let leaky := (withRuns [runA 4 0 .asking] synced).setChan 0 { synced.chan 0 with faults := ⟨true, false, false⟩ }
    (synced.chan 7).present = false ∧ (synced.chan 0).present = true ∧ (stuck.chan 0).stuckValues = some (3, 63) ∧
      (stuck.chan 0).valve = .stuck ∧ ((flowing 0).chan 0).valve.driven = true ∧
      (flowing 0).head 0 = some (runA 4 0 .flowing) ∧ ((closingEnd 0).chan 0).valve = .closing ∧
      ((closingEnd 0).head 0).isSome = true ∧ ((withValve 0 .closing synced).head 0) = none ∧
      (leaky.chan 0).inFault = true ∧ (leaky.chan 0).valve = .closed ∧ leaky.head 0 = some (runA 4 0 .asking) ∧
      mayOpen.head 0 = some (runA 4 0 .asking) ∧ (mayOpen.chan 0).inFault = false ∧ synced.head 0 = none ∧
      listening.mu.station.silent = true ∧ synced.mu.station.silent = false ∧
      (mayOpen.derive 0).isSome = true ∧ (mayOpen.chan 0).announced = .gone none ∧ synced.derive 0 = none ∧
      (runA 4 0 .asking).channel = 0 ∧
      ((synced.setChan 0 { synced.chan 0 with announced := .live ⟨.asking, 1, 4⟩ }).chan 0).announced =
        .live ⟨.asking, 1, 4⟩ := by decide +kernel

/-- The two cases of an addition at the ceiling, and the comparison with a limit. -/
theorem witness_DecimalSumIsExact :
    let full : Decimal 7 := Decimal.nines 7
    (addDecimal full settingsA.quantum).2 = true ∧ addSaturating full settingsA.quantum = full ∧
      (addDecimal (Decimal.zero 7) settingsA.quantum).2 = false ∧
      reaches (⟨[9, 4, 0, 0, 0, 0, 0], rfl⟩ : Decimal 7) settingsA.leakLimit = false ∧
      reaches (⟨[0, 5, 0, 0, 0, 0, 0], rfl⟩ : Decimal 7) settingsA.leakLimit = true := by decide +kernel

/-- Each thing that characters may be. -/
theorem witness_FramesReadBack_characters :
    receiveChars [0xC4] = .notSync ∧ receiveChars [] = .fragment ∧ receiveChars [0xC5, 0x20, 0x10] = .fragment ∧
      receiveChars [0xC5, 0x20, 0x10, 96] = .fragment ∧ receiveChars [0xC5, 0x20, 0x10, 97] = .error ∧
      receiveChars (frameChars ⟨3, 1, .leave⟩ ++ [0]) = .frame ⟨3, 1, .leave⟩ ∧
      receiveChars ((frameChars ⟨3, 1, .leave⟩).set 2 0x11) = .error := by decide +kernel

theorem witness_FramesReadBack : bodyFits (.beat { beatA with entries := List.replicate 8 ⟨0, 0, 1, 0, 1⟩ }) = true := by
  decide +kernel

/-- The example of R129, a new key, and frames of a key that is pending. -/
theorem witness_OutboundSetCombines :
    let out := [OutFrame.flag 0x0024 0x0200, .drop 5, .halt 2]
    (∀ h ∈ out, h.sameKey .beat = false) ∧ insertOut .beat out = out ++ [.beat] ∧
      (OutFrame.drop 5).sameKey (.drop 9) = false ∧ (OutFrame.halt 2).sameKey (.halt 4) = true ∧
      insertOut (.halt 4) out = [.flag 0x0024 0x0200, .drop 5, .halt 6] ∧
      insertOut (.flag 0x0200 0x0020) out = [.flag 0x0204 0x0020, .drop 5, .halt 2] ∧
      synced.mu.station.active = true ∧ listening.mu.station = .listening ∧ listening.mu.station.active = false ∧
      (0x0024 : BitVec 16) &&& 0x0200 = 0 := by decide +kernel

theorem witness_TargetSetAndLatches :
    synced.member 5 = some (memberA 7) ∧ (slot mayOpen.ct.table 3 0).isSome = true ∧
      ((slot mayOpen.refreshView.allocate.table 3 0).any fun e => e.placed && e.latched) = true := by decide +kernel

theorem witness_TargetSetIsFirstFit :
    let s := mayOpen.refreshView
    (∀ a : Addr, ∀ m ∈ s.member a, 1 ≤ m.weight) ∧
      (candidateOrder s.clearedTable s.mu.roster s.ct.pointers)[0]? = some (3, 0) ∧
      ((slot s.ct.table 3 0).map Entry.said) = some (1, 4, .asking) ∧
      s.member 3 = some { memberA 15 with silence := none } := by decide +kernel

/-- The premises of the laws that every step keeps hold of a SYNCED station that delivers. -/
theorem witness_StepKeepsLaws :
    (flowing 0).LogSound ∧ mayOpen.TableSound ∧ mayOpen.MarksSound ∧ (flowing 0).MembershipSound ∧
      (flowing 0).OrphansSound ∧ (flowing 0).ResetHeld ∧ (flowing 0).OutboundKeyed ∧ (flowing 0).ValvesSound ∧
      (flowing 0).refreshView.ViewFormed ∧ step (flowing 0) = .next (flowing 0).tick := by
  and_intros <;> first | rfl | decide +kernel

theorem witness_StepKeepsLaws_step : step (flowing 0) = .next (flowing 0).tick := rfl

end Sys2Proof.Tests
end

section
/-!
SUPPORT. What an event that listens again leaves of the controller port: all of it. `State.conclude_bare` leaves out a
station ISOLATED by self-drop; for the port no such premise is needed.
-/

namespace Sys2Proof.Machine

@[simp] theorem State.raiseIf_port (s : State) (p : Bool) (e : SiteEvent) : (s.raiseIf p e).port = s.port := by
  unfold State.raiseIf
  split <;> rfl

@[simp] theorem State.setOrphans_port (s : State) (os : List Orphan) : (s.setOrphans os).port = s.port :=
  State.raiseIf_port _ _ _

@[simp] theorem State.emptyCopy_port (s : State) : s.emptyCopy.port = s.port :=
  (State.setOrphans_port _ _).trans (s.raiseIf_port _ _)

@[simp] theorem State.recompute_port (s : State) : s.recompute.port = s.port := by
  rw [port_of_bare s.recompute_bare, State.setAlloc_port, State.setTable, State.setCt_port]

@[simp] theorem State.evaluateIf_port (s : State) (p : Bool) : (s.evaluateIf p).port = s.port :=
  port_of_bare (s.evaluateIf_bare p)

theorem State.startListening_port (s : State) (failures : Nat) : (s.startListening failures).port = s.port := by
  unfold State.startListening State.setAdoption State.announceGone
  simp

theorem State.relistenTest_port (s : State) : s.relistenTest.port = s.port := by
  unfold State.relistenTest
  split
  · exact State.startListening_port _ 0
  · rfl

theorem State.ackTest_port (s : State) : s.ackTest.port = s.port := by
  rw [port_of_bare s.ackTest_bare]
  rfl

/-- The end of an event leaves the port as it is, also where the station listens again by itself (R150). -/
theorem State.conclude_port (s : State) : s.conclude.port = s.port :=
  calc s.conclude.port
    _ = s.announceAll.ackTest.leaveTest.port := State.relistenTest_port _
    _ = s.announceAll.ackTest.port := port_of_bare (State.leaveTest_bare _)
    _ = s.announceAll.port := State.ackTest_port _
    _ = s.port := port_of_bare s.announceAll_bare

end Sys2Proof.Machine
end

section
/-!
SUPPORT. Admission (R46, R47): what each check answers, and what SUBMIT and LOAD_RUN do with the answer.
-/

namespace Sys2Proof.Machine

/-! ### The six checks in their order -/

section checks

variable {s : State} {ctx : List Byte} {c : Chan} {args : RunArgs}

/-- R46 check 1. -/
theorem State.admission_of_absent (absent : s.presentChan (ctx.getD 2 0) = none) :
    s.admission ctx = .refused .channelAbsent := by
  simp only [State.admission, absent]

/-- R46 check 2. -/
theorem State.admission_of_fault (present : s.presentChan (ctx.getD 2 0) = some c)
    (fault : (s.chan c).inFault = true) : s.admission ctx = .refused .channelFault := by
  simp only [State.admission, present, fault, if_true]

/-- R46 check 3. -/
theorem State.admission_of_badArgs (present : s.presentChan (ctx.getD 2 0) = some c)
    (sound : (s.chan c).inFault = false) (bad : readRunContext ctx = none) : s.admission ctx = .refused .badArg := by
  simp only [State.admission, present, sound, bad, Bool.false_eq_true, if_false]

/-- R46: past its first three checks an admission is decided by the bounds of list, pool and log. -/
theorem State.admission_of_args (present : s.presentChan (ctx.getD 2 0) = some c)
    (sound : (s.chan c).inFault = false) (valid : readRunContext ctx = some args) :
    s.admission ctx = (s.fullness c).elim (.admitted c args) .refused := by
  simp only [State.admission, present, sound, valid]
  cases s.fullness c <;> rfl

/-- R46 check 4. -/
theorem State.fullness_of_list (full : 6 ≤ (listOf s.rm.pool c).length) : s.fullness c = some .listFull :=
  if_pos full

/-- R46 check 5. -/
theorem State.fullness_of_pool (list : (listOf s.rm.pool c).length < 6) (full : 24 ≤ s.rm.pool.length) :
    s.fullness c = some .poolFull :=
  (if_neg list.not_ge).trans (if_pos full)

/-- R46 check 6. -/
theorem State.fullness_of_log (list : (listOf s.rm.pool c).length < 6) (pool : s.rm.pool.length < 24)
    (full : 48 ≤ s.rm.pool.length + s.log.records.length) : s.fullness c = some .logFull :=
  (if_neg list.not_ge).trans ((if_neg pool.not_ge).trans (if_pos full))

/-- R46: there is room for the run in list, pool and log. -/
theorem State.fullness_of_room (list : (listOf s.rm.pool c).length < 6) (pool : s.rm.pool.length < 24)
    (log : s.rm.pool.length + s.log.records.length < 48) : s.fullness c = none :=
  (if_neg list.not_ge).trans ((if_neg pool.not_ge).trans (if_neg log.not_ge))

end checks

/-! ### The port of an accepted admission -/

theorem State.stopAtAdmission_port (s : State) (r : Run) : (s.stopAtAdmission r).port = s.port :=
  port_of_bare ((State.releaseWaiting_bare _ _).trans (State.appendRecord_bare _ _))

theorem State.enterList_port (s : State) (r : Run) : (s.enterList r).port = s.port :=
  port_of_bare ((State.headSelect_bare _ _).trans (State.setPool_bare _ _))

/-- R47: the new run, stopped at once or entered in its list, leaves the port to the command's answer. -/
theorem State.beginRun_port (s : State) (c : Chan) (args : RunArgs) : (s.beginRun c args).port = s.port := by
  unfold State.beginRun
  rw [State.conclude_port]
  split
  · exact State.stopAtAdmission_port _ _
  · exact State.enterList_port _ _

/-- What the port shows after a command depends on the port before it, the result code and the response alone. -/
theorem State.finish_port_congr {s t : State} (same : t.port = s.port) (code : ResultCode) (response : List Byte) :
    (t.finish code response).port = (s.finish code response).port :=
  congrArg (fun p : Port => { p with state := .done, result := code, response := response }) same

/-! ### SUBMIT and LOAD_RUN -/

section commands

variable {s : State} {ctx : List Byte} {time : BitVec 32 → BitVec 32}

theorem State.runAdmission_of_refused {code : ResultCode} (refused : s.admission ctx = .refused code) :
    s.runAdmission ctx time = s.finish code [] := by
  simp only [State.runAdmission, refused, State.refuse]

theorem State.runAdmission_port_of_admitted {c : Chan} {args : RunArgs} (admitted : s.admission ctx = .admitted c args) :
    (s.runAdmission ctx time).port = (s.finish .ok [byteOf s.rm.nextHandle]).port := by
  simp only [State.runAdmission, admitted, State.accept]
  exact State.finish_port_congr (s.beginRun_port c _) _ _

/-- R184: a command the port waits to execute, with RST# high, has its effect. -/
theorem State.onCommand_of_awaits {k : HostCommand} (f : State → State) (released : s.inReset = false)
    (awaits : s.port.awaits k = true) : (s.whenReleased fun s => s.onCommand k f) = f s := by
  simp [State.whenReleased, State.onCommand, released, awaits]

theorem exec_submit (released : s.inReset = false) (awaits : s.port.awaits .submit = true) :
    exec .submit s = .next (s.runAdmission (submitContext s.port.args) fun _ => s.clock.seconds) :=
  congrArg Host.Outcome.next (State.onCommand_of_awaits State.runSubmit released awaits)

theorem exec_loadRun (released : s.inReset = false) (awaits : s.port.awaits .loadRun = true) :
    exec .loadRun s = .next (s.runAdmission s.port.args id) :=
  congrArg Host.Outcome.next (State.onCommand_of_awaits State.runLoadRun released awaits)

end commands

/-- R46 checks 2 to 6 and acceptance, on a present channel. -/
theorem State.admission_of_present {s : State} {ctx : List Byte} {c : Chan}
    (present : s.presentChan (ctx.getD 2 0) = some c) :
    ((s.chan c).inFault = true → s.admission ctx = .refused .channelFault) ∧
    ((s.chan c).inFault = false →
      (readRunContext ctx = none → s.admission ctx = .refused .badArg) ∧
      ∀ args, readRunContext ctx = some args →
        (6 ≤ (listOf s.rm.pool c).length → s.admission ctx = .refused .listFull) ∧
        ((listOf s.rm.pool c).length < 6 →
          (24 ≤ s.rm.pool.length → s.admission ctx = .refused .poolFull) ∧
          (s.rm.pool.length < 24 → 48 ≤ s.rm.pool.length + s.log.records.length →
            s.admission ctx = .refused .logFull) ∧
          (s.rm.pool.length < 24 → s.rm.pool.length + s.log.records.length < 48 →
            s.admission ctx = .admitted c args))) := by
  refine ⟨State.admission_of_fault present, fun sound => ⟨State.admission_of_badArgs present sound, fun args valid => ?_⟩⟩
  rw [State.admission_of_args present sound valid]
  refine ⟨fun full => ?list, fun list => ⟨fun full => ?pool, fun pool full => ?log, fun pool log => ?room⟩⟩
  case list => rw [State.fullness_of_list full]; rfl
  case pool => rw [State.fullness_of_pool list full]; rfl
  case log => rw [State.fullness_of_log list pool full]; rfl
  case room => rw [State.fullness_of_room list pool log]; rfl

end Sys2Proof.Machine
end

section
/-!
SUPPORT. The statements on runs (chapter 3).
-/

namespace Sys2Proof

open Sys2Proof.Machine

/-- Settles O10: each check has its own lemma, and a new run's admission keeps the port up to the answer. -/
theorem admissionChecksInOrder : Obligations.AdmissionChecksInOrder := by
  intro s ctx c code args released
  refine ⟨State.admission_of_absent, State.admission_of_present, fun awaits refused => ?submitRefused,
    fun awaits refused => ?loadRefused, fun awaits admitted => ⟨_, exec_submit released awaits, ?submitAdmitted⟩,
    fun awaits admitted => ⟨_, exec_loadRun released awaits, ?loadAdmitted⟩⟩
  case submitRefused => rw [exec_submit released awaits, State.runAdmission_of_refused refused]
  case loadRefused => rw [exec_loadRun released awaits, State.runAdmission_of_refused refused]
  case submitAdmitted => exact State.runAdmission_port_of_admitted admitted
  case loadAdmitted => exact State.runAdmission_port_of_admitted admitted

end Sys2Proof
end

section
/-!
SUPPORT. The controller port (R183, R196): what taking a command byte does in each port state, and where the bytes of the
READ_EVENTS response hold the events.
-/

namespace Sys2Proof.Machine

/-! ### Taking a command byte -/

/-- R202: with RST# high an event has its effect. -/
theorem State.whenReleased_of_released {s : State} (f : State → State) (released : s.inReset = false) :
    s.whenReleased f = f s := by
  simp [State.whenReleased, released]

theorem exec_commandByteWrite {s : State} (b : Byte) (released : s.inReset = false) :
    exec (.commandByteWrite b) s = .next (s.takeCommandByte b) :=
  congrArg Host.Outcome.next (State.whenReleased_of_released (fun s => s.takeCommandByte b) released)

/-- R186: a command byte written while EXECUTING is lost. -/
theorem State.takeCommandByte_of_executing {s : State} (b : Byte) (executing : s.port.state = .executing) :
    s.takeCommandByte b = s.setSequence :=
  if_pos executing

/-- R183: in every other port state the command byte replaces what the port held, all but the byte last read. -/
theorem State.takeCommandByte_of_not_executing {s : State} (b : Byte) (free : s.port.state ≠ .executing) :
    s.takeCommandByte b = s.setPort
      { s.port with
        state := if argCountOf b = 0 then .executing else .collecting
        command := some b, args := [], response := [], result := .none, sequence := false } :=
  if_neg free

/-! ### The response of READ_EVENTS -/

theorem exec_readEvents {s : State} (released : s.inReset = false) (awaits : s.port.awaits .readEvents = true) :
    exec .readEvents s = .next ((s.setEvents ⟨0, 0⟩).finish .ok s.eventBytes) :=
  congrArg Host.Outcome.next (State.onCommand_of_awaits State.runReadEvents released awaits)

theorem SiteEvent.bit_lt (e : SiteEvent) : e.bit < 12 := by cases e <;> decide

/-- 12.5: the high nibble of the third byte holds the four lowest site-class bits. -/
theorem State.eventByte_two_high (s : State) :
    (s.eventBytes.getD 2 0).extractLsb' 4 4 = s.events.site.extractLsb' 0 4 := by
  have layout : s.eventBytes.getD 2 0 = s.events.site.extractLsb' 0 4 ++ (0#3 ++ BitVec.ofBool s.logNonempty) :=
    BitVec.append_assoc
  rw [layout]
  exact BitVec.extractLsb'_append_eq_left

/-- R179, 12.5: bit 0 of the third byte is LOG_NONEMPTY. -/
theorem State.getLsbD_eventByte_two_zero (s : State) : (s.eventBytes.getD 2 0).getLsbD 0 = s.logNonempty := by
  change (s.events.site.extractLsb' 0 4 ++ 0#3 ++ BitVec.ofBool s.logNonempty).getLsbD 0 = _
  rw [BitVec.getLsbD_append, if_pos Nat.zero_lt_one, BitVec.getLsbD_ofBool]
  rfl

/-- 12.5: an event of the second byte stands there four places below its latched bit. -/
theorem State.hasEvent_eq_eventByte_one (s : State) {e : SiteEvent} (upper : 4 ≤ e.bit) :
    s.hasEvent e = (s.eventBytes.getD 1 0).getLsbD (e.bit - 4) := by
  have inByte : e.bit - 4 < 8 := by have := e.bit_lt; omega
  calc s.hasEvent e
    _ = s.events.site.getLsbD (4 + (e.bit - 4)) := by rw [Nat.add_sub_cancel' upper, State.hasEvent]
    _ = (s.events.site.extractLsb' 4 8).getLsbD (e.bit - 4) := by simp [inByte]

/-- 12.5: an event of the third byte stands there four places above its latched bit. -/
theorem State.hasEvent_eq_eventByte_two (s : State) {e : SiteEvent} (lower : e.bit < 4) :
    s.hasEvent e = (s.eventBytes.getD 2 0).getLsbD (4 + e.bit) := by
  have nibble := congrArg (fun x => x.getLsbD e.bit) s.eventByte_two_high
  simpa [lower, State.hasEvent] using nibble.symm

/-- 12.5: events of the second byte, in the order in which they are listed. -/
theorem State.hasEvents_eq_eventByte_one (s : State) (es : List SiteEvent) (upper : ∀ e ∈ es, 4 ≤ e.bit) :
    es.map s.hasEvent = (es.map fun e => e.bit - 4).map (s.eventBytes.getD 1 0).getLsbD := by
  rw [List.map_map]
  exact List.map_congr_left fun e he => s.hasEvent_eq_eventByte_one (upper e he)

/-- 12.5: events of the third byte, in the order in which they are listed. -/
theorem State.hasEvents_eq_eventByte_two (s : State) (es : List SiteEvent) (lower : ∀ e ∈ es, e.bit < 4) :
    es.map s.hasEvent = (es.map fun e => 4 + e.bit).map (s.eventBytes.getD 2 0).getLsbD := by
  rw [List.map_map]
  exact List.map_congr_left fun e he => s.hasEvent_eq_eventByte_two (lower e he)

end Sys2Proof.Machine
end

section
/-!
SUPPORT. The statements on the controller port and its commands (chapter 11).
-/

namespace Sys2Proof

open Sys2Proof.Machine

/-- Settles O5, by the port's state: EXECUTING or any other. -/
theorem commandByteStartsCommand : Obligations.CommandByteStartsCommand := by
  intro s b released
  rw [exec_commandByteWrite b released]
  refine ⟨fun free => ?taken, fun executing => ?lost⟩
  case taken => rw [State.takeCommandByte_of_not_executing b free]; rfl
  case lost => rw [State.takeCommandByte_of_executing b executing]; rfl

/-- Settles O21: the command answers and clears; then the places of the response, byte by byte. -/
theorem readEventsReportsAndClears : Obligations.ReadEventsReportsAndClears := by
  intro s released awaits
  refine ⟨exec_readEvents released awaits, rfl, rfl, rfl, s.eventByte_two_high, s.getLsbD_eventByte_two_zero,
    ?second, ?third⟩
  case second => exact s.hasEvents_eq_eventByte_one _ (by decide)
  case third => exact s.hasEvents_eq_eventByte_two _ (by decide)

end Sys2Proof
end

section
/-!
SUPPORT. The events of the released part: a step is a chain of events (`step_cases`), each at the grain at which every law
of Safety is kept. A law that each event keeps is kept by every step.
-/

namespace Sys2Proof.Machine

/-- What the laws speak of in a channel: present, driven, CLOSING, CLOSED, in FAULT. -/
def Channel.standing (ch : Channel) : Bool × Bool × Bool × Bool × Bool :=
  (ch.present, ch.valve.driven, ch.valve == .closing, ch.valve == .closed, ch.inFault)

/-- R47: an accepted admission less the end of its event. -/
def State.admitted (s : State) (c : Chan) (args : RunArgs) : State :=
  if s.stopSet args.stopFlag then s.reserve.stopAtAdmission (s.newRun c args) else s.reserve.enterList (s.newRun c args)

/-- R127, R20: a frame is heard, its applier acts, and the allocator recomputes. -/
def State.heed (s : State) (f : Frame) : State := ((s.hear f).applyBody f).recompute

/-- R144: entry to RESYNC up to the closes of its heads. -/
def State.loseSync (s : State) : State :=
  (((s.setStation .resync).raise .syncLost).markStale.setAdoption true).closeAll .resync

/-- R146: entry to LEAVING up to the closes of its heads. -/
def State.startLeaving (s : State) : State :=
  ((s.setStation .leaving).clearStale.setAdoption false).closeAll .leave

/-- R79: the no-flow timer expires: DRY is held, and the head takes its end. -/
def State.runDry (s : State) (c : Chan) : State :=
  let s1 := (s.setChan c { s.chan c with noFlowTimer := none }).addFault c fun f => { f with dry := true }
  match s1.head c with
  | some r => s1.endRun r.handle .noFlow
  | none => s1

/-- One event of the part while RST# is high. -/
inductive Event : State → State → Prop
  | pending (s : State) (q : List Instr) : Event s (s.setPending q)
  | port (s : State) (p : Port) : Event s (s.setPort p)
  | pins (s : State) (p : FieldPins) : Event s (s.setPins p)
  | clock (s : State) (k : Clock) : Event s (s.setClock k)
  | events (s : State) (e : Events) : Event s (s.setEvents e)
  | site (s : State) (v : SiteConfiguration) : Event s (s.setSite v)
  | halt (s : State) (h : HaltUnit) (same : h.halt = s.hu.halt) : Event s (s.setHu h)
  | line (s : State) (b : BusUnit) (set : b.outbound = s.bus.outbound) (tx : b.tx = s.bus.tx) : Event s (s.setBus b)
  | window (s : State) (w : Option Nat) : Event s (s.setMu { s.mu with listenWindow := w })
  | member (s : State) (a : Addr) (f : Member → Member) (same : ∀ m, (f m).capacity = m.capacity) :
      Event s (s.modMember a f)
  | credit (s : State) (h : Nat) (f : Run → Run)
      (same : ∀ r, (f r).handle = r.handle ∧ (f r).channel = r.channel ∧ (f r).state = r.state ∧
        (f r).endResult = r.endResult) : Event s (s.modRun h f)
  | chan (s : State) (c : Chan) (ch : Channel) (same : ch.standing = (s.chan c).standing) : Event s (s.setChan c ch)
  | count (s : State) : Event s s.count
  | configure (s : State) (c : Chan) (set : Option ChannelSettings) (may : s.mayConfigure c set = true)
      (station : s.mu.station = .config) : Event s (s.setChan c ((s.chan c).configure set))
  | listen (s : State) (k : IsolationCause) (n : Nat)
      (station : s.mu.station = .config ∨ s.mu.station = .isolated ∨ s.mu.station = .listening) :
      Event s ((s.setMu { s.mu with station := .listening, cause := k }).startListening n)
  | leave (s : State) (station : s.mu.station.takesSiteCommand = true) : Event s s.startLeaving
  | admission (s : State) (c : Chan) (args : RunArgs) (present : (s.chan c).present = true) (room : s.fullness c = none) :
      Event s (s.admitted c args)
  | endRun (s : State) (h : Nat) (e : EndResult) : Event s (s.endRun h e)
  | clearFault (s : State) (c : Chan) (present : (s.chan c).present = true) : Event s ((s.takeStuckClosed c).clearFaults c)
  | readLog (s : State) : Event s (s.setLog s.log.dropOldest)
  | enqueue (s : State) (f : OutFrame) (other : f ≠ .leave) : Event s (s.enqueue f)
  | announce (s : State) (c : Chan) : Event s (s.announce c)
  | ackTest (s : State) : Event s s.ackTest
  | leaveTest (s : State) : Event s s.leaveTest
  | completeClose (s : State) (c : Chan) (closing : (s.chan c).valve = .closing) : Event s (s.completeClose c)
  | declareStuck (s : State) (c : Chan) (closing : (s.chan c).valve = .closing)
      (present : (s.chan c).present = true) : Event s (s.declareStuck c)
  | releaseStuck (s : State) (c : Chan) (stuck : (s.chan c).valve = .stuck) (present : (s.chan c).present = true) :
      Event s (s.setChan c (s.chan c).releaseStuck)
  | runDry (s : State) (c : Chan) (opened : (s.chan c).valve = .opened) : Event s (s.runDry c)
  | leak (s : State) (c : Chan) (closed : (s.chan c).valve = .closed) :
      Event s (s.addFault c fun f => { f with leak := true })
  | evaluate (s : State) : Event s s.evaluate
  | loseSync (s : State) (station : s.mu.station = .synced) : Event s s.loseSync
  | markStale (s : State) (station : s.mu.station = .resync) : Event s (s.markStale.setAdoption true)
  | enterSynced (s : State) (station : s.mu.station = .resync) : Event s s.enterSynced
  | enterClash (s : State) (tx : s.bus.tx = none) : Event s s.enterClash
  | startFrame (s : State) (m : Moment) (f : OutFrame) (tx : s.bus.tx = none) (front : s.startable m = some f) :
      Event s (s.startFrame f)
  | fail (s : State) (x : Transmission) (m : Mismatch) (tx : s.bus.tx = some x) : Event s (s.returnFrame x m)
  | isolate (s : State) (tx : s.bus.tx = none) : Event s (s.enterIsolated .readback).recompute
  | left (s : State) (x : Transmission) (tx : s.bus.tx = some x) (item : x.item = .leave) :
      Event s (s.countSent x).enterConfig
  | sent (s : State) (x : Transmission) (tx : s.bus.tx = some x) (item : x.item ≠ .leave) :
      Event s ((s.countSent x).heed x.frame)
  | heard (s : State) (f : Frame) (tx : s.bus.tx = none) (other : f.sender ≠ s.own) (station : s.mu.station ≠ .config)
      (known : f.body.isBeat = true ∨ s.isMember f.sender = true) : Event s (s.heed f)

/-- A chain of events. -/
abbrev Chain : State → State → Prop := Relation.ReflTransGen Event

theorem Chain.refl (s : State) : Chain s s := Relation.ReflTransGen.refl
theorem Event.once {s t : State} (h : Event s t) : Chain s t := Relation.ReflTransGen.single h
theorem Chain.trans {s t u : State} (h : Chain s t) (k : Chain t u) : Chain s u := Relation.ReflTransGen.trans h k
theorem Chain.andThen {s t u : State} (h : Chain s t) (k : Event t u) : Chain s u := Relation.ReflTransGen.tail h k

/-- A law that every event keeps is kept by a chain of them. -/
theorem Chain.keep {P : State → Prop} (each : ∀ s t, Event s t → P s → P t) {s t : State} (chain : Chain s t)
    (law : P s) : P t := by
  induction chain with
  | refl => exact law
  | tail _ last ih => exact each _ _ last ih

/-! ### The end of an event -/

theorem Chain.fold {α : Type} (op : State → α → State) (each : ∀ s x, Chain s (op s x)) (xs : List α) (s : State) :
    Chain s (xs.foldl op s) :=
  List.foldlRecOn xs op (motive := fun t => Chain s t) (Chain.refl s) fun t sofar x _ => sofar.trans (each t x)

theorem Chain.announceAll (s : State) : Chain s s.announceAll := Chain.fold _ (fun s c => (Event.announce s c).once) _ s

theorem Chain.relistenTest (s : State) : Chain s s.relistenTest := by
  unfold State.relistenTest
  split
  · next h => exact (Event.listen s .none 0 (.inr (.inl h.1))).once
  · exact .refl s

theorem Chain.conclude (s : State) : Chain s s.conclude :=
  ((((Chain.announceAll s).andThen (.ackTest _)).andThen (.leaveTest _))).trans (Chain.relistenTest _)

theorem Chain.evaluateIf (s : State) (p : Bool) : Chain s (s.evaluateIf p) := by
  unfold State.evaluateIf
  split
  · exact (Event.evaluate s).once
  · exact .refl s

theorem Chain.answer {s t : State} (chain : Chain s t) (code : ResultCode) (response : List Byte) :
    Chain s (t.finish code response) :=
  chain.andThen (.port _ _)

/-! ### Host commands -/

theorem Chain.runSiteConfig (s : State) : Chain s s.runSiteConfig := by
  unfold State.runSiteConfig
  split
  · split
    · exact (Event.site s _).once.answer _ _
    · exact (Chain.refl s).answer _ _
  · exact (Chain.refl s).answer _ _

theorem Chain.runChannelConfig (s : State) : Chain s s.runChannelConfig := by
  unfold State.runChannelConfig
  split
  · next station =>
    split
    · split
      · next may => exact ((Event.configure s _ _ may station).once.trans (Chain.conclude _)).answer _ _
      · exact (Chain.refl s).answer _ _
    · exact (Chain.refl s).answer _ _
  · exact (Chain.refl s).answer _ _

theorem Chain.runJoin (s : State) : Chain s s.runJoin := by
  unfold State.runJoin
  split
  · next may =>
    refine Chain.answer (Chain.trans (Event.listen s .none 0 ?_).once (Chain.conclude _)) _ _
    unfold State.mayJoin at may
    split at may <;> simp_all
  · exact (Chain.refl s).answer _ _

theorem Chain.runLeave (s : State) : Chain s s.runLeave := by
  unfold State.runLeave
  split
  · next may =>
    have station : s.mu.station.takesSiteCommand = true := by simp_all
    exact (((Event.leave s station).once.trans (Chain.announceAll _)).trans (Chain.conclude _)).answer _ _
  · exact (Chain.refl s).answer _ _

/-- What an admission that passes every check rests on. -/
theorem State.present_and_room_of_admitted {s : State} {ctx : List Byte} {c : Chan} {args : RunArgs}
    (admitted : s.admission ctx = .admitted c args) : (s.chan c).present = true ∧ s.fullness c = none := by
  unfold State.admission at admitted
  split at admitted
  · cases admitted
  · next d present =>
    split at admitted
    · cases admitted
    · split at admitted
      · cases admitted
      · split at admitted
        · cases admitted
        · next room =>
          obtain ⟨rfl, rfl⟩ := Admission.admitted.inj admitted
          exact ⟨(Option.filter_eq_some_iff.1 present).2, room⟩

theorem State.beginRun_eq (s : State) (c : Chan) (args : RunArgs) :
    s.beginRun c args = (s.admitted c args).conclude := rfl

theorem Chain.runAdmission (s : State) (ctx : List Byte) (time : BitVec 32 → BitVec 32) :
    Chain s (s.runAdmission ctx time) := by
  unfold State.runAdmission
  split
  · exact (Chain.refl s).answer _ _
  · next admitted =>
    obtain ⟨present, room⟩ := State.present_and_room_of_admitted admitted
    rw [State.beginRun_eq]
    exact ((Event.admission s _ _ present room).once.trans (Chain.conclude _)).answer _ _

theorem Chain.runCancel (s : State) : Chain s s.runCancel := by
  unfold State.runCancel
  split
  · exact ((Event.endRun s _ _).once.trans (Chain.conclude _)).answer _ _
  · exact (Chain.refl s).answer _ _

theorem Chain.runQueryRun (s : State) : Chain s s.runQueryRun := by
  unfold State.runQueryRun
  split <;> exact (Chain.refl s).answer _ _

theorem Chain.clearWrapped (s : State) (c : Chan) (option : Byte) : Chain s (s.clearWrapped c option) := by
  unfold State.clearWrapped
  split
  · exact (Event.chan s c _ (by rfl)).once
  · exact .refl s

theorem Chain.runReadChannel (s : State) : Chain s s.runReadChannel := by
  unfold State.runReadChannel
  split
  · exact (Chain.clearWrapped s _ _).answer _ _
  · exact (Chain.refl s).answer _ _

theorem Chain.runClearFault (s : State) : Chain s s.runClearFault := by
  unfold State.runClearFault
  split
  · exact (Chain.refl s).answer _ _
  · next present =>
    split
    · exact ((Event.clearFault s _ (Option.filter_eq_some_iff.1 present).2).once.trans (Chain.conclude _)).answer _ _
    · exact (Chain.refl s).answer _ _

theorem Chain.runReadLog (s : State) : Chain s s.runReadLog := by
  unfold State.runReadLog
  split
  · exact (Event.readLog s).once.answer _ _
  · exact (Chain.refl s).answer _ _

theorem Chain.runPeekLog (s : State) : Chain s s.runPeekLog := by
  unfold State.runPeekLog
  split <;> exact (Chain.refl s).answer _ _

theorem Chain.runReadEntry (s : State) : Chain s s.runReadEntry := by
  unfold State.runReadEntry
  split <;> exact (Chain.refl s).answer _ _

theorem Chain.siteCommand (s : State) (f : State → State) (chain : Chain s (f s)) : Chain s (s.siteCommand f) := by
  unfold State.siteCommand
  split
  · exact chain
  · exact (Chain.refl s).answer _ _

theorem Chain.queueAnswer (s : State) (f : OutFrame) (other : f ≠ .leave) : Chain s ((s.enqueue f).accept []) :=
  (Event.enqueue s f other).once.answer _ _

theorem Chain.runSetFlags (s : State) : Chain s s.runSetFlags :=
  Chain.siteCommand s _ (Chain.queueAnswer s _ nofun)

theorem Chain.runSetGauge (s : State) : Chain s s.runSetGauge := by
  refine Chain.siteCommand s _ ?_
  split
  · exact Chain.queueAnswer s _ nofun
  · exact (Chain.refl s).answer _ _

theorem Chain.runHalt (s : State) : Chain s s.runHalt :=
  Chain.siteCommand s _ (Chain.queueAnswer s _ nofun)

theorem Chain.runRelease (s : State) : Chain s s.runRelease := by
  refine Chain.siteCommand s _ ?_
  split
  · exact (Chain.refl s).answer _ _
  · split
    · exact (Chain.refl s).answer _ _
    · exact Chain.queueAnswer s _ nofun

theorem Chain.runPurge (s : State) : Chain s s.runPurge := by
  refine Chain.siteCommand s _ ?_
  split
  · exact (Chain.refl s).answer _ _
  · split
    · exact Chain.queueAnswer s _ nofun
    · exact (Chain.refl s).answer _ _

theorem Chain.runBadCommand (s : State) : Chain s s.runBadCommand := by
  unfold State.runBadCommand
  split
  · exact (Chain.refl s).answer _ _
  · exact .refl s

theorem Chain.runCommand (s : State) (k : Option HostCommand) : Chain s (s.runCommand k) := by
  cases k with
  | none => exact Chain.runBadCommand s
  | some k =>
    cases k with
    | siteConfig => exact Chain.runSiteConfig s
    | channelConfig => exact Chain.runChannelConfig s
    | join => exact Chain.runJoin s
    | leave => exact Chain.runLeave s
    | submit => exact Chain.runAdmission s (submitContext s.port.args) fun _ => s.clock.seconds
    | loadRun => exact Chain.runAdmission s s.port.args id
    | cancel => exact Chain.runCancel s
    | queryRun => exact Chain.runQueryRun s
    | readChannel => exact Chain.runReadChannel s
    | clearFault => exact Chain.runClearFault s
    | readLog => exact Chain.runReadLog s
    | peekLog => exact Chain.runPeekLog s
    | logStatus => exact (Chain.refl s).answer _ _
    | setFlags => exact Chain.runSetFlags s
    | setGauge => exact Chain.runSetGauge s
    | halt => exact Chain.runHalt s
    | release => exact Chain.runRelease s
    | purge => exact Chain.runPurge s
    | readRoster => exact (Chain.refl s).answer _ _
    | readEntry => exact Chain.runReadEntry s
    | readSite => exact (Chain.refl s).answer _ _
    | stationStatus => exact (Chain.refl s).answer _ _
    | readEvents => exact (Event.events s _).once.answer _ _

/-! ### The port's cycles -/

theorem Chain.takeCommandByte (s : State) (b : Byte) : Chain s (s.takeCommandByte b) := by
  unfold State.takeCommandByte
  split <;> exact (Event.port s _).once

theorem Chain.takeArgumentByte (s : State) (b : Byte) : Chain s (s.takeArgumentByte b) := by
  unfold State.takeArgumentByte
  split <;> exact (Event.port s _).once

theorem Chain.readResponse (s : State) : Chain s s.readResponse := by
  unfold State.readResponse
  split <;> exact (Event.port s _).once

theorem Chain.writeWhileExecuting (s : State) (cd : Bool) (b : Byte) :
    Chain s (if s.port.state = .executing then s.setSequence
      else if cd then s.takeCommandByte b else s.takeArgumentByte b) := by
  split
  · exact (Event.port s _).once
  · split
    · exact Chain.takeCommandByte s b
    · exact Chain.takeArgumentByte s b

/-! ### Timers -/

theorem Chain.expireBeat (s : State) : Chain s s.expireBeat := by
  unfold State.expireBeat
  split
  · dsimp only
    split
    · exact (Event.line s _ (by rfl) (by rfl)).once.andThen (.enqueue _ _ (by nofun))
    · exact (Event.line s _ (by rfl) (by rfl)).once
  · exact .refl s

theorem Chain.queueDrop (s : State) (a : Addr) : Chain s (s.queueDrop a) := by
  unfold State.queueDrop
  split
  · exact .refl s
  · exact (Event.enqueue s _ (by nofun)).once

theorem Chain.expireSilence (s : State) (a : Addr) : Chain s (s.expireSilence a) := by
  unfold State.expireSilence
  split
  · dsimp only
    split
    · exact (Event.member s a _ (by intro m; rfl)).once.trans (Chain.queueDrop _ a)
    · exact (Event.member s a _ (by intro m; rfl)).once
  · exact .refl s

theorem Chain.expireListen (s : State) : Chain s s.expireListen := by
  unfold State.expireListen
  split
  · exact (Event.window s _).once.andThen (.enqueue _ _ (by nofun))
  · exact .refl s

theorem Chain.raise (s : State) (e : SiteEvent) : Chain s (s.raise e) := (Event.events s _).once

theorem Chain.expireRound (s : State) : Chain s s.expireRound := by
  unfold State.expireRound
  split
  · exact (Event.halt s _ (by rfl)).once.trans (Chain.raise _ _)
  · exact .refl s

theorem Chain.expireRoundTimer (s : State) : Chain s s.expireRoundTimer := by
  unfold State.expireRoundTimer
  split
  · exact (Event.halt s _ (by rfl)).once.trans (Chain.expireRound _)
  · exact .refl s

theorem Chain.expireOpen (s : State) (c : Chan) : Chain s (s.expireOpen c) := by
  unfold State.expireOpen
  dsimp only
  split
  · next h => exact (Event.chan s c _ (by simp [Channel.standing, h.2, Valve.driven, Channel.present, Channel.inFault])).once
  · exact .refl s

theorem Channel.present_of_hasSwitch {ch : Channel} (h : ch.hasSwitch = true) : ch.present = true := by
  unfold Channel.hasSwitch at h
  unfold Channel.present
  cases hs : ch.settings <;> simp_all

theorem Chain.expireClose (s : State) (c : Chan) : Chain s (s.expireClose c) := by
  unfold State.expireClose
  dsimp only
  split
  · next h =>
    refine Chain.trans ?_ (Chain.conclude _)
    split
    · next stuck => exact (Event.declareStuck s c h.2 (Channel.present_of_hasSwitch stuck.1)).once
    · exact (Event.completeClose s c h.2).once
  · exact .refl s

theorem Chain.expireNoFlow (s : State) (c : Chan) : Chain s (s.expireNoFlow c) := by
  unfold State.expireNoFlow
  dsimp only
  split
  · next h => exact (Event.runDry s c h.2).once.trans (Chain.conclude _)
  · exact .refl s

theorem Chain.riseOpenSeconds (s : State) (c : Chan) : Chain s (s.riseOpenSeconds c) := by
  unfold State.riseOpenSeconds
  dsimp only
  split
  · have reset : Chain s (s.setChan c { s.chan c with accumulator := 0 }) := (Event.chan s c _ (by rfl)).once
    split
    · next r _ =>
      have credited := reset.andThen (.credit _ r.handle creditSecond fun _ => ⟨rfl, rfl, rfl, rfl⟩)
      split
      · exact (credited.andThen (.endRun _ _ _)).trans (Chain.conclude _)
      · exact credited
    · exact reset
  · exact .refl s

theorem Chain.riseStationSeconds (s : State) : Chain s s.riseStationSeconds := by
  unfold State.riseStationSeconds
  split
  · exact (Event.clock s _).once
  · exact .refl s

/-! ### Field pins -/

theorem Chain.testCompletion (s : State) (h : Nat) : Chain s (s.testCompletion h) := by
  unfold State.testCompletion
  split
  · split
    · exact (Event.endRun s h _).once
    · exact .refl s
  · exact .refl s

theorem Channel.standing_reloadNoFlow (ch : Channel) : ch.reloadNoFlow.standing = ch.standing := by
  unfold Channel.reloadNoFlow
  split <;> rfl

theorem Chain.takePulse (s : State) (c : Chan) (set : ChannelSettings) : Chain s (s.takePulse c set) := by
  unfold State.takePulse
  split
  · next r _ =>
    refine Chain.trans (Chain.andThen (Event.credit s r.handle _ (by exact fun _ => ⟨rfl, rfl, rfl, rfl⟩)).once
      (.chan _ c _ ?_)) (Chain.testCompletion _ _)
    exact Channel.standing_reloadNoFlow _
  · have counted : Chain s (s.setChan c (((s.chan c).addUnattributed set).totalize set).reloadNoFlow) :=
      (Event.chan s c _ (by exact Channel.standing_reloadNoFlow _)).once
    dsimp only
    split
    · next leaks =>
      refine counted.trans ?_
      have closed : (((s.chan c).addUnattributed set).totalize set).reloadNoFlow.valve = .closed := by
        simp only [Channel.leaks, Bool.and_eq_true, beq_iff_eq] at leaks
        exact leaks.1.1
      unfold State.detectLeak
      dsimp only
      split
      · exact ((Event.leak _ c (by simpa using closed)).once.andThen (.announce _ c)).andThen (.enqueue _ _ (by nofun))
      · exact (Event.leak _ c (by simpa using closed)).once.andThen (.announce _ c)
    · exact counted

theorem Chain.meterPulse (s : State) (c : Chan) : Chain s (s.meterPulse c) := by
  unfold State.meterPulse
  split
  · split
    · exact ((Event.chan s c _ (by rfl)).once.trans (Chain.takePulse _ c _)).trans (Chain.conclude _)
    · exact .refl s
  · exact .refl s

theorem Chain.switchCloses (s : State) (c : Chan) (present : (s.chan c).present = true) :
    Chain s (s.switchCloses c) := by
  unfold State.switchCloses
  split
  · next closing => exact (Event.completeClose s c closing).once
  · next stuck => exact (Event.releaseStuck s c stuck present).once
  · exact .refl s

theorem Chain.assertSwitch (s : State) (c : Chan) : Chain s (s.assertSwitch c) := by
  unfold State.assertSwitch
  split
  · next due =>
    have taken : Chain s (s.setChan c ((s.chan c).takeVsw true)) := (Event.chan s c _ (by rfl)).once
    have present : (s.chan c).present = true := by
      simp only [State.switchDue, Bool.and_eq_true] at due
      exact due.1
    dsimp only
    refine Chain.trans ?_ (Chain.conclude _)
    split
    · exact taken.trans (Chain.switchCloses _ c (by rw [State.chan_setChan_same]; exact present))
    · exact taken
  · exact .refl s

theorem Chain.deassertSwitch (s : State) (c : Chan) : Chain s (s.deassertSwitch c) := by
  unfold State.deassertSwitch
  split
  · exact (Event.chan s c _ (by rfl)).once
  · exact .refl s

theorem Chain.takePloss (s : State) (b : Bool) : Chain s (s.takePloss b) := (Event.halt s _ (by rfl)).once

theorem Chain.plossFalls (s : State) : Chain s s.plossFalls := by
  unfold State.plossFalls
  split
  · dsimp only
    split
    · exact (Chain.takePloss s true).andThen (.enqueue _ _ (by nofun))
    · exact Chain.takePloss s true
  · exact .refl s

theorem Chain.plossRises (s : State) : Chain s s.plossRises := by
  unfold State.plossRises
  split
  · exact Chain.takePloss s false
  · exact .refl s

theorem Chain.plossAtRelease (s : State) (b : Bool) : Chain s (s.plossAtRelease b) := by
  unfold State.plossAtRelease
  split
  · exact Chain.takePloss s b
  · exact .refl s

section released

variable {s : State} (released : s.inReset = false)
include released

theorem Chain.moveMtr (c : Chan) (high : Bool) : Chain s (s.moveMtr c high) := by
  unfold State.moveMtr
  split
  · exact .refl s
  · rw [State.whenReleased_of_released _ (by exact released)]
    exact (Event.pins s _).once.andThen (.chan _ c _ (by rfl))

theorem Chain.moveVsw (c : Chan) (asserted : Bool) : Chain s (s.moveVsw c asserted) := by
  unfold State.moveVsw
  split
  · exact .refl s
  · rw [State.whenReleased_of_released _ (by exact released)]
    exact (Event.pins s _).once.andThen (.chan _ c _ (by rfl))

theorem Chain.movePloss (asserted : Bool) : Chain s (s.movePloss asserted) := by
  unfold State.movePloss
  split
  · exact .refl s
  · rw [State.whenReleased_of_released _ (by exact released)]
    exact (Event.pins s _).once.andThen (.halt _ _ (by rfl))

end released

/-! ### The line -/

theorem Chain.startMoment (s : State) (m : Moment) : Chain s (s.startMoment m) := by
  unfold State.startMoment
  split
  · next may =>
    have tx : s.bus.tx = none := by simp_all
    dsimp only
    have passed : Chain s (s.setBus { s.bus with access := .after m }) := (Event.line s _ (by rfl) (by rfl)).once
    split
    · next front => exact passed.andThen (.startFrame _ m _ tx front)
    · exact passed
  · exact .refl s

theorem Chain.failReadback (s : State) (m : Mismatch) : Chain s (s.failReadback m) := by
  unfold State.failReadback
  split
  · exact .refl s
  · next x tx =>
    have failed : Chain s (s.returnFrame x m) := (Event.fail s x m tx).once
    dsimp only
    split
    · exact ((failed.andThen (.isolate _ rfl)).trans (Chain.evaluateIf _ _)).trans (Chain.conclude _)
    · exact failed

theorem Chain.staleTest (s : State) : Chain s s.staleTest := by
  unfold State.staleTest
  split
  · next h => exact (Event.enterSynced s h.1).once
  · exact .refl s

theorem Chain.lostFrame (s : State) : Chain s s.lostFrame := by
  unfold State.lostFrame
  split
  · next station =>
    exact ((Event.loseSync s station).once.trans (Chain.announceAll _)).trans (Chain.staleTest _)
  · next station => exact (Event.markStale s station).once.trans (Chain.staleTest _)
  · next station =>
    have same : s.setMu { s.mu with station := .listening, cause := s.mu.cause } = s := by
      rw [← station]
      rfl
    have chain := (Event.listen s s.mu.cause s.bus.failures (.inr (.inr station))).once
    rwa [same] at chain
  · exact .refl s

/-- The rest of a frame's application after its recomputation. -/
theorem Chain.afterHeed (s : State) (p q : Bool) :
    Chain s (if q then (s.evaluateIf p).lostFrame else s.evaluateIf p).staleTest.conclude := by
  refine Chain.trans (Chain.trans ?_ (Chain.staleTest _)) (Chain.conclude _)
  split
  · exact (Chain.evaluateIf s p).trans (Chain.lostFrame _)
  · exact Chain.evaluateIf s p

theorem Chain.sendClean (s : State) : Chain s s.sendClean := by
  unfold State.sendClean
  split
  · exact .refl s
  · next x tx =>
    dsimp only
    split
    · next item => exact (Event.left s x tx item).once.trans (Chain.conclude _)
    · next item => exact (Event.sent s x tx item).once.trans (Chain.afterHeed _ _ _)

theorem Chain.applyFrame (s : State) (f : Frame) (tx : s.bus.tx = none) (other : f.sender ≠ s.own)
    (station : s.mu.station ≠ .config) (known : f.body.isBeat = true ∨ s.isMember f.sender = true) :
    Chain s (s.applyFrame f) :=
  (Event.heard s f tx other station known).once.trans (Chain.afterHeed _ _ _)

theorem Chain.classify (s : State) (f : Frame) (tx : s.bus.tx = none) : Chain s (s.classify f) := by
  have noted : Chain s (s.setBus { s.bus with lastSender := f.sender }) := (Event.line s _ (by rfl) (by rfl)).once
  unfold State.classify
  dsimp only
  split
  · split
    · exact noted
    · exact (noted.andThen (.enterClash _ tx)).trans (Chain.conclude _)
  · next other =>
    split
    · exact noted
    · next station =>
      split
      · next b beat => exact noted.trans (Chain.applyFrame _ f tx other station (.inl (by rw [beat]; rfl)))
      · split
        · next member => exact noted.trans (Chain.applyFrame _ f tx other station (.inr member))
        · exact noted

theorem State.tx_of_canReceive {s : State} (may : s.canReceive = true) : s.bus.tx = none := by
  simp only [State.canReceive, Bool.and_eq_true, Option.isNone_iff_eq_none] at may
  exact may.2

theorem Chain.endReception (s : State) : Chain s s.endReception := (Event.line s _ (by rfl) (by rfl)).once

theorem Chain.receiveError (s : State) : Chain s s.receiveError := (Chain.lostFrame s).trans (Chain.conclude _)

theorem Chain.receiveFrame (s : State) (f : Frame) : Chain s (s.receiveFrame f) := by
  unfold State.receiveFrame
  split
  · next may =>
    split
    · exact (Chain.endReception s).trans (Chain.classify _ f (State.tx_of_canReceive (s := s) may))
    · exact (Chain.endReception s).trans (Chain.receiveError _)
  · exact .refl s

theorem Chain.receiveLine (s : State) (chars : List Byte) : Chain s (s.receiveLine chars) := by
  unfold State.receiveLine
  split
  · next may =>
    split
    · exact Chain.endReception s
    · split
      · exact .refl s
      · exact Chain.endReception s
    · exact (Chain.endReception s).trans (Chain.receiveError _)
    · exact (Chain.endReception s).trans (Chain.classify _ _ (State.tx_of_canReceive (s := s) may))
  · exact .refl s

theorem Chain.takeNonSync (s : State) (b : Byte) : Chain s (s.takeNonSync b) := by
  unfold State.takeNonSync
  split
  · exact Chain.endReception s
  · exact .refl s

theorem Chain.detectIdle (s : State) : Chain s s.detectIdle := by
  unfold State.detectIdle
  split
  · exact (Event.line s _ (by rfl) (by rfl)).once
  · exact .refl s

theorem Chain.nextRound (s : State) : Chain s s.nextRound := by
  unfold State.nextRound
  split
  · exact (Event.line s _ (by rfl) (by rfl)).once
  · exact .refl s

/-! ### One millisecond -/

theorem Chain.runWaiting (s : State) : Chain s s.runWaiting := by
  unfold State.runWaiting
  split
  · exact Chain.runCommand s _
  · exact .refl s

theorem Chain.channelDue (s : State) (c : Chan) : Chain s (s.channelDue c) :=
  ((((((Chain.assertSwitch s c).trans (Chain.deassertSwitch _ c)).trans (Chain.meterPulse _ c)).trans
    (Chain.riseOpenSeconds _ c)).trans (Chain.expireOpen _ c)).trans (Chain.expireClose _ c)).trans
    (Chain.expireNoFlow _ c)

theorem Chain.takePlossDue (s : State) : Chain s s.takePlossDue :=
  (((Chain.plossAtRelease s true).trans (Chain.plossAtRelease _ false)).trans (Chain.plossFalls _)).trans
    (Chain.plossRises _)

theorem Chain.takeDue (s : State) : Chain s s.takeDue := by
  have first := ((Chain.riseStationSeconds s).trans (Chain.takePlossDue _)).trans
    ((Chain.fold State.channelDue Chain.channelDue allChans _).trans (Chain.expireBeat _))
  exact ((first.trans (Chain.fold State.expireSilence Chain.expireSilence allAddrs _)).trans
    (Chain.expireListen _)).trans (Chain.expireRoundTimer _)

/-! ### A step -/

/-- What a command, or a step on an empty queue, does with RST# low or high, but for RESET and the release. -/
abbrev State.Runs (s t : State) : Prop :=
  s.inReset = true ∧ (∃ p, t = s.setPins p) ∨ s.inReset = false ∧ Chain s t

theorem State.runs_whenReleased (s : State) (f : State → State) (chain : Chain s (f s)) :
    s.Runs (s.whenReleased f) := by
  unfold State.whenReleased
  split
  · next low => exact .inl ⟨low, s.pins, rfl⟩
  · next high => exact .inr ⟨by simpa using high, chain⟩

theorem State.runs_tick (s : State) : s.Runs s.tick :=
  s.runs_whenReleased _ (((Chain.runWaiting s).trans (Chain.takeDue _)).andThen (.count _))

theorem State.runs_onCommand (s : State) (k : HostCommand) (f : State → State) (chain : Chain s (f s)) :
    s.Runs (s.whenReleased fun s => s.onCommand k f) := by
  refine s.runs_whenReleased _ ?_
  unfold State.onCommand
  split
  · exact chain
  · exact .refl s

theorem State.runs_moveMtr (s : State) (c : Chan) (high : Bool) : s.Runs (s.moveMtr c high) := by
  by_cases low : s.inReset
  · refine .inl ⟨low, ?_⟩
    unfold State.moveMtr State.whenReleased
    split
    · exact ⟨s.pins, rfl⟩
    · exact ⟨_, if_pos low⟩
  · exact .inr ⟨by simpa using low, Chain.moveMtr (by simpa using low) c high⟩

theorem State.runs_moveVsw (s : State) (c : Chan) (asserted : Bool) : s.Runs (s.moveVsw c asserted) := by
  by_cases low : s.inReset
  · refine .inl ⟨low, ?_⟩
    unfold State.moveVsw State.whenReleased
    split
    · exact ⟨s.pins, rfl⟩
    · exact ⟨_, if_pos low⟩
  · exact .inr ⟨by simpa using low, Chain.moveVsw (by simpa using low) c asserted⟩

theorem State.runs_movePloss (s : State) (asserted : Bool) : s.Runs (s.movePloss asserted) := by
  by_cases low : s.inReset
  · refine .inl ⟨low, ?_⟩
    unfold State.movePloss State.whenReleased
    split
    · exact ⟨s.pins, rfl⟩
    · exact ⟨_, if_pos low⟩
  · exact .inr ⟨by simpa using low, Chain.movePloss (by simpa using low) asserted⟩

/-- The state RESET leaves. -/
def State.cleared (s : State) : State :=
  { State.reset with pending := s.pending, inReset := true, straps := s.straps, pins := s.pins, free := s.free }

/-- What any command does: RESET, the release of RST#, or what runs. -/
abbrev State.Becomes (s t : State) : Prop :=
  t = s.cleared ∨ (∃ p, s.inReset = true ∧ t = ((s.setInReset false).setStraps p).setClock ⟨0, 0⟩) ∨ s.Runs t

theorem exec_becomes (i : Instr) (s t : State) (done : exec i s = .next t) : s.Becomes t := by
  have meaning : ∀ u, exec i s = .next u → s.Runs u → s.Runs t := by
    intro u eq runs
    rw [eq] at done
    cases done
    exact runs
  have row : ∀ f, exec i s = .next (s.whenReleased f) → Chain s (f s) → s.Becomes t := fun f eq chain =>
    .inr (.inr (meaning _ eq (s.runs_whenReleased f chain)))
  have host : ∀ k f, exec i s = .next (s.whenReleased fun s => s.onCommand k f) → Chain s (f s) → s.Becomes t :=
    fun k f eq chain => .inr (.inr (meaning _ eq (s.runs_onCommand k f chain)))
  cases i with
  | reset => cases done; exact .inl rfl
  | resetRelease p =>
    have eq := (Host.Outcome.next.inj done).symm
    split at eq
    · next low => exact .inr (.inl ⟨p, low, eq⟩)
    · next high => exact .inr (.inr (.inr ⟨by simpa using high, eq ▸ .refl s⟩))
  | commandByteWrite b => exact row _ rfl (Chain.takeCommandByte s b)
  | argumentByteWrite b => exact row _ rfl (Chain.takeArgumentByte s b)
  | writeWhileExecuting cd b =>
    exact row _ rfl (Chain.writeWhileExecuting s cd b)
  | responseByteRead => exact row _ rfl (Chain.readResponse s)
  | badCommand => exact row _ rfl (Chain.runBadCommand s)
  | siteConfig => exact host _ State.runSiteConfig rfl (Chain.runCommand s (some .siteConfig))
  | channelConfig => exact host _ State.runChannelConfig rfl (Chain.runCommand s (some .channelConfig))
  | join => exact host _ State.runJoin rfl (Chain.runCommand s (some .join))
  | leaveCommand => exact host _ State.runLeave rfl (Chain.runCommand s (some .leave))
  | submit => exact host _ State.runSubmit rfl (Chain.runCommand s (some .submit))
  | loadRun => exact host _ State.runLoadRun rfl (Chain.runCommand s (some .loadRun))
  | cancel => exact host _ State.runCancel rfl (Chain.runCommand s (some .cancel))
  | queryRun => exact host _ State.runQueryRun rfl (Chain.runCommand s (some .queryRun))
  | readChannel => exact host _ State.runReadChannel rfl (Chain.runCommand s (some .readChannel))
  | clearFault => exact host _ State.runClearFault rfl (Chain.runCommand s (some .clearFault))
  | readLog => exact host _ State.runReadLog rfl (Chain.runCommand s (some .readLog))
  | peekLog => exact host _ State.runPeekLog rfl (Chain.runCommand s (some .peekLog))
  | logStatus => exact host _ State.runLogStatus rfl (Chain.runCommand s (some .logStatus))
  | setFlags => exact host _ State.runSetFlags rfl (Chain.runCommand s (some .setFlags))
  | setGauge => exact host _ State.runSetGauge rfl (Chain.runCommand s (some .setGauge))
  | haltCommand => exact host _ State.runHalt rfl (Chain.runCommand s (some .halt))
  | releaseCommand => exact host _ State.runRelease rfl (Chain.runCommand s (some .release))
  | purgeCommand => exact host _ State.runPurge rfl (Chain.runCommand s (some .purge))
  | readRoster => exact host _ State.runReadRoster rfl (Chain.runCommand s (some .readRoster))
  | readEntry => exact host _ State.runReadEntry rfl (Chain.runCommand s (some .readEntry))
  | readSite => exact host _ State.runReadSite rfl (Chain.runCommand s (some .readSite))
  | stationStatus => exact host _ State.runStationStatus rfl (Chain.runCommand s (some .stationStatus))
  | readEvents => exact host _ State.runReadEvents rfl (Chain.runCommand s (some .readEvents))
  | idleDetection => exact row _ rfl (Chain.detectIdle s)
  | accessRoundExpiry => exact row _ rfl (Chain.nextRound s)
  | transmissionStart m => exact row _ rfl (Chain.startMoment s m)
  | readbackFailure m => exact row _ rfl (Chain.failReadback s m)
  | frameSent => exact row _ rfl (Chain.sendClean s)
  | receiveError chars => exact row _ rfl (Chain.receiveLine s chars)
  | nonSyncFirstCharacter b => exact row _ rfl (Chain.takeNonSync s b)
  | frameIgnored | clashFrameReceived | beatFrame | claimFrame | flagFrame | gaugeFrame | dropFrame | purgeFrame
  | leaveFrame | haltFrame | haltAckFrame | releaseFrame =>
    exact row _ rfl (Chain.receiveFrame s _)
  | beatTimerExpiry => exact row _ rfl (Chain.expireBeat s)
  | silenceExpiry a => exact row _ rfl (Chain.expireSilence s a)
  | listenWindowExpiry => exact row _ rfl (Chain.expireListen s)
  | roundTimerExpiry => exact row _ rfl (Chain.expireRoundTimer s)
  | openTimerExpiry c => exact row _ rfl (Chain.expireOpen s c)
  | closeTimerExpiry c => exact row _ rfl (Chain.expireClose s c)
  | noFlowTimerExpiry c => exact row _ rfl (Chain.expireNoFlow s c)
  | openSecondsTick c => exact row _ rfl (Chain.riseOpenSeconds s c)
  | stationSecondsTick => exact row _ rfl (Chain.riseStationSeconds s)
  | meterPulse e =>
    cases e with
    | falls c => exact .inr (.inr (meaning _ rfl (s.runs_moveMtr c false)))
    | rises c => exact .inr (.inr (meaning _ rfl (s.runs_moveMtr c true)))
    | taken c => exact row _ rfl (Chain.meterPulse s c)
  | endSwitchAssertion c =>
    refine .inr (.inr (meaning _ rfl ?_))
    split
    · exact s.runs_whenReleased _ (Chain.assertSwitch s c)
    · exact s.runs_moveVsw c true
  | endSwitchDeassertion c =>
    refine .inr (.inr (meaning _ rfl ?_))
    split
    · exact s.runs_whenReleased _ (Chain.deassertSwitch s c)
    · exact s.runs_moveVsw c false
  | plossFallingEdge =>
    refine .inr (.inr (meaning _ rfl ?_))
    split
    · exact s.runs_whenReleased _ (Chain.plossFalls s)
    · exact s.runs_movePloss true
  | plossRisingEdge =>
    refine .inr (.inr (meaning _ rfl ?_))
    split
    · exact s.runs_whenReleased _ (Chain.plossRises s)
    · exact s.runs_movePloss false
  | plossLevelAtResetRelease b => exact row _ rfl (Chain.plossAtRelease s b)
  | selfDropRelisten => exact row _ rfl (Chain.relistenTest s)
  | leaveQueued => exact .inr (.inr (meaning _ rfl (s.runs_whenReleased _ (Event.leaveTest s).once)))
  | haltAckQueued => exact .inr (.inr (meaning _ rfl (s.runs_whenReleased _ (Event.ackTest s).once)))

/-- A law that reads neither the queue nor the levels at the pins is kept by every step when every event keeps it, and RESET
and the release do. -/
theorem step_keeps {P : State → Prop} (each : ∀ s t, s.inReset = false → Event s t → P s → P t ∧ t.inReset = false)
    (reset : ∀ s, P s → P s.cleared)
    (release : ∀ s p, s.inReset = true → P s → P (((s.setInReset false).setStraps p).setClock ⟨0, 0⟩))
    (pins : ∀ s p, s.inReset = true → P s → P (s.setPins p)) (pending : ∀ s q, P s → P (s.setPending q))
    {s t : State} (law : P s) (done : step s = .next t) : P t := by
  have ofRuns : ∀ u v, State.Runs u v → P u → P v := by
    rintro u v (⟨low, p, rfl⟩ | ⟨high, chain⟩) law
    · exact pins u p low law
    · exact (chain.keep (P := fun w => P w ∧ w.inReset = false) (fun w x one kept => each w x kept.2 one kept.1)
        ⟨law, high⟩).1
  unfold step at done
  split at done
  · cases done
    exact ofRuns _ _ s.runs_tick law
  · next i rest _ =>
    rcases exec_becomes i _ _ done with rfl | ⟨p, low, rfl⟩ | runs
    · exact reset _ (pending s rest law)
    · exact release _ p low (pending s rest law)
    · exact ofRuns _ _ runs (pending s rest law)

end Sys2Proof.Machine
end

section
/-!
SUPPORT. What leaves the runs, valves, outbound set and log alone (`State.plant`), and the chain of small moves that every
operation over runs, valves and notices is made of (`RunSide`): CLAIMs queued, runs moved between states, a run removed
with its record, a valve moved.
-/

namespace Sys2Proof.Machine

/-! ### The site side: what leaves the plant as it is -/

/-- A state without the copy of the site: the claim table unit, the membership unit, the halt unit and the events. -/
def State.plant (s : State) : State :=
  { s with events := ⟨0, 0⟩, ct := ClaimUnit.initial, mu := MemberUnit.initial, hu := HaltUnit.initial }

section plant

variable {s t : State} (h : s.plant = t.plant)
include h

theorem pending_of_plant : s.pending = t.pending := by have e := congrArg State.pending h; exact e
theorem inReset_of_plant : s.inReset = t.inReset := by have e := congrArg State.inReset h; exact e
theorem straps_of_plant : s.straps = t.straps := by have e := congrArg State.straps h; exact e
theorem pins_of_plant : s.pins = t.pins := by have e := congrArg State.pins h; exact e
theorem clock_of_plant : s.clock = t.clock := by have e := congrArg State.clock h; exact e
theorem port_of_plant : s.port = t.port := by have e := congrArg State.port h; exact e
theorem site_of_plant : s.site = t.site := by have e := congrArg State.site h; exact e
theorem alloc_of_plant : s.alloc = t.alloc := by have e := congrArg State.alloc h; exact e
theorem bus_of_plant : s.bus = t.bus := by have e := congrArg State.bus h; exact e
theorem rm_of_plant : s.rm = t.rm := by have e := congrArg State.rm h; exact e
theorem chans_of_plant : s.chans = t.chans := by have e := congrArg State.chans h; exact e
theorem log_of_plant : s.log = t.log := by have e := congrArg State.log h; exact e
theorem free_of_plant : s.free = t.free := by have e := congrArg State.free h; exact e

end plant

theorem State.setMu_plant (s : State) (v : MemberUnit) : (s.setMu v).plant = s.plant := rfl
theorem State.setCt_plant (s : State) (v : ClaimUnit) : (s.setCt v).plant = s.plant := rfl
theorem State.setHu_plant (s : State) (v : HaltUnit) : (s.setHu v).plant = s.plant := rfl

theorem State.raise_plant (s : State) (e : SiteEvent) : (s.raise e).plant = s.plant := rfl

theorem State.raiseIf_plant (s : State) (p : Bool) (e : SiteEvent) : (s.raiseIf p e).plant = s.plant := by
  unfold State.raiseIf
  split <;> rfl

theorem State.modMember_plant (s : State) (a : Addr) (f : Member → Member) : (s.modMember a f).plant = s.plant := rfl

theorem State.refreshView_plant (s : State) : s.refreshView.plant = s.plant := State.raiseIf_plant _ _ _

theorem State.setOrphans_plant (s : State) (os : List Orphan) : (s.setOrphans os).plant = s.plant :=
  State.raiseIf_plant _ _ _

theorem State.dropOrphan_plant (s : State) (a : Addr) : (s.dropOrphan a).plant = s.plant := by
  unfold State.dropOrphan
  split
  · exact s.setOrphans_plant _
  · rfl

theorem State.testRound_plant (s : State) : s.testRound.plant = s.plant := by
  unfold State.testRound
  split
  · split <;> rfl
  · rfl

theorem State.roundRemoval_plant (s : State) (a : Addr) : (s.roundRemoval a).plant = s.plant := by
  unfold State.roundRemoval
  split
  · exact State.testRound_plant _
  · rfl

theorem State.applyHaltAck_plant (s : State) (a : Addr) (m : Byte) : (s.applyHaltAck a m).plant = s.plant := by
  unfold State.applyHaltAck
  split
  · exact State.testRound_plant _
  · rfl

theorem State.testSettle_plant (s : State) : s.testSettle.plant = s.plant := by
  unfold State.testSettle
  split <;> rfl

theorem State.settleRemoval_plant (s : State) (a : Addr) : (s.settleRemoval a).plant = s.plant :=
  State.testSettle_plant _

theorem State.settleOwn_plant (s : State) : s.settleOwn.plant = s.plant := by
  unfold State.settleOwn
  split
  · exact s.settleRemoval_plant _
  · rfl

theorem State.tellHalt_plant (s : State) (a : Addr) : (s.tellHalt a).plant = s.plant :=
  (State.settleRemoval_plant _ a).trans (s.roundRemoval_plant a)

theorem State.removeMember_plant (s : State) (a : Addr) : (s.removeMember a).plant = s.plant := by
  unfold State.removeMember
  split
  · rw [State.tellHalt_plant, State.raise_plant, State.refreshView_plant]
    rfl
  · rfl

theorem State.emptyCopy_plant (s : State) : s.emptyCopy.plant = s.plant := by
  unfold State.emptyCopy
  dsimp only
  rw [State.setOrphans_plant, State.setCt_plant, State.setMu_plant, State.raiseIf_plant]

theorem State.markStale_plant (s : State) : s.markStale.plant = s.plant := by
  unfold State.markStale
  refine fold_leaves State.plant _ _ s fun t a => ?_
  split <;> rfl

theorem State.clearStale_plant (s : State) : s.clearStale.plant = s.plant := rfl

theorem State.setAdoption_plant (s : State) (b : Bool) : (s.setAdoption b).plant = s.plant := rfl

theorem State.setStation_plant (s : State) (st : StationState) : (s.setStation st).plant = s.plant := rfl

theorem State.applyClaim_plant (s : State) (a : Addr) (c l d p k : Byte) : (s.applyClaim a c l d p k).plant = s.plant := by
  unfold State.applyClaim
  split
  · split
    · split
      · dsimp only
        split <;> rfl
      · rfl
    · split <;> rfl
  · rfl

theorem State.dropMember_plant (s : State) (a : Addr) : (s.dropMember a).plant = s.plant := by
  unfold State.dropMember
  dsimp only
  rw [State.removeMember_plant]
  split
  · exact s.setOrphans_plant _
  · rfl

theorem State.applyLeave_plant (s : State) (a : Addr) : (s.applyLeave a).plant = s.plant := by
  unfold State.applyLeave
  split
  · rfl
  · exact s.removeMember_plant a

/-! ### The run side -/

/-- What stays of a run while it moves between states: its handle and the values it was admitted with. -/
def Run.ident (r : Run) : Run := { r with state := .gated, preemptions := 0, gateSatisfied := false, endResult := none }

/-- A small move of the operations over runs, valves and the outbound set. -/
inductive RunMove : State → State → Prop
  | claim (s : State) (c : Chan) (k : ClaimContent) : RunMove s (s.queueClaim c k)
  | pool (s : State) (p : List Run) (same : p.map Run.ident = s.rm.pool.map Run.ident) : RunMove s (s.setPool p)
  | valve (s : State) (c : Chan) (ch : Channel) (bare : ch.bare = (s.chan c).bare)
      (announced : ch.announced = (s.chan c).announced) : RunMove s (s.setChan c ch)
  | remove (s : State) (r : Run) (b : Bool) (live : r ∈ s.rm.pool) : RunMove s (s.removeRun r b)

/-- A chain of small moves. -/
abbrev RunSide : State → State → Prop := Relation.ReflTransGen RunMove

theorem RunSide.refl (s : State) : RunSide s s := Relation.ReflTransGen.refl
theorem RunSide.trans {s t u : State} (h : RunSide s t) (k : RunSide t u) : RunSide s u :=
  Relation.ReflTransGen.trans h k
theorem RunMove.once {s t : State} (h : RunMove s t) : RunSide s t := Relation.ReflTransGen.single h

theorem RunSide.keep {P : State → Prop} (each : ∀ s t, RunMove s t → P s → P t) {s t : State} (chain : RunSide s t)
    (law : P s) : P t := by
  induction chain with
  | refl => exact law
  | tail _ last ih => exact each _ _ last ih

theorem RunSide.fold {α : Type} (op : State → α → State) (each : ∀ s x, RunSide s (op s x)) (xs : List α) (s : State) :
    RunSide s (xs.foldl op s) :=
  List.foldlRecOn xs op (motive := fun t => RunSide s t) (RunSide.refl s) fun t sofar x _ => sofar.trans (each t x)

theorem RunSide.queueClaim (s : State) (c : Chan) (k : ClaimContent) : RunSide s (s.queueClaim c k) :=
  (RunMove.claim s c k).once

theorem RunSide.map (s : State) (f : Run → Run) (same : ∀ r ∈ s.rm.pool, (f r).ident = r.ident) :
    RunSide s (s.setPool (s.rm.pool.map f)) := by
  refine (RunMove.pool s _ ?_).once
  rw [List.map_map]
  exact List.map_congr_left same

theorem RunSide.modRun (s : State) (h : Nat) (f : Run → Run) (same : ∀ r, (f r).ident = r.ident) :
    RunSide s (s.modRun h f) :=
  RunSide.map s _ fun r _ => by
    split
    · exact same r
    · rfl

theorem RunSide.setRunState (s : State) (h : Nat) (st : RunState) : RunSide s (s.setRunState h st) :=
  RunSide.modRun s h _ fun _ => rfl

theorem RunSide.setChan (s : State) (c : Chan) (ch : Channel) (bare : ch.bare = (s.chan c).bare)
    (announced : ch.announced = (s.chan c).announced) : RunSide s (s.setChan c ch) :=
  (RunMove.valve s c ch bare announced).once

theorem Channel.beginClose_announced (ch : Channel) : ch.beginClose.announced = ch.announced := by
  unfold Channel.beginClose
  split <;> rfl

theorem RunSide.beginClose (s : State) (c : Chan) : RunSide s (s.setChan c (s.chan c).beginClose) :=
  RunSide.setChan s c _ (Channel.beginClose_bare _) (Channel.beginClose_announced _)

theorem RunSide.endClose (s : State) (c : Chan) : RunSide s (s.setChan c (s.chan c).endClose) :=
  RunSide.setChan s c _ (Channel.endClose_bare _) rfl

theorem RunSide.announce (s : State) (c : Chan) : RunSide s (s.announce c) := by
  unfold State.announce
  split
  · exact .refl s
  · exact .queueClaim s c _
  · exact .queueClaim s c _
  · split
    · exact .refl s
    · exact .queueClaim s c _

theorem RunSide.announceAll (s : State) : RunSide s s.announceAll := RunSide.fold _ RunSide.announce _ s

theorem RunSide.queueCurrent (s : State) (c : Chan) : RunSide s (s.queueCurrent c) := by
  unfold State.queueCurrent
  split
  · exact .queueClaim s c _
  · split <;> exact .queueClaim s c _

theorem RunSide.pickHead (s : State) (c : Chan) : RunSide s (s.pickHead c) := by
  unfold State.pickHead
  split
  · exact .setRunState s _ _
  · exact .refl s

theorem RunSide.requeue (s : State) (c : Chan) (h : Nat) : RunSide s (s.requeue c h) :=
  (RunSide.setRunState s h .queued).trans (RunSide.pickHead _ c)

theorem RunSide.preempt (s : State) (c : Chan) (r : Run) : RunSide s (s.preempt c r) := by
  have marked : RunSide s (s.modRun r.handle fun q =>
      { q with state := .closing .preemptLocal, preemptions := min 255 (q.preemptions + 1) }) :=
    RunSide.modRun s _ _ fun _ => rfl
  unfold State.preempt
  dsimp only
  split
  · refine marked.trans (RunSide.trans (RunSide.setChan _ c _ ?_ ?_) (RunSide.requeue _ c _))
    · exact (Channel.endClose_bare _).trans (Channel.beginClose_bare _)
    · exact Channel.beginClose_announced _
  · exact marked.trans (RunSide.beginClose _ c)

theorem RunSide.headSelect (s : State) (c : Chan) : RunSide s (s.headSelect c) := by
  unfold State.headSelect
  split
  · exact .pickHead s c
  · split
    · split
      · exact .refl s
      · exact (RunSide.setRunState s _ _).trans (RunSide.setRunState _ _ _)
    · split
      · exact .refl s
      · exact .preempt s c _
    · exact .refl s

theorem RunSide.headSelectAll (s : State) (cs : List Chan) : RunSide s (s.headSelectAll cs) :=
  RunSide.fold _ RunSide.headSelect cs s

theorem RunSide.passing (s : State) (p : Run → Bool) :
    RunSide s (s.setPool (s.rm.pool.map fun r => if p r then passGate r else r)) :=
  RunSide.map s _ fun r _ => by
    split <;> rfl

theorem RunSide.releaseWaiting (s : State) (h : Nat) : RunSide s (s.releaseWaiting h) :=
  (RunSide.passing s (waitsOn h)).trans (RunSide.headSelectAll _ _)

theorem RunSide.queueDeparture (s : State) (r : Run) : RunSide s (s.queueDeparture r) := by
  unfold State.queueDeparture
  dsimp only
  split <;> first | exact .queueClaim s _ _ | exact .refl s

theorem RunSide.depart (s : State) (h : Nat) (b : Bool) : RunSide s (s.depart h b) := by
  unfold State.depart
  split
  · exact .refl s
  · next r found =>
    have gone := ((RunMove.remove s r b (List.mem_of_find?_eq_some found)).once.trans
      (RunSide.releaseWaiting _ h)).trans (RunSide.headSelect _ r.channel)
    dsimp only
    split
    · exact gone.trans (RunSide.queueDeparture _ r)
    · exact gone

theorem RunSide.completeClose (s : State) (c : Chan) : RunSide s (s.completeClose c) := by
  unfold State.completeClose
  dsimp only
  split
  · split
    · exact (RunSide.endClose s c).trans (RunSide.depart _ _ _)
    · exact (RunSide.endClose s c).trans (RunSide.requeue _ c _)
    · exact RunSide.endClose s c
  · exact RunSide.endClose s c

theorem RunSide.demandClose (s : State) (c : Chan) (p : Purpose) : RunSide s (s.demandClose c p) := by
  unfold State.demandClose
  split
  · split
    · have closing := (RunSide.setRunState s ‹Run›.handle (.closing p)).trans (RunSide.beginClose _ c)
      dsimp only
      split
      · exact closing.trans (RunSide.completeClose _ c)
      · exact closing
    · exact .refl s
  · exact .refl s

theorem RunSide.closeAll (s : State) (p : Purpose) : RunSide s (s.closeAll p) :=
  RunSide.fold _ (fun t c => RunSide.demandClose t c p) allChans s

theorem RunSide.endRun (s : State) (h : Nat) (e : EndResult) : RunSide s (s.endRun h e) := by
  unfold State.endRun
  split
  · exact .refl s
  · split
    · exact .refl s
    · have ended : RunSide s (s.modRun h fun q => { q with endResult := some e }) := RunSide.modRun s h _ fun _ => rfl
      dsimp only
      split
      · exact ended.trans (RunSide.depart _ _ _)
      · exact ended.trans (RunSide.depart _ _ _)
      · exact ended.trans (RunSide.depart _ _ _)
      · exact ended.trans (RunSide.demandClose _ _ _)
      · exact ended.trans (RunSide.setRunState _ _ _)

theorem RunSide.grantNotice (s : State) (c : Chan) : RunSide s (s.grantNotice c) := by
  unfold State.grantNotice
  split
  · split
    · exact ((RunSide.setRunState s _ .flowing).trans (RunSide.setChan _ c _ (Channel.beginOpen_bare _) rfl)).trans
        (RunSide.announce _ c)
    · exact .refl s
  · exact .queueCurrent s c

theorem RunSide.revocationNotice (s : State) (c : Chan) : RunSide s (s.revocationNotice c) :=
  (RunSide.demandClose s c .revoked).trans (RunSide.queueCurrent _ c)

theorem RunSide.notices (s : State) (granted revoked : List Chan) : RunSide s (s.notices granted revoked) := by
  refine RunSide.fold _ (fun t c => ?_) allChans s
  split
  · exact .grantNotice t c
  · split
    · exact .revocationNotice t c
    · exact .refl t

theorem RunSide.recompute (s : State) :
    RunSide ((s.setTable s.allocate.table).setAlloc s.allocate.result) s.recompute :=
  RunSide.notices _ _ _

theorem RunSide.stopWatch (s : State) : RunSide s s.stopWatch :=
  RunSide.fold _ (fun t h => RunSide.endRun t h .stopped) _ s

theorem RunSide.gateTest (s : State) : RunSide s s.gateTest :=
  (RunSide.passing s s.passes).trans (RunSide.headSelectAll _ _)

theorem RunSide.evaluate (s : State) : RunSide s s.evaluate := (RunSide.stopWatch s).trans (RunSide.gateTest _)

theorem RunSide.evaluateIf (s : State) (p : Bool) : RunSide s (s.evaluateIf p) := by
  unfold State.evaluateIf
  split
  · exact .evaluate s
  · exact .refl s

/-! ### What a chain of small moves keeps -/

theorem RunMove.bare {s t : State} (h : RunMove s t) : t.bare = s.bare := by
  cases h with
  | claim c k => exact s.queueClaim_bare c k
  | pool p same => rfl
  | valve c ch bare announced => exact s.setChan_bare c ch bare
  | remove r b live => rfl

theorem RunSide.bare {s t : State} (h : RunSide s t) : t.bare = s.bare :=
  h.keep (P := fun u => u.bare = s.bare) (fun _ _ one same => one.bare.trans same) rfl

theorem State.queueClaim_outbound (s : State) (c : Chan) (k : ClaimContent) :
    (s.queueClaim c k).bus.outbound =
      if s.mu.station.silent then s.bus.outbound else insertOut (.claim c k) s.bus.outbound := by
  unfold State.queueClaim
  split
  · rfl
  · next loud =>
    have takes : s.mu.station.takes (.claim c k) = true := by
      cases st : s.mu.station <;> first | rfl | (rw [st] at loud; exact absurd rfl loud)
    show (s.enqueue (.claim c k)).bus.outbound = _
    rw [State.enqueue_outbound, if_pos takes]

/-- A small move queues a CLAIM, in a station state that queues CLAIMs, or leaves the outbound set as it is. -/
theorem RunMove.outbound {s t : State} (h : RunMove s t) :
    t.bus.outbound = s.bus.outbound ∨
      s.mu.station.silent = false ∧ ∃ c k, t.bus.outbound = insertOut (.claim c k) s.bus.outbound := by
  cases h with
  | claim c k =>
    rw [State.queueClaim_outbound]
    split
    · exact .inl rfl
    · next loud => exact .inr ⟨by simpa using loud, c, k, rfl⟩
  | pool p same => exact .inl rfl
  | valve c ch bare announced => exact .inl rfl
  | remove r b live => exact .inl rfl

theorem RunSide.keyed {s t : State} (h : RunSide s t) (keyed : s.OutboundKeyed) : t.OutboundKeyed := by
  refine h.keep (P := State.OutboundKeyed) (fun u v one keyed => ?_) keyed
  rcases one.outbound with same | ⟨-, c, k, queued⟩
  · unfold State.OutboundKeyed
    rw [same]
    exact keyed
  · unfold State.OutboundKeyed
    rw [queued]
    exact insertOut_keyed _ _ keyed

theorem mu_of_runSide {s t : State} (h : RunSide s t) : t.mu = s.mu := mu_of_bare h.bare

/-- In a silent station state the operations over runs queue nothing. -/
theorem RunSide.silent {s t : State} (h : RunSide s t) (silent : s.mu.station.silent = true) :
    t.bus.outbound = s.bus.outbound := by
  refine (h.keep (P := fun u => u.mu = s.mu ∧ u.bus.outbound = s.bus.outbound) (fun u v one kept => ?_) ⟨rfl, rfl⟩).2
  obtain ⟨mu, same⟩ := kept
  refine ⟨(mu_of_bare one.bare).trans mu, ?_⟩
  rcases one.outbound with unchanged | ⟨loud, -⟩
  · exact unchanged.trans same
  · rw [mu, silent] at loud
    cases loud

theorem handles_of_ident {p q : List Run} (same : p.map Run.ident = q.map Run.ident) :
    p.map Run.handle = q.map Run.handle := by
  have e := congrArg (List.map Run.handle) same
  rw [List.map_map, List.map_map] at e
  exact e

theorem length_of_ident {p q : List Run} (same : p.map Run.ident = q.map Run.ident) : p.length = q.length := by
  have e := congrArg List.length same
  rwa [List.length_map, List.length_map] at e

theorem State.queueClaim_rm (s : State) (c : Chan) (k : ClaimContent) : (s.queueClaim c k).rm = s.rm := by
  unfold State.queueClaim State.enqueue
  split
  · rfl
  · split <;> rfl

theorem State.removeRun_length (s : State) {r : Run} (b : Bool) (live : r ∈ s.rm.pool) :
    (s.removeRun r b).rm.pool.length + 1 = s.rm.pool.length := by
  have taken := List.length_eraseP_of_mem (p := fun q : Run => q.handle == r.handle) live (by simp)
  have some := List.length_pos_of_mem live
  show (s.rm.pool.eraseP fun q => q.handle == r.handle).length + 1 = _
  omega

/-- R171, R173, R174: a small move keeps the bounds of log and pool and the reservation count. -/
theorem RunMove.logSound {s t : State} (h : RunMove s t) (sound : s.LogSound) : t.LogSound := by
  cases h with
  | claim c k =>
    have log : (s.queueClaim c k).log = s.log := log_of_roll (s.queueClaim_roll c k)
    unfold State.LogSound
    rw [log, State.queueClaim_rm]
    exact sound
  | pool p same =>
    have length := length_of_ident same
    unfold State.LogSound
    show s.log.reservations = p.length ∧ _ ∧ _ ∧ p.length ≤ _
    rw [length]
    exact sound
  | valve c ch bare announced => exact sound
  | remove r b live =>
    obtain ⟨count, bound, place, pool⟩ := sound
    have length := s.removeRun_length b live
    have records : (s.removeRun r b).log.records.length = s.log.records.length + 1 := List.length_append
    have reservations : (s.removeRun r b).log.reservations = s.log.reservations - 1 := rfl
    refine ⟨?_, ?_, place, ?_⟩ <;> omega

theorem RunSide.logSound {s t : State} (h : RunSide s t) (sound : s.LogSound) : t.LogSound :=
  h.keep (P := State.LogSound) (fun _ _ one => one.logSound) sound

/-- R174, R176: a small move only appends to the log. -/
theorem RunMove.records {s t : State} (h : RunMove s t) : s.log.records <+: t.log.records := by
  cases h with
  | claim c k => rw [log_of_roll (s.queueClaim_roll c k)]
  | pool p same => exact List.prefix_rfl
  | valve c ch bare announced => exact List.prefix_rfl
  | remove r b live => exact List.prefix_append _ _

theorem RunSide.records {s t : State} (h : RunSide s t) : s.log.records <+: t.log.records :=
  h.keep (P := fun u => s.log.records <+: u.log.records) (fun _ _ one grown => grown.trans one.records) List.prefix_rfl

end Sys2Proof.Machine
end

section
/-!
SUPPORT. A law of the plant: kept by what leaves the plant alone, by the small moves of the run side, by queueing, and by
an emptied outbound set. Such a law is kept by every operation of the membership and halt units and by every applied frame.
-/

namespace Sys2Proof.Machine

/-- R149: what an entry to ISOLATED has done before ack pending and the outbound set are cleared. -/
def State.isolating (s : State) (cause : IsolationCause) : State :=
  let s1 := (s.setMu { s.mu with station := .isolated, cause := cause, listenWindow := none }).raise .isolated
  (((s1.removeMember s1.own).settleOwn.clearStale.setAdoption false).closeAll .isolate).announceGone

theorem State.enterIsolated_eq (s : State) (cause : IsolationCause) :
    s.enterIsolated cause = ((s.isolating cause).setHu { (s.isolating cause).hu with ackPending := false }).setBus
      { (s.isolating cause).bus with outbound := [], failures := 0, beatTimer := none } := rfl

/-- R151: what an entry to CLASH has done before ack pending and the outbound set are cleared. -/
def State.clashing (s : State) : State :=
  let s1 := (s.setMu { s.mu with station := .clash, listenWindow := none }).raise .clash
  ((s1.removeMember s1.own).settleOwn.clearStale.setAdoption false).closeAll .isolate

/-- R151: an entry to CLASH before its recomputation. -/
def State.clashed (s : State) : State :=
  (s.clashing.setHu { s.clashing.hu with ackPending := false }).setBus
    { s.clashing.bus with outbound := [], beatTimer := none }

theorem State.enterClash_eq (s : State) : s.enterClash = s.clashed.recompute.evaluateIf (s.isMember s.own) := by
  unfold State.enterClash State.clashed State.clashing
  dsimp only

/-- R164: the turn from HALTED to SETTLING, before PLOSS# is looked at. -/
def State.turnToSettling (s : State) : State :=
  let settle := if s.mu.station = .listening then insertAddr s.rosterSet s.own else s.rosterSet
  (s.setHu { s.hu.clearRound with halt := .settling, ackPending := false, settle := settle }).testSettle.raise
    .haltReleased

theorem State.applyRelease_eq (s : State) (halted : s.hu.halt = .halted) :
    s.applyRelease = if s.turnToSettling.pressureLost && s.turnToSettling.mu.station.active then
      s.turnToSettling.enqueue (.halt reasonPressure) else s.turnToSettling :=
  if_pos halted

theorem State.applyRelease_of_not_halted (s : State) (other : s.hu.halt ≠ .halted) : s.applyRelease = s := if_neg other

theorem State.leaveTest_keep {P : State → Prop} {s : State} (leave : ∀ s : State, P s → P (s.enqueue .leave)) (h : P s) :
    P s.leaveTest := by
  unfold State.leaveTest
  split
  · exact leave _ h
  · exact h

/-- What makes `P` a law of the plant. -/
structure PlantLaw (P : State → Prop) : Prop where
  site : ∀ s t : State, t.plant = s.plant → P s → P t
  run : ∀ s t : State, RunSide s t → P s → P t
  alloc : ∀ (s : State) (a : AllocResult), P s → P (s.setAlloc a)
  enqueue : ∀ (s : State) (f : OutFrame), f ≠ .leave → P s → P (s.enqueue f)
  emptied : ∀ (s : State) (seq : Seq) (failures : Nat),
    P s → P (s.setBus { s.bus with outbound := [], seq := seq, failures := failures, beatTimer := none })
  forgotten : ∀ s : State, P s → P s.announceGone

namespace PlantLaw

variable {P : State → Prop} (law : PlantLaw P) {s : State}
include law

theorem setMu (v : MemberUnit) (h : P s) : P (s.setMu v) := law.site s (s.setMu v) rfl h
theorem setCt (v : ClaimUnit) (h : P s) : P (s.setCt v) := law.site s (s.setCt v) rfl h
theorem setHu (v : HaltUnit) (h : P s) : P (s.setHu v) := law.site s (s.setHu v) rfl h
theorem raise (e : SiteEvent) (h : P s) : P (s.raise e) := law.site s (s.raise e) rfl h
theorem raiseIf (p : Bool) (e : SiteEvent) (h : P s) : P (s.raiseIf p e) := law.site s _ (s.raiseIf_plant p e) h
theorem setTable (t : Table) (h : P s) : P (s.setTable t) := law.setCt _ h
theorem setAdoption (b : Bool) (h : P s) : P (s.setAdoption b) := law.setCt _ h
theorem setStation (st : StationState) (h : P s) : P (s.setStation st) := law.setMu _ h
theorem clearStale (h : P s) : P s.clearStale := law.setMu _ h
theorem markStale (h : P s) : P s.markStale := law.site s _ s.markStale_plant h
theorem modMember (a : Addr) (f : Member → Member) (h : P s) : P (s.modMember a f) := law.setMu _ h
theorem emptyCopy (h : P s) : P s.emptyCopy := law.site s _ s.emptyCopy_plant h
theorem setOrphans (os : List Orphan) (h : P s) : P (s.setOrphans os) := law.site s _ (s.setOrphans_plant os) h
theorem removeMember (a : Addr) (h : P s) : P (s.removeMember a) := law.site s _ (s.removeMember_plant a) h
theorem settleOwn (h : P s) : P s.settleOwn := law.site s _ s.settleOwn_plant h
theorem testRound (h : P s) : P s.testRound := law.site s _ s.testRound_plant h
theorem testSettle (h : P s) : P s.testSettle := law.site s _ s.testSettle_plant h
theorem announceAll (h : P s) : P s.announceAll := law.run _ _ (RunSide.announceAll s) h

theorem recompute (h : P s) : P s.recompute :=
  law.run _ _ (RunSide.recompute s) (law.alloc _ _ (law.setTable _ h))

theorem evaluateIf (p : Bool) (h : P s) : P (s.evaluateIf p) := law.run _ _ (RunSide.evaluateIf s p) h

theorem closeAll (p : Purpose) (h : P s) : P (s.closeAll p) := law.run _ _ (RunSide.closeAll s p) h

theorem queueDrop (a : Addr) (h : P s) : P (s.queueDrop a) := by
  unfold State.queueDrop
  split
  · exact h
  · exact law.enqueue _ _ nofun h

theorem dropSilent (h : P s) : P s.dropSilent := by
  unfold State.dropSilent
  refine List.foldlRecOn allAddrs _ (motive := P) h fun t ht a _ => ?_
  split
  · exact law.queueDrop a ht
  · exact ht

theorem enterSynced (h : P s) : P s.enterSynced := by
  have dropped := law.dropSilent (law.announceAll
    (law.setAdoption false (law.clearStale (law.raise .syncRegained (law.setStation .synced h)))))
  unfold State.enterSynced
  dsimp only
  split
  · exact law.enqueue _ _ nofun dropped
  · exact dropped

theorem loseSync (h : P s) : P s.loseSync :=
  law.closeAll _ (law.setAdoption true (law.markStale (law.raise _ (law.setStation _ h))))

theorem startLeaving (h : P s) : P s.startLeaving :=
  law.closeAll _ (law.setAdoption false (law.clearStale (law.setStation _ h)))

theorem startListening (n : Nat) (h : P s) : P (s.startListening n) := by
  have gone := law.setAdoption true (law.forgotten _ (law.emptyCopy h))
  exact law.evaluateIf _ (law.recompute (law.setMu _ (law.setHu _ (law.emptied _ 0 n gone))))

/-- The outbound set emptied beside a change of the halt unit. -/
theorem quieted (k : HaltUnit) (n : Nat) (h : P s) :
    P ((s.setHu k).setBus { s.bus with outbound := [], failures := n, beatTimer := none }) :=
  law.emptied (s.setHu k) s.bus.seq n (law.setHu k h)

theorem enterIsolated (cause : IsolationCause) (h : P s) : P (s.enterIsolated cause) := by
  have left := law.setAdoption false (law.clearStale (law.settleOwn (law.removeMember s.own (law.raise .isolated
    (law.setMu { s.mu with station := .isolated, cause := cause, listenWindow := none } h)))))
  rw [State.enterIsolated_eq]
  exact law.quieted _ 0 (law.forgotten _ (law.closeAll .isolate left))

theorem enterClash (h : P s) : P s.enterClash := by
  have left := law.setAdoption false (law.clearStale (law.settleOwn (law.removeMember s.own (law.raise .clash
    (law.setMu { s.mu with station := .clash, listenWindow := none } h)))))
  have closed : P s.clashing := law.closeAll .isolate left
  rw [State.enterClash_eq]
  exact law.evaluateIf _ (law.recompute (law.quieted _ _ closed))

theorem enterConfig (h : P s) : P s.enterConfig := by
  have gone := law.setAdoption false (law.forgotten _ (law.emptyCopy (law.setStation .config h)))
  exact law.evaluateIf _ (law.recompute (law.setMu _ (law.setHu _ (law.emptied _ _ _ gone))))

theorem ackTest (h : P s) : P s.ackTest := by
  unfold State.ackTest
  split
  · exact law.setHu _ (law.enqueue _ _ nofun h)
  · exact h

theorem enterHalted (r : BitVec 4) (f : HaltUnit → HaltUnit) (h : P s) : P (s.enterHalted r f) :=
  law.closeAll .halt (law.raise _ (law.testRound (law.setHu _ h)))

theorem applyHalt (r : BitVec 4) (h : P s) : P (s.applyHalt r) := by
  unfold State.applyHalt
  split
  · exact law.setHu _ h
  · split <;> exact law.enterHalted _ _ h

theorem turnToSettling (h : P s) : P s.turnToSettling := law.raise _ (law.testSettle (law.setHu _ h))

theorem applyRelease (h : P s) : P s.applyRelease := by
  by_cases halted : s.hu.halt = .halted
  · rw [s.applyRelease_eq halted]
    split
    · exact law.enqueue _ _ nofun (law.turnToSettling h)
    · exact law.turnToSettling h
  · rw [s.applyRelease_of_not_halted halted]
    exact h

theorem adoptHalt (k : HaltState) (r : BitVec 4) (h : P s) : P (s.adoptHalt k r) := by
  unfold State.adoptHalt
  split
  · exact law.raiseIf _ _ (law.setHu _ h)
  · split
    · exact law.setHu _ h
    · exact law.enterHalted _ _ h
  · exact law.raiseIf _ _ (law.setHu _ h)

theorem mergeHalt (k : HaltState) (r : BitVec 4) (h : P s) : P (s.mergeHalt k r) := by
  unfold State.mergeHalt
  split
  · exact law.setHu _ h
  · split
    · exact h
    · exact law.enterHalted _ _ h
  · exact h

theorem selfDrop (h : P s) : P s.selfDrop := by
  unfold State.selfDrop
  split
  · exact law.enterIsolated _ h
  · exact h

theorem applyDrop (t : Byte) (h : P s) : P (s.applyDrop t) := by
  unfold State.applyDrop
  split
  · exact h
  · split
    · exact law.selfDrop h
    · split
      · exact law.site s _ (State.dropMember_plant _ _) h
      · exact h

theorem applyPurge (t : Byte) (h : P s) : P (s.applyPurge t) := by
  unfold State.applyPurge
  split
  · exact h
  · split
    · exact law.selfDrop h
    · split
      · exact law.site s _ (State.dropOrphan_plant _ _) h
      · exact law.site s _ (State.removeMember_plant _ _) h

theorem addMember (a : Addr) (seq : Seq) (b : BeatBody) (h : P s) : P (s.addMember a seq b) := by
  have added : ∀ m, P (((s.setMember a m).raise .rosterChanged).dropOrphan a) := fun m =>
    law.site _ _ (State.dropOrphan_plant _ a) (law.raise _ (law.setMu _ h))
  unfold State.addMember
  dsimp only
  split
  · exact law.enterSynced (added _)
  · exact added _

theorem beatStation (a : Addr) (seq : Seq) (b : BeatBody) (h : P s) : P (s.beatStation a seq b) := by
  unfold State.beatStation
  split
  · exact law.modMember _ _ h
  · exact law.addMember a seq b h

theorem adoptView (b : BeatBody) (h : P s) : P (s.adoptView b) :=
  law.adoptHalt _ _ (law.setOrphans _ (law.setCt _ h))

theorem mergeView (a : Addr) (b : BeatBody) (h : P s) : P (s.mergeView a b) :=
  law.raiseIf _ _ (law.mergeHalt _ _ (law.setOrphans _ (law.setCt _ h)))

theorem beatView (a : Addr) (b : BeatBody) (adopt : Bool) (h : P s) : P (s.beatView a b adopt) := by
  unfold State.beatView
  split
  · exact h
  · exact h
  · exact h
  · split
    · exact law.adoptView b h
    · exact law.mergeView a b h

theorem applyBeat (a : Addr) (seq : Seq) (b : BeatBody) (h : P s) : P (s.applyBeat a seq b) := by
  have viewed := law.beatView a b s.ct.adoptionPending (law.modMember a (fun m => { m with
    gauge := gaugeAfter b.gauge m.gauge }) (law.beatStation a seq b h))
  have settled := law.site _ _ (State.settleRemoval_plant _ a) viewed
  exact law.site _ _ (State.refreshView_plant _) (law.modMember a _ (law.setTable _ settled))

theorem applyBody (f : Frame) (h : P s) : P (s.applyBody f) := by
  unfold State.applyBody
  split
  · exact law.applyBeat _ _ _ h
  · exact law.site s _ (State.applyClaim_plant _ _ _ _ _ _ _) h
  · exact law.setCt _ h
  · exact law.modMember _ _ h
  · exact law.applyDrop _ h
  · exact law.applyPurge _ h
  · exact law.site s _ (State.applyLeave_plant _ _) h
  · exact law.applyHalt _ h
  · exact law.site s _ (State.applyHaltAck_plant _ _ _) h
  · exact law.applyRelease h

theorem heed (f : Frame) (h : P s) : P (s.heed f) := law.recompute (law.applyBody f (law.modMember _ _ h))

end PlantLaw

end Sys2Proof.Machine
end

section
/-!
SUPPORT. The laws of the delivery log (R171, R173, R40) and of the outbound set (R128) through every event.
-/

namespace Sys2Proof.Machine

/-! ### Faults and announced records leave the rest -/

/-- R77: faults are held by the channel and reported by an event bit; nothing else changes. -/
theorem State.addFault_parts (s : State) (c : Chan) (f : Faults → Faults) :
    s.addFault c f = { s with events := (s.addFault c f).events, chans := (s.addFault c f).chans } := by
  unfold State.addFault
  dsimp only
  split <;> rfl

/-- R84: the announced records of a BEAT that starts; nothing else changes. -/
theorem State.announceBeat_parts (s : State) (f : OutFrame) :
    s.announceBeat f = { s with chans := (s.announceBeat f).chans } := by
  unfold State.announceBeat
  split
  · refine List.foldlRecOn allChans _ (motive := fun t : State => t = { s with chans := t.chans }) rfl fun t same c _ => ?_
    unfold State.announceListed
    rw [same]
    rfl
  · rfl

theorem State.startFrame_bus (s : State) (f : OutFrame) :
    (s.startFrame f).bus = { s.bus with
      outbound := s.bus.outbound.eraseIdx (frontPlace s.bus.outbound)
      tx := some ⟨⟨s.own, s.bus.seq, s.bodyOf f⟩, f, frontPlace s.bus.outbound⟩ } := rfl

/-! ### The delivery log -/

theorem logSound_of_rm_log {s t : State} (rm : t.rm = s.rm) (log : t.log = s.log) (sound : s.LogSound) : t.LogSound := by
  unfold State.LogSound
  rw [rm, log]
  exact sound

theorem State.enqueue_rm (s : State) (f : OutFrame) : (s.enqueue f).rm = s.rm := by
  unfold State.enqueue
  split <;> rfl

theorem logSound_plantLaw : PlantLaw State.LogSound where
  site _ _ same := logSound_of_rm_log (rm_of_plant same) (log_of_plant same)
  run _ _ chain := chain.logSound
  alloc _ _ sound := sound
  enqueue s f _ := logSound_of_rm_log (s.enqueue_rm f) (log_of_roll (s.enqueue_roll f))
  emptied _ _ _ sound := sound
  forgotten _ sound := sound

theorem State.modRun_length (s : State) (h : Nat) (f : Run → Run) :
    (s.modRun h f).rm.pool.length = s.rm.pool.length :=
  List.length_map _

theorem State.modRun_logSound (s : State) (h : Nat) (f : Run → Run) (sound : s.LogSound) : (s.modRun h f).LogSound := by
  unfold State.LogSound
  rw [State.modRun_length]
  exact sound

/-- R46 checks 5 and 6: what `fullness` leaves room for. -/
theorem State.room_of_fullness {s : State} {c : Chan} (room : s.fullness c = none) :
    (listOf s.rm.pool c).length < 6 ∧ s.rm.pool.length < 24 ∧ s.rm.pool.length + s.log.records.length < 48 := by
  unfold State.fullness at room
  split at room
  · cases room
  · next list =>
    split at room
    · cases room
    · next pool =>
      split at room
      · cases room
      · next log => exact ⟨Nat.lt_of_not_le list, Nat.lt_of_not_le pool, Nat.lt_of_not_le log⟩

/-- R47, R173: an admission takes a reservation for its run, and a run stopped at once turns it into a record. -/
theorem State.admitted_logSound (s : State) (c : Chan) (args : RunArgs) (room : s.fullness c = none)
    (sound : s.LogSound) : (s.admitted c args).LogSound := by
  obtain ⟨-, pool, log⟩ := State.room_of_fullness room
  obtain ⟨count, -, place, -⟩ := sound
  unfold State.admitted
  split
  · refine (RunSide.releaseWaiting _ _).logSound ⟨?_, ?_, place, ?_⟩
    · show s.log.reservations + 1 - 1 = s.rm.pool.length
      omega
    · show (s.log.records ++ [_]).length + (s.log.reservations + 1 - 1) ≤ 48
      simp only [List.length_append, List.length_singleton]
      omega
    · show s.rm.pool.length ≤ 24
      omega
  · refine (RunSide.headSelect _ _).logSound ⟨?_, ?_, place, ?_⟩
    · show s.log.reservations + 1 = (s.rm.pool ++ [_]).length
      simp only [List.length_append, List.length_singleton]
      omega
    · show s.log.records.length + (s.log.reservations + 1) ≤ 48
      omega
    · show (s.rm.pool ++ [_]).length ≤ 24
      simp only [List.length_append, List.length_singleton]
      omega

theorem LogUnit.dropOldest_readPos (l : LogUnit) (place : l.readPos < 48) : l.dropOldest.readPos < 48 := by
  show (if l.readPos = 47 then 0 else l.readPos + 1) < 48
  split <;> omega

/-- R176: the oldest record leaves the log. -/
theorem State.readLog_logSound (s : State) (sound : s.LogSound) : (s.setLog s.log.dropOldest).LogSound := by
  obtain ⟨count, bound, place, pool⟩ := sound
  refine ⟨count, ?_, LogUnit.dropOldest_readPos s.log place, pool⟩
  have shorter : s.log.records.tail.length ≤ s.log.records.length := by simp
  exact (Nat.add_le_add_right shorter _).trans bound

/-- What keeps a law of the plant through CLEAR_FAULT: the channel may change, and a CLAIM may be queued. -/
theorem PlantLaw.clearFault {P : State → Prop} (law : PlantLaw P) (chan : ∀ s c ch, P s → P (State.setChan s c ch))
    {s : State} (c : Chan) (h : P s) : P ((s.takeStuckClosed c).clearFaults c) := by
  unfold State.takeStuckClosed
  refine chan _ c _ ?_
  split
  · exact law.run _ _ (RunSide.announce _ c) (chan _ _ _ h)
  · exact h

theorem PlantLaw.declareStuck {P : State → Prop} (law : PlantLaw P) (chan : ∀ s c ch, P s → P (State.setChan s c ch))
    (fault : ∀ s c f, P s → P (State.addFault s c f)) {s : State} (c : Chan) (h : P s) : P (s.declareStuck c) := by
  have stuck := fault _ c (fun f => { f with stuck := true }) (chan s c
    { s.chan c with valve := .stuck, closeTimer := none, stuckValues := some (stuckValuesOf (s.head c)) } h)
  unfold State.declareStuck
  dsimp only
  split
  · split
    · exact law.run _ _ (RunSide.depart _ _ _) stuck
    · exact law.run _ _ (RunSide.requeue _ _ _) stuck
    · exact stuck
  · exact stuck

theorem PlantLaw.runDry {P : State → Prop} (law : PlantLaw P) (chan : ∀ s c ch, P s → P (State.setChan s c ch))
    (fault : ∀ s c f, P s → P (State.addFault s c f)) {s : State} (c : Chan) (h : P s) : P (s.runDry c) := by
  have dry := fault _ c (fun f => { f with dry := true }) (chan s c { s.chan c with noFlowTimer := none } h)
  unfold State.runDry
  dsimp only
  split
  · exact law.run _ _ (RunSide.endRun _ _ _) dry
  · exact dry

theorem logSound_addFault (s : State) (c : Chan) (f : Faults → Faults) (sound : s.LogSound) :
    (s.addFault c f).LogSound := by
  rw [State.addFault_parts]
  exact sound

/-- Every event keeps the law of the log. -/
theorem Event.logSound {s t : State} (one : Event s t) (sound : s.LogSound) : t.LogSound := by
  have plant := logSound_plantLaw
  cases one with
  | pending | port | pins | clock | events | site | halt | line | window | member | chan | count | configure
  | releaseStuck => exact sound
  | credit h f same => exact s.modRun_logSound h f sound
  | listen k n station => exact plant.startListening n (plant.setMu _ sound)
  | leave station => exact plant.startLeaving sound
  | admission c args present room => exact s.admitted_logSound c args room sound
  | endRun h e => exact (RunSide.endRun s h e).logSound sound
  | clearFault c present => exact plant.clearFault (fun _ _ _ kept => kept) c sound
  | readLog => exact s.readLog_logSound sound
  | enqueue f other => exact plant.enqueue s f other sound
  | announce c => exact (RunSide.announce s c).logSound sound
  | ackTest => exact plant.ackTest sound
  | leaveTest => exact State.leaveTest_keep (P := State.LogSound) (fun s => logSound_of_rm_log (s.enqueue_rm _) (log_of_roll (s.enqueue_roll _))) sound
  | completeClose c closing => exact (RunSide.completeClose s c).logSound sound
  | declareStuck c closing present => exact plant.declareStuck (fun _ _ _ kept => kept) logSound_addFault c sound
  | runDry c opened => exact plant.runDry (fun _ _ _ kept => kept) logSound_addFault c sound
  | leak c closed => exact logSound_addFault s c _ sound
  | evaluate => exact (RunSide.evaluate s).logSound sound
  | loseSync station => exact plant.loseSync sound
  | markStale station => exact plant.setAdoption true (plant.markStale sound)
  | enterSynced station => exact plant.enterSynced sound
  | enterClash tx => exact plant.enterClash sound
  | startFrame m f tx front =>
    unfold State.startFrame
    rw [State.announceBeat_parts]
    exact sound
  | fail x m tx => exact sound
  | isolate tx => exact plant.recompute (plant.enterIsolated .readback sound)
  | left x tx item =>
    have counted : (s.countSent x).LogSound := sound
    exact plant.enterConfig counted
  | sent x tx item =>
    have counted : (s.countSent x).LogSound := sound
    exact plant.heed x.frame counted
  | heard f tx other station known => exact plant.heed f sound

/-! ### The outbound set -/

theorem keyed_of_outbound {s t : State} (same : t.bus.outbound = s.bus.outbound) (keyed : s.OutboundKeyed) :
    t.OutboundKeyed := by
  unfold State.OutboundKeyed
  rw [same]
  exact keyed

theorem State.enqueue_keyed (s : State) (f : OutFrame) (keyed : s.OutboundKeyed) : (s.enqueue f).OutboundKeyed := by
  unfold State.OutboundKeyed
  rw [State.enqueue_outbound]
  split
  · exact insertOut_keyed f _ keyed
  · exact keyed

theorem keyed_plantLaw : PlantLaw State.OutboundKeyed where
  site _ _ same := keyed_of_outbound (congrArg BusUnit.outbound (bus_of_plant same))
  run _ _ chain := chain.keyed
  alloc _ _ keyed := keyed
  enqueue s f _ := s.enqueue_keyed f
  emptied _ _ _ _ := List.Pairwise.nil
  forgotten _ keyed := keyed

/-- R119: the frame that goes back has its own key, combined or not. -/
theorem restored_sameKey (f g : OutFrame) (out : List OutFrame) :
    (((out.find? fun g => g.sameKey f).map f.combine).getD f).sameKey g = f.sameKey g := by
  cases found : out.find? fun g => g.sameKey f with
  | none => rfl
  | some h =>
    have same : h.sameKey f = true := by simpa using List.find?_some found
    exact OutFrame.combine_sameKey f h g (by rw [OutFrame.sameKey_symm]; exact same)

/-- R119, R128: a frame that goes back to its former place keeps the set keyed. -/
theorem restoreOut_keyed (place : Nat) (f : OutFrame) (out : List OutFrame)
    (keyed : out.Pairwise fun a b => a.sameKey b = false) :
    (restoreOut place f out).Pairwise fun a b => a.sameKey b = false := by
  have others : (out.filter fun g => !g.sameKey f).Pairwise fun a b => a.sameKey b = false := keyed.filter _
  have apart : ∀ g ∈ out.filter fun g => !g.sameKey f, g.sameKey f = false := fun g member => by
    simpa using (List.mem_filter.1 member).2
  unfold restoreOut
  dsimp only
  generalize (out.filter fun g => !g.sameKey f) = rest at others apart ⊢
  have parts : (rest.take place ++ rest.drop place).Pairwise fun a b => a.sameKey b = false := by
    rwa [List.take_append_drop]
  rw [List.pairwise_append] at parts ⊢
  obtain ⟨older, newer, across⟩ := parts
  refine ⟨older, List.pairwise_cons.2 ⟨fun g member => ?_, newer⟩, fun a before b after => ?_⟩
  · rw [restored_sameKey, OutFrame.sameKey_symm]
    exact apart g (List.mem_of_mem_drop member)
  · rcases List.mem_cons.1 after with rfl | after
    · rw [OutFrame.sameKey_symm, restored_sameKey, OutFrame.sameKey_symm]
      exact apart a (List.mem_of_mem_take before)
    · exact across a before b after

theorem keyed_addFault (s : State) (c : Chan) (f : Faults → Faults) (keyed : s.OutboundKeyed) :
    (s.addFault c f).OutboundKeyed := by
  rw [State.addFault_parts]
  exact keyed

theorem State.admitted_keyed (s : State) (c : Chan) (args : RunArgs) (keyed : s.OutboundKeyed) :
    (s.admitted c args).OutboundKeyed := by
  unfold State.admitted
  split
  · exact (RunSide.releaseWaiting _ _).keyed keyed
  · exact (RunSide.headSelect _ _).keyed keyed

/-- Every event keeps the outbound set keyed. -/
theorem Event.keyed {s t : State} (one : Event s t) (keyed : s.OutboundKeyed) : t.OutboundKeyed := by
  have plant := keyed_plantLaw
  cases one with
  | pending | port | pins | clock | events | site | halt | window | member | credit | chan | count | configure
  | releaseStuck | readLog => exact keyed
  | line b set tx => exact keyed_of_outbound set keyed
  | listen k n station => exact plant.startListening n (plant.setMu _ keyed)
  | leave station => exact plant.startLeaving keyed
  | admission c args present room => exact s.admitted_keyed c args keyed
  | endRun h e => exact (RunSide.endRun s h e).keyed keyed
  | clearFault c present => exact plant.clearFault (fun _ _ _ kept => kept) c keyed
  | enqueue f other => exact plant.enqueue s f other keyed
  | announce c => exact (RunSide.announce s c).keyed keyed
  | ackTest => exact plant.ackTest keyed
  | leaveTest => exact State.leaveTest_keep (P := State.OutboundKeyed) (fun s => s.enqueue_keyed _) keyed
  | completeClose c closing => exact (RunSide.completeClose s c).keyed keyed
  | declareStuck c closing present => exact plant.declareStuck (fun _ _ _ kept => kept) keyed_addFault c keyed
  | runDry c opened => exact plant.runDry (fun _ _ _ kept => kept) keyed_addFault c keyed
  | leak c closed => exact keyed_addFault s c _ keyed
  | evaluate => exact (RunSide.evaluate s).keyed keyed
  | loseSync station => exact plant.loseSync keyed
  | markStale station => exact plant.setAdoption true (plant.markStale keyed)
  | enterSynced station => exact plant.enterSynced keyed
  | enterClash tx => exact plant.enterClash keyed
  | startFrame m f tx front => exact keyed.sublist (List.eraseIdx_sublist ..)
  | fail x m tx => exact restoreOut_keyed _ _ _ keyed
  | isolate tx => exact plant.recompute (plant.enterIsolated .readback keyed)
  | left x tx item =>
    have counted : (s.countSent x).OutboundKeyed := keyed
    exact plant.enterConfig counted
  | sent x tx item =>
    have counted : (s.countSent x).OutboundKeyed := keyed
    exact plant.heed x.frame counted
  | heard f tx other station known => exact plant.heed f keyed

/-! ### No event touches RST# -/

/-- RST# at the level `b`. -/
def State.resetAt (b : Bool) (s : State) : Prop := s.inReset = b

theorem resetAt_plantLaw (b : Bool) : PlantLaw (State.resetAt b) where
  site _ _ same := (inReset_of_plant same).trans
  run _ _ chain := (inReset_of_bare chain.bare).trans
  alloc _ _ kept := kept
  enqueue s f _ := (inReset_of_bare (s.enqueue_bare f)).trans
  emptied _ _ _ kept := kept
  forgotten _ kept := kept

theorem State.admitted_bare (s : State) (c : Chan) (args : RunArgs) : (s.admitted c args).bare = s.reserve.bare := by
  unfold State.admitted
  split
  · exact (State.releaseWaiting_bare _ _).trans rfl
  · exact (State.headSelect_bare _ _).trans rfl

theorem State.count_inReset (s : State) : s.count.inReset = s.inReset := by
  simp only [State.count, State.setClock_inReset, State.setBus_inReset, State.setHu_inReset, State.setMu_inReset,
    State.setChans_inReset]

/-- No event moves RST#. -/
theorem Event.resetAt {s t : State} (one : Event s t) {b : Bool} (level : s.resetAt b) : t.resetAt b := by
  have plant := resetAt_plantLaw b
  have fault : ∀ (s : State) (c : Chan) (f : Faults → Faults), s.resetAt b → (s.addFault c f).resetAt b :=
    fun s c f level => (congrArg State.inReset (s.addFault_parts c f)).trans level
  cases one with
  | pending | port | pins | clock | events | site | halt | line | window | member | credit | chan | configure | releaseStuck
  | readLog => exact level
  | count => exact s.count_inReset.trans level
  | listen k n station => exact plant.startListening n (plant.setMu _ level)
  | leave station => exact plant.startLeaving (s := s) level
  | admission c args present room => exact (inReset_of_bare (s.admitted_bare c args)).trans level
  | endRun h e => exact plant.run _ _ (RunSide.endRun s h e) level
  | clearFault c present => exact plant.clearFault (fun _ _ _ kept => kept) c level
  | enqueue f other => exact plant.enqueue s f other level
  | announce c => exact plant.run _ _ (RunSide.announce s c) level
  | ackTest => exact plant.ackTest level
  | leaveTest => exact State.leaveTest_keep (P := State.resetAt b) (fun s => (inReset_of_bare (s.enqueue_bare _)).trans) level
  | completeClose c closing => exact plant.run _ _ (RunSide.completeClose s c) level
  | declareStuck c closing present => exact plant.declareStuck (fun _ _ _ kept => kept) fault c level
  | runDry c opened => exact plant.runDry (fun _ _ _ kept => kept) fault c level
  | leak c closed => exact fault s c _ level
  | evaluate => exact plant.run _ _ (RunSide.evaluate s) level
  | loseSync station => exact plant.loseSync level
  | markStale station => exact plant.setAdoption true (plant.markStale level)
  | enterSynced station => exact plant.enterSynced level
  | enterClash tx => exact plant.enterClash level
  | startFrame m f tx front =>
    unfold State.startFrame
    rw [State.announceBeat_parts]
    exact level
  | fail x m tx => exact level
  | isolate tx => exact plant.recompute (plant.enterIsolated .readback level)
  | left x tx item =>
    have counted : (s.countSent x).resetAt b := level
    exact plant.enterConfig counted
  | sent x tx item =>
    have counted : (s.countSent x).resetAt b := level
    exact plant.heed x.frame counted
  | heard f tx other station known => exact plant.heed f level

theorem Event.inReset {s t : State} (one : Event s t) (high : s.inReset = false) : t.inReset = false :=
  one.resetAt (b := false) high

end Sys2Proof.Machine
end

section
/-!
SUPPORT. The laws of the log and of the outbound set as laws of every step.
-/

namespace Sys2Proof

open Sys2Proof.Machine

/-- Settles O53: every event keeps the law of the log, and RESET empties log and pool. -/
theorem stepKeepsLogSound : Obligations.StepKeepsLogSound := by
  intro s t sound done
  exact step_keeps (P := State.LogSound) (fun _ _ high one law => ⟨one.logSound law, one.inReset high⟩)
    (fun _ _ => ⟨rfl, Nat.zero_le _, Nat.zero_lt_succ _, Nat.zero_le _⟩) (fun _ _ _ law => law) (fun _ _ _ law => law)
    (fun _ _ law => law) sound done

/-- Settles O57: every event keeps the outbound set keyed, and RESET empties it. -/
theorem stepKeepsOutboundKeyed : Obligations.StepKeepsOutboundKeyed := by
  intro s t keyed done
  exact step_keeps (P := State.OutboundKeyed) (fun _ _ high one law => ⟨one.keyed law, one.inReset high⟩)
    (fun _ _ => List.Pairwise.nil) (fun _ _ _ law => law) (fun _ _ _ law => law)
    (fun _ _ law => law) keyed done

end Sys2Proof
end

section
/-!
SUPPORT. What each station holds of the site (`State.copy`): the claim table, the capacity view and the announced set, the
orphan list, its own address, and the announced capacity of each member. The operations of the halt unit leave everything
but the halt unit and the events (`State.calm`), and most events leave the copy as it is (`Event.copy`).
-/

namespace Sys2Proof.Machine

/-! ### The halt side -/

/-- A state without the halt unit and the events. -/
def State.calm (s : State) : State := { s with events := ⟨0, 0⟩, hu := HaltUnit.initial }

section calm

variable {s t : State} (h : s.calm = t.calm)
include h

theorem inReset_of_calm : s.inReset = t.inReset := by have e := congrArg State.inReset h; exact e
theorem straps_of_calm : s.straps = t.straps := by have e := congrArg State.straps h; exact e
theorem clock_of_calm : s.clock = t.clock := by have e := congrArg State.clock h; exact e
theorem ct_of_calm : s.ct = t.ct := by have e := congrArg State.ct h; exact e
theorem alloc_of_calm : s.alloc = t.alloc := by have e := congrArg State.alloc h; exact e
theorem mu_of_calm : s.mu = t.mu := by have e := congrArg State.mu h; exact e
theorem bus_of_calm : s.bus = t.bus := by have e := congrArg State.bus h; exact e
theorem rm_of_calm : s.rm = t.rm := by have e := congrArg State.rm h; exact e
theorem chans_of_calm : s.chans = t.chans := by have e := congrArg State.chans h; exact e
theorem log_of_calm : s.log = t.log := by have e := congrArg State.log h; exact e

end calm

theorem State.setHu_calm (s : State) (v : HaltUnit) : (s.setHu v).calm = s.calm := rfl
theorem State.raise_calm (s : State) (e : SiteEvent) : (s.raise e).calm = s.calm := rfl

theorem State.raiseIf_calm (s : State) (p : Bool) (e : SiteEvent) : (s.raiseIf p e).calm = s.calm := by
  unfold State.raiseIf
  split <;> rfl

theorem State.testRound_calm (s : State) : s.testRound.calm = s.calm := by
  unfold State.testRound
  split
  · split <;> rfl
  · rfl

theorem State.roundRemoval_calm (s : State) (a : Addr) : (s.roundRemoval a).calm = s.calm := by
  unfold State.roundRemoval
  split
  · exact State.testRound_calm _
  · rfl

theorem State.applyHaltAck_calm (s : State) (a : Addr) (m : Byte) : (s.applyHaltAck a m).calm = s.calm := by
  unfold State.applyHaltAck
  split
  · exact State.testRound_calm _
  · rfl

theorem State.testSettle_calm (s : State) : s.testSettle.calm = s.calm := by
  unfold State.testSettle
  split <;> rfl

theorem State.settleRemoval_calm (s : State) (a : Addr) : (s.settleRemoval a).calm = s.calm := State.testSettle_calm _

theorem State.settleOwn_calm (s : State) : s.settleOwn.calm = s.calm := by
  unfold State.settleOwn
  split
  · exact s.settleRemoval_calm _
  · rfl

theorem State.tellHalt_calm (s : State) (a : Addr) : (s.tellHalt a).calm = s.calm :=
  (State.settleRemoval_calm _ a).trans (s.roundRemoval_calm a)

/-! ### The copy -/

/-- What a station holds of the site. -/
structure Copy where
  table : Table
  view : Nat
  announced : List Nat
  orphans : List Orphan
  own : Addr
  capacities : Vector (Option Nat) 16

def State.copy (s : State) : Copy :=
  ⟨s.ct.table, s.ct.capacityView, s.ct.announcedSet, s.mu.orphans, s.own, mapVec (Option.map Member.capacity) s.mu.roster⟩

section copy

variable {s t : State} (h : s.copy = t.copy)
include h

theorem table_of_copy : s.ct.table = t.ct.table := by have e := congrArg Copy.table h; exact e
theorem view_of_copy : s.ct.capacityView = t.ct.capacityView := by have e := congrArg Copy.view h; exact e
theorem announcedSet_of_copy : s.ct.announcedSet = t.ct.announcedSet := by have e := congrArg Copy.announced h; exact e
theorem orphans_of_copy : s.mu.orphans = t.mu.orphans := by have e := congrArg Copy.orphans h; exact e
theorem own_of_copy : s.own = t.own := by have e := congrArg Copy.own h; exact e

theorem capacity_of_copy (a : Addr) : (s.member a).map Member.capacity = (t.member a).map Member.capacity := by
  have e := congrArg (fun k : Copy => k.capacities[a.val]) h
  simpa [State.copy, State.member] using e

theorem isMember_of_copy (a : Addr) : s.isMember a = t.isMember a := by
  have e := congrArg Option.isSome (capacity_of_copy h a)
  simpa [State.isMember] using e

end copy

theorem copy_of_bare {s t : State} (h : s.bare = t.bare) : s.copy = t.copy := by have e := congrArg State.copy h; exact e
theorem copy_of_calm {s t : State} (h : s.calm = t.calm) : s.copy = t.copy := by have e := congrArg State.copy h; exact e

theorem State.modMember_copy (s : State) (a : Addr) (f : Member → Member) (same : ∀ m, (f m).capacity = m.capacity) :
    (s.modMember a f).copy = s.copy := by
  have capacities : mapVec (Option.map Member.capacity) (s.modMember a f).mu.roster =
      mapVec (Option.map Member.capacity) s.mu.roster := by
    show mapVec (Option.map Member.capacity) (s.mu.roster.set a.val ((s.member a).map f)) = _
    rw [mapVec_set]
    ext1 i hi
    rw [Vector.getElem_set]
    split
    · next here =>
      subst here
      cases found : s.mu.roster[a.val] <;> simp [State.member, found, same]
    · rfl
  unfold State.copy
  rw [capacities]
  rfl

theorem State.clearStale_copy (s : State) : s.clearStale.copy = s.copy := by
  have capacities : mapVec (Option.map Member.capacity) s.clearStale.mu.roster =
      mapVec (Option.map Member.capacity) s.mu.roster := by
    show mapVec (Option.map Member.capacity) (mapVec _ s.mu.roster) = _
    rw [mapVec_mapVec]
    ext1 i hi
    cases found : s.mu.roster[i] <;> simp [found]
  unfold State.copy
  rw [capacities]
  rfl

theorem State.markStale_copy (s : State) : s.markStale.copy = s.copy := by
  unfold State.markStale
  refine fold_leaves State.copy _ _ s fun t a => ?_
  split
  · rfl
  · exact t.modMember_copy a _ fun _ => rfl

theorem State.setAdoption_copy (s : State) (b : Bool) : (s.setAdoption b).copy = s.copy := rfl
theorem State.setStation_copy (s : State) (st : StationState) : (s.setStation st).copy = s.copy := rfl
theorem State.raise_copy (s : State) (e : SiteEvent) : (s.raise e).copy = s.copy := rfl
theorem State.setHu_copy (s : State) (v : HaltUnit) : (s.setHu v).copy = s.copy := rfl
theorem State.setBus_copy (s : State) (v : BusUnit) : (s.setBus v).copy = s.copy := rfl

theorem State.raiseIf_copy (s : State) (p : Bool) (e : SiteEvent) : (s.raiseIf p e).copy = s.copy :=
  copy_of_calm (s.raiseIf_calm p e)

theorem State.enqueue_copy (s : State) (f : OutFrame) : (s.enqueue f).copy = s.copy := copy_of_bare (s.enqueue_bare f)

theorem State.queueDrop_bare (s : State) (a : Addr) : (s.queueDrop a).bare = s.bare := by
  unfold State.queueDrop
  split
  · rfl
  · exact s.enqueue_bare _

theorem State.dropSilent_bare (s : State) : s.dropSilent.bare = s.bare := by
  unfold State.dropSilent
  refine fold_leaves State.bare _ _ s fun t a => ?_
  split
  · exact t.queueDrop_bare a
  · rfl

/-- R143: the entry to SYNCED before its queueing. -/
def State.regained (s : State) : State := ((s.setStation .synced).raise .syncRegained).clearStale.setAdoption false

/-- What the entry to SYNCED queues is run-side. -/
theorem State.enterSynced_bare (s : State) : s.enterSynced.bare = s.regained.bare := by
  have dropped : s.regained.announceAll.dropSilent.bare = s.regained.bare :=
    (State.dropSilent_bare _).trans (State.announceAll_bare _)
  unfold State.enterSynced
  dsimp only
  split
  · exact (State.enqueue_bare _ _).trans dropped
  · exact dropped

theorem State.enterSynced_copy (s : State) : s.enterSynced.copy = s.copy := by
  rw [copy_of_bare s.enterSynced_bare]
  unfold State.regained
  rw [State.setAdoption_copy, State.clearStale_copy, State.raise_copy, State.setStation_copy]

theorem State.enterSynced_station (s : State) : s.enterSynced.mu.station = .synced := by
  rw [mu_of_bare s.enterSynced_bare]
  rfl

theorem State.enterSynced_hu (s : State) : s.enterSynced.hu = s.hu := by
  rw [hu_of_bare s.enterSynced_bare]
  rfl

theorem State.markStale_hu (s : State) : s.markStale.hu = s.hu := by
  unfold State.markStale
  refine fold_leaves State.hu _ _ s fun t a => ?_
  split <;> rfl

theorem State.markStale_station (s : State) : s.markStale.mu.station = s.mu.station := by
  unfold State.markStale
  refine fold_leaves (fun u : State => u.mu.station) _ _ s fun t a => ?_
  split <;> rfl

/-- R144: an entry to RESYNC before its closes. -/
def State.losing (s : State) : State := ((s.setStation .resync).raise .syncLost).markStale.setAdoption true

theorem State.loseSync_bare (s : State) : s.loseSync.bare = s.losing.bare := State.closeAll_bare s.losing .resync

theorem State.loseSync_copy (s : State) : s.loseSync.copy = s.copy := by
  rw [copy_of_bare s.loseSync_bare]
  unfold State.losing
  rw [State.setAdoption_copy, State.markStale_copy, State.raise_copy, State.setStation_copy]

theorem State.loseSync_hu (s : State) : s.loseSync.hu = s.hu := by
  rw [hu_of_bare s.loseSync_bare]
  unfold State.losing State.setAdoption
  rw [State.setCt_hu, State.markStale_hu]
  rfl

theorem State.loseSync_station (s : State) : s.loseSync.mu.station = .resync := by
  rw [mu_of_bare s.loseSync_bare]
  unfold State.losing State.setAdoption
  rw [State.setCt_mu, State.markStale_station]
  rfl

/-- R146: an entry to LEAVING before its closes. -/
def State.parting (s : State) : State := (s.setStation .leaving).clearStale.setAdoption false

theorem State.startLeaving_bare (s : State) : s.startLeaving.bare = s.parting.bare := State.closeAll_bare s.parting .leave

theorem State.startLeaving_copy (s : State) : s.startLeaving.copy = s.copy := by
  rw [copy_of_bare s.startLeaving_bare]
  unfold State.parting
  rw [State.setAdoption_copy, State.clearStale_copy, State.setStation_copy]

theorem State.startLeaving_hu (s : State) : s.startLeaving.hu = s.hu := by
  rw [hu_of_bare s.startLeaving_bare]
  rfl

theorem State.startLeaving_station (s : State) : s.startLeaving.mu.station = .leaving := by
  rw [mu_of_bare s.startLeaving_bare]
  rfl

/-- An entry to HALTED before its closes. -/
def State.halting (s : State) (r : BitVec 4) (f : HaltUnit → HaltUnit) : State :=
  (s.setHu (f { s.hu with
    halt := .halted, reasons := r, settle := 0, ackPending := s.hu.ackPending || s.mu.station.active })).testRound.raise
      .haltEntered

theorem State.enterHalted_eq (s : State) (r : BitVec 4) (f : HaltUnit → HaltUnit) :
    s.enterHalted r f = (s.halting r f).closeAll .halt := by
  unfold State.enterHalted State.halting
  dsimp only

theorem State.enterHalted_bare (s : State) (r : BitVec 4) (f : HaltUnit → HaltUnit) :
    (s.enterHalted r f).bare = (s.halting r f).bare := by
  rw [State.enterHalted_eq, State.closeAll_bare]

theorem State.halting_calm (s : State) (r : BitVec 4) (f : HaltUnit → HaltUnit) : (s.halting r f).calm = s.calm := by
  unfold State.halting
  rw [State.raise_calm, State.testRound_calm, State.setHu_calm]

theorem State.enterHalted_copy (s : State) (r : BitVec 4) (f : HaltUnit → HaltUnit) :
    (s.enterHalted r f).copy = s.copy :=
  (copy_of_bare (s.enterHalted_bare r f)).trans (copy_of_calm (s.halting_calm r f))

theorem State.count_copy (s : State) : s.count.copy = s.copy := by
  have capacities : mapVec (Option.map Member.capacity) (mapVec (Option.map Member.count) s.mu.roster) =
      mapVec (Option.map Member.capacity) s.mu.roster := by
    rw [mapVec_mapVec]
    ext1 i hi
    cases found : s.mu.roster[i] <;> simp [found, Member.count]
  have mu : s.count.mu = { s.mu with
      roster := mapVec (Option.map Member.count) s.mu.roster, listenWindow := countDown s.mu.listenWindow } := by
    simp only [State.count, State.setClock_mu, State.setBus_mu, State.setHu_mu, State.setMu_mu]
  have ct : s.count.ct = s.ct := by
    simp only [State.count, State.setClock_ct, State.setBus_ct, State.setHu_ct, State.setMu_ct, State.setChans_ct]
  have straps : s.count.straps = s.straps := by
    simp only [State.count, State.setClock_straps, State.setBus_straps, State.setHu_straps, State.setMu_straps,
      State.setChans_straps]
  unfold State.copy State.own
  rw [mu, ct, straps]
  dsimp only
  rw [capacities]

end Sys2Proof.Machine
end

section
/-!
SUPPORT. What a recomputation does to one entry (`State.remark`), and the events that write the copy of the site (`Turn`).
-/

namespace Sys2Proof.Machine

/-! ### The marks of a recomputation -/

theorem slot_markPlaced (t : Table) (k : Key) (a : Addr) (c : Chan) :
    slot (markPlaced t k) a c = (slot t a c).map fun e => if k = (a, c) then { e with placed := true } else e := by
  obtain ⟨b, d⟩ := k
  unfold markPlaced
  rw [slot_setSlot]
  by_cases here : b = a ∧ d = c
  · obtain ⟨rfl, rfl⟩ := here
    simp
  · have other : ¬ ((b, d) : Key) = (a, c) := fun e => here ⟨congrArg Prod.fst e, congrArg Prod.snd e⟩
    simp [here]

/-- The placed marks of a list of keys, over a table that bears none. -/
theorem slot_markAll (keys : List Key) (t : Table) (a : Addr) (c : Chan) :
    slot (keys.foldl markPlaced t) a c =
      (slot t a c).map fun e => { e with placed := e.placed || decide ((a, c) ∈ keys) } := by
  induction keys generalizing t with
  | nil => simp
  | cons k keys ih =>
    rw [List.foldl_cons, ih, slot_markPlaced, Option.map_map]
    refine congrArg (fun f => Option.map f (slot t a c)) (funext fun e => ?_)
    by_cases here : k = (a, c)
    · subst here
      simp
    · have there : ¬ (a, c) = k := fun e => here e.symm
      simp [here, there]

/-- R31: the recomputation clears every mark. -/
def State.clearsMarks (s : State) : Bool := s.frozen || s.hu.halt != .none

/-- R27: the walk of the recomputation. -/
def State.walk (s : State) : Walk :=
  targetWalk (effectiveCapacity s.ct.capacityView s.clearedTable s.mu.orphans) s.clearedTable s.mu.roster s.ct.pointers

/-- R30: the recomputation latches. -/
def State.latching (s : State) : Bool := s.allocate.result.drain && s.hu.halt == .none && !s.frozen

/-- R31, R27: an entry with the marks it has before the latching. -/
def State.placing (s : State) (k : Key) (e : Entry) : Entry :=
  { (if s.clearsMarks then e.clearMark else e) with placed := decide (k ∈ s.walk.placed) }

/-- R22, R30, R31: an entry with its new marks. -/
def State.remark (s : State) (k : Key) (e : Entry) : Entry :=
  if s.latching then (s.placing k e).latch else s.placing k e

theorem State.allocate_table (s : State) : s.allocate.table =
    if s.latching then mapEntries Entry.latch (s.walk.placed.foldl markPlaced s.clearedTable)
    else s.walk.placed.foldl markPlaced s.clearedTable := by
  unfold State.latching State.walk State.allocate
  dsimp only

theorem slot_clearedTable (s : State) (a : Addr) (c : Chan) : slot s.clearedTable a c =
    (slot s.ct.table a c).map fun e => { (if s.clearsMarks then e.clearMark else e) with placed := false } :=
  slot_mapEntries _ _ a c

theorem slot_placed (s : State) (a : Addr) (c : Chan) :
    slot (s.walk.placed.foldl markPlaced s.clearedTable) a c = (slot s.ct.table a c).map (s.placing (a, c)) := by
  rw [slot_markAll, slot_clearedTable, Option.map_map]
  refine congrArg (fun f => Option.map f (slot s.ct.table a c)) (funext fun e => ?_)
  simp [State.placing]

/-- The recomputation maps each entry in its place. -/
theorem slot_allocate (s : State) (a : Addr) (c : Chan) :
    slot s.allocate.table a c = (slot s.ct.table a c).map (s.remark (a, c)) := by
  rw [s.allocate_table]
  unfold State.remark
  split
  · rw [slot_mapEntries, slot_placed, Option.map_map]
    rfl
  · exact slot_placed s a c

theorem Entry.latch_said (e : Entry) : e.latch.said = e.said := by
  unfold Entry.latch
  split <;> rfl

theorem Entry.latch_placed (e : Entry) : e.latch.placed = e.placed := by
  unfold Entry.latch
  split <;> rfl

theorem Entry.latch_latched (e : Entry) : e.latch.latched = (e.latched || (e.placed && e.phase == .asking)) := by
  unfold Entry.latch Entry.qualifies
  cases marked : e.latched <;> cases e.placed <;> cases e.phase == .asking <;> simp [marked]

theorem State.placing_said (s : State) (k : Key) (e : Entry) : (s.placing k e).said = e.said := by
  unfold State.placing
  split <;> rfl

theorem State.placing_latched (s : State) (k : Key) (e : Entry) :
    (s.placing k e).latched = (!s.clearsMarks && e.latched) := by
  unfold State.placing
  split
  · next clears => rw [clears]; rfl
  · next keeps => rw [Bool.eq_false_of_not_eq_true keeps]; rfl

theorem State.remark_said (s : State) (k : Key) (e : Entry) : (s.remark k e).said = e.said := by
  unfold State.remark
  split
  · exact (Entry.latch_said _).trans (s.placing_said k e)
  · exact s.placing_said k e

theorem State.remark_placed (s : State) (k : Key) (e : Entry) : (s.remark k e).placed = decide (k ∈ s.walk.placed) := by
  unfold State.remark
  split
  · exact Entry.latch_placed _
  · rfl

theorem State.remark_phase (s : State) (k : Key) (e : Entry) : (s.remark k e).phase = e.phase :=
  congrArg (fun x : Level × Nat × Phase => x.2.2) (s.remark_said k e)

theorem State.remark_demand (s : State) (k : Key) (e : Entry) : (s.remark k e).demand = e.demand :=
  congrArg (fun x : Level × Nat × Phase => x.2.1) (s.remark_said k e)

/-- R30, R31: the latched mark after a recomputation. -/
theorem State.remark_latched (s : State) (k : Key) (e : Entry) : (s.remark k e).latched =
    (!s.clearsMarks && e.latched || s.latching && decide (k ∈ s.walk.placed) && e.phase == .asking) := by
  have phase : (s.placing k e).phase = e.phase := congrArg (fun x : Level × Nat × Phase => x.2.2) (s.placing_said k e)
  unfold State.remark
  split
  · next latching => rw [Entry.latch_latched, State.placing_latched, phase, latching, Bool.true_and]; rfl
  · next not => rw [State.placing_latched, Bool.eq_false_of_not_eq_true not, Bool.false_and, Bool.false_and, Bool.or_false]

theorem State.latching_of_clearsMarks (s : State) (clears : s.clearsMarks = true) : s.latching = false := by
  unfold State.clearsMarks at clears
  unfold State.latching
  cases frozen : s.frozen with
  | true => simp
  | false =>
    have halted : (s.hu.halt == .none) = false := by simpa [frozen] using clears
    rw [halted, Bool.and_false, Bool.false_and]

/-! ### What a recomputation leaves -/

theorem State.recompute_ct (s : State) : s.recompute.ct = { s.ct with table := s.allocate.table } := by
  rw [ct_of_bare s.recompute_bare, State.setAlloc_ct]
  unfold State.setTable
  rw [State.setCt_ct]
theorem State.recompute_mu (s : State) : s.recompute.mu = s.mu := by
  rw [mu_of_bare s.recompute_bare, State.setAlloc_mu]
  unfold State.setTable
  rw [State.setCt_mu]

theorem State.recompute_hu (s : State) : s.recompute.hu = s.hu := by
  rw [hu_of_bare s.recompute_bare, State.setAlloc_hu]
  unfold State.setTable
  rw [State.setCt_hu]

theorem State.recompute_alloc (s : State) : s.recompute.alloc = s.allocate.result := by
  rw [alloc_of_bare s.recompute_bare, State.setAlloc_alloc]

theorem State.recompute_straps (s : State) : s.recompute.straps = s.straps := by
  rw [straps_of_bare s.recompute_bare, State.setAlloc_straps]
  unfold State.setTable
  rw [State.setCt_straps]

theorem State.recompute_inReset (s : State) : s.recompute.inReset = s.inReset := by
  rw [inReset_of_bare s.recompute_bare, State.setAlloc_inReset]
  unfold State.setTable
  rw [State.setCt_inReset]

theorem State.recompute_events (s : State) : s.recompute.events = s.events := by
  rw [events_of_bare s.recompute_bare, State.setAlloc_events]
  unfold State.setTable
  rw [State.setCt_events]

theorem State.recompute_tx (s : State) : s.recompute.bus.tx = s.bus.tx := by
  rw [tx_of_bare s.recompute_bare, State.setAlloc_bus]
  unfold State.setTable
  rw [State.setCt_bus]

theorem slot_recompute (s : State) (a : Addr) (c : Chan) :
    slot s.recompute.ct.table a c = (slot s.ct.table a c).map (s.remark (a, c)) := by
  rw [s.recompute_ct]
  exact slot_allocate s a c

theorem State.evaluateIf_ct (s : State) (p : Bool) : (s.evaluateIf p).ct = s.ct := ct_of_bare (s.evaluateIf_bare p)
theorem State.evaluateIf_mu (s : State) (p : Bool) : (s.evaluateIf p).mu = s.mu := mu_of_bare (s.evaluateIf_bare p)
theorem State.evaluateIf_hu (s : State) (p : Bool) : (s.evaluateIf p).hu = s.hu := hu_of_bare (s.evaluateIf_bare p)
theorem State.evaluateIf_copy (s : State) (p : Bool) : (s.evaluateIf p).copy = s.copy := copy_of_bare (s.evaluateIf_bare p)

/-! ### The events that write the copy -/

/-- A listening station's entry or restart. -/
def State.relisten (s : State) (k : IsolationCause) (n : Nat) : State :=
  (s.setMu { s.mu with station := .listening, cause := k }).startListening n

/-- An event that writes the copy of the site. -/
inductive Turn : State → State → Prop
  | listen (s : State) (k : IsolationCause) (n : Nat)
      (station : s.mu.station = .config ∨ s.mu.station = .isolated ∨ s.mu.station = .listening) : Turn s (s.relisten k n)
  | clash (s : State) (tx : s.bus.tx = none) : Turn s s.enterClash
  | isolate (s : State) (tx : s.bus.tx = none) : Turn s (s.enterIsolated .readback).recompute
  | left (s : State) (x : Transmission) (tx : s.bus.tx = some x) (item : x.item = .leave) :
      Turn s (s.countSent x).enterConfig
  | sent (s : State) (x : Transmission) (tx : s.bus.tx = some x) (item : x.item ≠ .leave) :
      Turn s ((s.countSent x).heed x.frame)
  | heard (s : State) (f : Frame) (tx : s.bus.tx = none) (other : f.sender ≠ s.own) (station : s.mu.station ≠ .config)
      (known : f.body.isBeat = true ∨ s.isMember f.sender = true) : Turn s (s.heed f)

/-- Two states with one copy, one halt state, and the station active in both or in neither. -/
structure Alike (s t : State) : Prop where
  copy : t.copy = s.copy
  halt : t.hu.halt = s.hu.halt
  active : t.mu.station.active = s.mu.station.active
  reset : t.inReset = s.inReset

theorem Alike.of_bare {s t : State} (h : t.bare = s.bare) : Alike s t where
  copy := copy_of_bare h
  halt := congrArg HaltUnit.halt (hu_of_bare h)
  active := congrArg (fun m : MemberUnit => m.station.active) (mu_of_bare h)
  reset := inReset_of_bare h

theorem Alike.trans {s t u : State} (h : Alike s t) (k : Alike t u) : Alike s u :=
  ⟨k.copy.trans h.copy, k.halt.trans h.halt, k.active.trans h.active, k.reset.trans h.reset⟩

/-- The channels, the pool and the log may be anything. -/
theorem Alike.of_parts {s t : State} (ct : t.ct = s.ct) (mu : t.mu = s.mu) (hu : t.hu = s.hu) (straps : t.straps = s.straps)
    (reset : t.inReset = s.inReset) : Alike s t := by
  refine ⟨?_, congrArg HaltUnit.halt hu, congrArg (fun m : MemberUnit => m.station.active) mu, reset⟩
  unfold State.copy State.own
  rw [ct, mu, straps]

theorem Alike.of_addFault (s : State) (c : Chan) (f : Faults → Faults) : Alike s (s.addFault c f) := by
  rw [State.addFault_parts]
  exact .of_parts rfl rfl rfl rfl rfl

theorem Alike.of_ackTest (s : State) : Alike s s.ackTest := by
  have bare := s.ackTest_bare
  have same : Alike s (s.setHu { s.hu with ackPending := s.ackTest.hu.ackPending }) := ⟨rfl, rfl, rfl, rfl⟩
  exact same.trans (.of_bare bare)

theorem Alike.of_setChan (s : State) (c : Chan) (ch : Channel) : Alike s (s.setChan c ch) := .of_parts rfl rfl rfl rfl rfl

theorem State.clearFault_alike (s : State) (c : Chan) : Alike s ((s.takeStuckClosed c).clearFaults c) := by
  have taken : Alike s (s.takeStuckClosed c) := by
    unfold State.takeStuckClosed
    split
    · exact (Alike.of_setChan s c _).trans (.of_bare (State.announce_bare _ c))
    · exact .of_bare rfl
  exact taken.trans (Alike.of_setChan _ c _)

theorem State.declareStuck_alike (s : State) (c : Chan) : Alike s (s.declareStuck c) := by
  have stuck : ∀ ch f, Alike s ((s.setChan c ch).addFault c f) := fun ch f =>
    (Alike.of_setChan s c ch).trans (Alike.of_addFault _ c f)
  unfold State.declareStuck
  dsimp only
  split
  · split
    · exact (stuck _ _).trans (.of_bare (State.depart_bare _ _ _))
    · exact (stuck _ _).trans (.of_bare (State.requeue_bare _ _ _))
    · exact stuck _ _
  · exact stuck _ _

theorem State.runDry_alike (s : State) (c : Chan) : Alike s (s.runDry c) := by
  have dry : ∀ ch f, Alike s ((s.setChan c ch).addFault c f) := fun ch f =>
    (Alike.of_setChan s c ch).trans (Alike.of_addFault _ c f)
  unfold State.runDry
  dsimp only
  split
  · exact (dry _ _).trans (.of_bare (State.endRun_bare _ _ _))
  · exact dry _ _

theorem State.admitted_alike (s : State) (c : Chan) (args : RunArgs) : Alike s (s.admitted c args) :=
  (Alike.of_parts rfl rfl rfl rfl rfl : Alike s s.reserve).trans (.of_bare (s.admitted_bare c args))

theorem StationState.active_of_takesSiteCommand {st : StationState} (may : st.takesSiteCommand = true) :
    st.active = true := by
  cases st <;> first | rfl | cases may

theorem State.startLeaving_alike (s : State) (active : s.mu.station.active = true) : Alike s s.startLeaving where
  copy := s.startLeaving_copy
  halt := congrArg HaltUnit.halt s.startLeaving_hu
  active := by rw [s.startLeaving_station, active]; rfl
  reset := by
    rw [inReset_of_bare s.startLeaving_bare]
    rfl

theorem State.enterSynced_alike (s : State) (active : s.mu.station.active = true) : Alike s s.enterSynced where
  copy := s.enterSynced_copy
  halt := congrArg HaltUnit.halt s.enterSynced_hu
  active := by rw [s.enterSynced_station, active]; rfl
  reset := by
    rw [inReset_of_bare s.enterSynced_bare]
    rfl

theorem State.markStale_inReset (s : State) : s.markStale.inReset = s.inReset := inReset_of_plant s.markStale_plant

theorem State.loseSync_alike (s : State) (active : s.mu.station.active = true) : Alike s s.loseSync where
  copy := s.loseSync_copy
  halt := congrArg HaltUnit.halt s.loseSync_hu
  active := by rw [s.loseSync_station, active]; rfl
  reset := by
    rw [inReset_of_bare s.loseSync_bare]
    unfold State.losing State.setAdoption
    rw [State.setCt_inReset, State.markStale_inReset]
    rfl

theorem State.markStale_alike (s : State) : Alike s (s.markStale.setAdoption true) where
  copy := (State.setAdoption_copy _ _).trans s.markStale_copy
  halt := (congrArg HaltUnit.halt (State.setCt_hu _ _)).trans (congrArg HaltUnit.halt s.markStale_hu)
  active := congrArg StationState.active ((congrArg MemberUnit.station (State.setCt_mu _ _)).trans s.markStale_station)
  reset := (State.setCt_inReset _ _).trans s.markStale_inReset

theorem State.count_alike (s : State) : Alike s s.count where
  copy := s.count_copy
  halt := by
    simp only [State.count, State.setClock_hu, State.setBus_hu, State.setHu_hu]
    unfold State.countHalt
    dsimp only
    split
    · unfold HaltUnit.samplePloss
      dsimp only
    · rfl
  active := by simp only [State.count, State.setClock_mu, State.setBus_mu, State.setHu_mu, State.setMu_mu]
  reset := s.count_inReset

theorem State.startFrame_alike (s : State) (f : OutFrame) : Alike s (s.startFrame f) := by
  unfold State.startFrame
  rw [State.announceBeat_parts]
  exact .of_parts rfl rfl rfl rfl rfl

/-- Every event leaves the copy, the halt state and the station's activity as they are, or is one that writes the copy. -/
theorem Event.alike_or_turn {s t : State} (one : Event s t) : Alike s t ∨ Turn s t := by
  cases one with
  | pending | port | pins | clock | events | site | line | credit | chan | configure | releaseStuck | readLog =>
    exact .inl (.of_parts rfl rfl rfl rfl rfl)
  | halt v same => exact .inl ⟨rfl, same, rfl, rfl⟩
  | window w => exact .inl ⟨rfl, rfl, rfl, rfl⟩
  | member a f same => exact .inl ⟨s.modMember_copy a f same, rfl, rfl, rfl⟩
  | count => exact .inl s.count_alike
  | leave station => exact .inl (s.startLeaving_alike (StationState.active_of_takesSiteCommand station))
  | admission c args present room => exact .inl (s.admitted_alike c args)
  | endRun h e => exact .inl (.of_bare (s.endRun_bare h e))
  | clearFault c present => exact .inl (s.clearFault_alike c)
  | enqueue f other => exact .inl (.of_bare (s.enqueue_bare f))
  | announce c => exact .inl (.of_bare (s.announce_bare c))
  | ackTest => exact .inl (.of_ackTest s)
  | leaveTest => exact .inl (.of_bare s.leaveTest_bare)
  | completeClose c closing => exact .inl (.of_bare (s.completeClose_bare c))
  | declareStuck c closing present => exact .inl (s.declareStuck_alike c)
  | runDry c opened => exact .inl (s.runDry_alike c)
  | leak c closed => exact .inl (.of_addFault s c _)
  | evaluate => exact .inl (.of_bare s.evaluate_bare)
  | loseSync station => exact .inl (s.loseSync_alike (by rw [station]; rfl))
  | markStale station => exact .inl s.markStale_alike
  | enterSynced station => exact .inl (s.enterSynced_alike (by rw [station]; rfl))
  | startFrame m f tx front => exact .inl (s.startFrame_alike f)
  | fail x m tx => exact .inl (.of_parts rfl rfl rfl rfl rfl)
  | listen k n station => exact .inr (.listen s k n station)
  | enterClash tx => exact .inr (.clash s tx)
  | isolate tx => exact .inr (.isolate s tx)
  | left x tx item => exact .inr (.left s x tx item)
  | sent x tx item => exact .inr (.sent s x tx item)
  | heard f tx other station known => exact .inr (.heard s f tx other station known)

end Sys2Proof.Machine
end

section
/-!
SUPPORT. The laws of the claim table (1.1, R5, R8, R30, R31) through every event.
-/

namespace Sys2Proof.Machine

/-! ### The capacity view and the removal of a member -/

theorem State.raiseIf_ct (s : State) (p : Bool) (e : SiteEvent) : (s.raiseIf p e).ct = s.ct :=
  ct_of_calm (s.raiseIf_calm p e)

theorem State.raiseIf_mu (s : State) (p : Bool) (e : SiteEvent) : (s.raiseIf p e).mu = s.mu :=
  mu_of_calm (s.raiseIf_calm p e)

theorem State.refreshView_ct (s : State) : s.refreshView.ct =
    { s.ct with capacityView := (valueSet s.capacities).headD 0, announcedSet := valueSet s.capacities } := by
  unfold State.refreshView
  dsimp only
  rw [State.raiseIf_ct, State.setCt_ct]

theorem State.refreshView_mu (s : State) : s.refreshView.mu = s.mu := by
  unfold State.refreshView
  dsimp only
  rw [State.raiseIf_mu, State.setCt_mu]

theorem State.setOrphans_ct (s : State) (os : List Orphan) : (s.setOrphans os).ct = s.ct := by
  unfold State.setOrphans
  rw [State.raiseIf_ct, State.setMu_ct]

theorem State.setOrphans_mu (s : State) (os : List Orphan) : (s.setOrphans os).mu = { s.mu with orphans := os } := by
  unfold State.setOrphans
  rw [State.raiseIf_mu, State.setMu_mu]

theorem State.setOrphans_hu (s : State) (os : List Orphan) : (s.setOrphans os).hu = s.hu := by
  unfold State.setOrphans State.raiseIf
  split <;> rfl

theorem State.dropOrphan_mu (s : State) (a : Addr) :
    (s.dropOrphan a).mu = { s.mu with orphans := s.mu.orphans.filter fun o => o.station != a } := by
  unfold State.dropOrphan
  split
  · exact s.setOrphans_mu _
  · next none =>
    have all : (s.mu.orphans.filter fun o => o.station != a) = s.mu.orphans := by
      refine List.filter_eq_self.2 fun o member => ?_
      have other : ¬ (o.station == a) = true := fun same => none (List.any_eq_true.2 ⟨o, member, same⟩)
      simpa using other
    rw [all]

theorem State.dropOrphan_ct (s : State) (a : Addr) : (s.dropOrphan a).ct = s.ct := by
  unfold State.dropOrphan
  split
  · exact s.setOrphans_ct _
  · rfl

theorem State.dropOrphan_hu (s : State) (a : Addr) : (s.dropOrphan a).hu = s.hu := by
  unfold State.dropOrphan
  split
  · exact s.setOrphans_hu _
  · rfl

/-- R2, R134: the table, the roster and the view without the member `a`, before the halt unit is told. -/
def State.without (s : State) (a : Addr) : State :=
  ((s.setTable (clearRow s.ct.table a)).setMember a none).refreshView.raise .rosterChanged

theorem State.removeMember_of_member (s : State) {a : Addr} (member : s.isMember a = true) :
    s.removeMember a = (s.without a).tellHalt a := if_pos member

theorem State.removeMember_of_not_member (s : State) {a : Addr} (other : s.isMember a = false) : s.removeMember a = s :=
  if_neg (by simp [other])

theorem State.removeMember_table (s : State) (a : Addr) :
    (s.removeMember a).ct.table = if s.isMember a then clearRow s.ct.table a else s.ct.table := by
  split
  · next member =>
    rw [s.removeMember_of_member member, ct_of_calm (State.tellHalt_calm _ a)]
    unfold State.without State.raise
    rw [State.setEvents_ct, State.refreshView_ct]
    rfl
  · next other => rw [s.removeMember_of_not_member (by simpa using other)]

theorem State.removeMember_orphans (s : State) (a : Addr) : (s.removeMember a).mu.orphans = s.mu.orphans := by
  by_cases member : s.isMember a = true
  · rw [s.removeMember_of_member member, mu_of_calm (State.tellHalt_calm _ a)]
    unfold State.without State.raise
    rw [State.setEvents_mu, State.refreshView_mu]
    rfl
  · rw [s.removeMember_of_not_member (by simpa using member)]

/-! ### A table of sound entries -/

/-- Every entry is sound. -/
def SoundTable (t : Table) : Prop := ∀ a : Addr, ∀ c : Chan, ∀ e ∈ slot t a c, e.Sound

theorem soundTable_empty : SoundTable Table.empty := fun a c e member => by
  rw [slot_empty] at member
  cases member

theorem soundTable_setSlot {t : Table} (a : Addr) (c : Chan) (o : Option Entry) (entry : ∀ e ∈ o, e.Sound)
    (sound : SoundTable t) : SoundTable (setSlot t a c o) := fun b d e member => by
  rw [slot_setSlot] at member
  split at member
  · exact entry e member
  · exact sound b d e member

theorem soundTable_clearRow {t : Table} (a : Addr) (sound : SoundTable t) : SoundTable (clearRow t a) :=
  fun b d e member => by
    rw [slot_clearRow] at member
    split at member
    · cases member
    · exact sound b d e member

theorem Entry.Sound.remark {s : State} {k : Key} {e : Entry} (sound : e.Sound) : (s.remark k e).Sound := by
  obtain ⟨low, high, asking⟩ := sound
  refine ⟨by rwa [s.remark_demand], by rwa [s.remark_demand], fun latched => ?_⟩
  rw [s.remark_phase]
  rw [s.remark_latched, Bool.or_eq_true, Bool.and_eq_true, Bool.and_eq_true, beq_iff_eq] at latched
  exact latched.elim (fun old => asking old.2) fun new => new.2

theorem State.recompute_tableSound (s : State) (sound : s.TableSound) : s.recompute.TableSound := by
  intro a c e member
  rw [slot_recompute] at member
  obtain ⟨old, found, rfl⟩ := Option.map_eq_some_iff.1 member
  exact (sound a c old found).remark

/-- R31: after a recomputation. -/
theorem State.recompute_marksSound (s : State) : s.recompute.MarksSound := by
  intro held a c e member
  rw [slot_recompute] at member
  obtain ⟨old, found, rfl⟩ := Option.map_eq_some_iff.1 member
  have clears : s.clearsMarks = true := by
    unfold State.frozen at held
    rw [s.recompute_mu, s.recompute_hu] at held
    unfold State.clearsMarks State.frozen
    rw [Bool.or_eq_true, bne_iff_ne]
    exact held
  rw [s.remark_latched, clears, s.latching_of_clearsMarks clears, Bool.not_true, Bool.false_and, Bool.false_and,
    Bool.false_and, Bool.or_false]

/-! ### CLAIM and the entry list -/

theorem demand_of_toDemand {b : Byte} {d : Nat} (read : toDemand b = some d) : 1 ≤ d ∧ d ≤ 63 := by
  unfold toDemand at read
  split at read
  · next range =>
    obtain rfl := Option.some.inj read
    exact range
  · cases read

theorem State.applyClaim_tableSound (s : State) (a : Addr) (c l d p k : Byte) (sound : s.TableSound) :
    (s.applyClaim a c l d p k).TableSound := by
  have gone : ∀ c' : Chan, SoundTable (setSlot s.ct.table a c' none) := fun c' =>
    soundTable_setSlot a c' none nofun sound
  unfold State.applyClaim
  split
  · split
    · split
      · dsimp only
        split <;> exact gone _
      · exact sound
    · split
      · next demand =>
        obtain ⟨low, high⟩ := demand_of_toDemand demand
        refine soundTable_setSlot a _ _ (fun e member => ?_) sound
        obtain rfl := Option.some.inj member
        exact ⟨low, high, nofun⟩
      · exact sound
  · exact sound

/-- R8: an item that is read is sound. -/
theorem sound_of_readItem {mayLatch : Bool} {i : EntryItem} {c : Chan} {e : Entry}
    (read : readItem mayLatch i = some (c, e)) : e.Sound := by
  unfold readItem at read
  split at read
  · next demand _ =>
    obtain ⟨low, high⟩ := demand_of_toDemand demand
    obtain ⟨rfl, rfl⟩ := Prod.mk.inj (Option.some.inj read)
    refine ⟨low, high, fun latched => ?_⟩
    rw [Bool.and_eq_true, Bool.and_eq_true, beq_iff_eq] at latched
    exact latched.1.2
  · cases read

theorem soundTable_replaceEntries {t : Table} (a : Addr) (mayLatch : Bool) (items : List EntryItem)
    (sound : SoundTable t) : SoundTable (replaceEntries t a mayLatch items) := by
  unfold replaceEntries
  refine List.foldlRecOn _ _ (motive := SoundTable) (soundTable_clearRow a sound) fun u kept i member => ?_
  obtain ⟨item, -, read⟩ := List.mem_filterMap.1 member
  refine soundTable_setSlot a i.1 _ (fun e found => ?_) kept
  obtain rfl := Option.some.inj found
  exact sound_of_readItem read

/-! ### The appliers -/

theorem State.adoptHalt_copy (s : State) (k : HaltState) (r : BitVec 4) : (s.adoptHalt k r).copy = s.copy := by
  unfold State.adoptHalt
  split
  · exact State.raiseIf_copy _ _ _
  · split
    · rfl
    · exact s.enterHalted_copy _ _
  · exact State.raiseIf_copy _ _ _

theorem State.mergeHalt_copy (s : State) (k : HaltState) (r : BitVec 4) : (s.mergeHalt k r).copy = s.copy := by
  unfold State.mergeHalt
  split
  · rfl
  · split
    · rfl
    · exact s.enterHalted_copy _ _
  · rfl

theorem State.applyHalt_copy (s : State) (r : BitVec 4) : (s.applyHalt r).copy = s.copy := by
  unfold State.applyHalt
  split
  · rfl
  · split <;> exact s.enterHalted_copy _ _

theorem State.turnToSettling_calm (s : State) : s.turnToSettling.calm = s.calm := by
  unfold State.turnToSettling
  dsimp only
  rw [State.raise_calm, State.testSettle_calm, State.setHu_calm]

theorem State.applyRelease_copy (s : State) : s.applyRelease.copy = s.copy := by
  by_cases halted : s.hu.halt = .halted
  · rw [s.applyRelease_eq halted]
    split
    · exact (State.enqueue_copy _ _).trans (copy_of_calm s.turnToSettling_calm)
    · exact copy_of_calm s.turnToSettling_calm
  · rw [s.applyRelease_of_not_halted halted]

theorem State.addMember_table (s : State) (a : Addr) (seq : Seq) (b : BeatBody) :
    (s.addMember a seq b).ct.table = s.ct.table := by
  have added : ∀ m, (((s.setMember a m).raise .rosterChanged).dropOrphan a).ct = s.ct := fun m =>
    (State.dropOrphan_ct ((s.setMember a m).raise .rosterChanged) a)
  unfold State.addMember
  dsimp only
  split
  · rw [table_of_copy (State.enterSynced_copy _), added]
  · rw [added]

theorem State.beatStation_table (s : State) (a : Addr) (seq : Seq) (b : BeatBody) :
    (s.beatStation a seq b).ct.table = s.ct.table := by
  unfold State.beatStation
  split
  · rfl
  · exact s.addMember_table a seq b

theorem State.beatView_table (s : State) (a : Addr) (b : BeatBody) (adopt : Bool) :
    (s.beatView a b adopt).ct.table = s.ct.table := by
  have adopted : (s.adoptView b).ct.table = s.ct.table := by
    unfold State.adoptView
    dsimp only
    rw [table_of_copy (State.adoptHalt_copy _ _ _), State.setOrphans_ct]
    rfl
  have merged : (s.mergeView a b).ct.table = s.ct.table := by
    unfold State.mergeView
    dsimp only
    rw [table_of_copy (State.raiseIf_copy _ _ _), table_of_copy (State.mergeHalt_copy _ _ _), State.setOrphans_ct]
    rfl
  unfold State.beatView
  split
  · rfl
  · rfl
  · rfl
  · split
    · exact adopted
    · exact merged

/-- R7: stages 1 to 3 of a BEAT. -/
def State.beatViewed (s : State) (a : Addr) (seq : Seq) (b : BeatBody) : State :=
  (((s.beatStation a seq b).applyGauge a b.gauge).beatView a b s.ct.adoptionPending).settleRemoval a

theorem State.applyBeat_eq (s : State) (a : Addr) (seq : Seq) (b : BeatBody) :
    s.applyBeat a seq b = ((s.beatViewed a seq b).beatEntries a b.entries).refreshView := rfl

theorem State.beatViewed_table (s : State) (a : Addr) (seq : Seq) (b : BeatBody) :
    (s.beatViewed a seq b).ct.table = s.ct.table := by
  unfold State.beatViewed
  rw [ct_of_calm (State.settleRemoval_calm _ a), State.beatView_table]
  exact s.beatStation_table a seq b

theorem State.applyBeat_tableSound (s : State) (a : Addr) (seq : Seq) (b : BeatBody) (sound : s.TableSound) :
    (s.applyBeat a seq b).TableSound := by
  have viewed : SoundTable (s.beatViewed a seq b).ct.table := by
    rw [State.beatViewed_table]
    exact sound
  show SoundTable _
  rw [State.applyBeat_eq, State.refreshView_ct]
  exact soundTable_replaceEntries a _ _ viewed

theorem State.removeMember_tableSound (s : State) (a : Addr) (sound : s.TableSound) : (s.removeMember a).TableSound := by
  show SoundTable _
  rw [s.removeMember_table]
  split
  · exact soundTable_clearRow a sound
  · exact sound

/-- R149: the station steps out of its roster before its closes. -/
def State.steppingOut (s : State) (st : StationState) (cause : IsolationCause) (e : SiteEvent) : State :=
  let s1 := (s.setMu { s.mu with station := st, cause := cause, listenWindow := none }).raise e
  (s1.removeMember s1.own).settleOwn.clearStale.setAdoption false

theorem State.steppingOut_copy (s : State) (st : StationState) (cause : IsolationCause) (e : SiteEvent) :
    (s.steppingOut st cause e).copy = (((s.setMu { s.mu with
      station := st, cause := cause, listenWindow := none }).raise e).removeMember s.own).copy := by
  unfold State.steppingOut
  dsimp only
  rw [State.setAdoption_copy, State.clearStale_copy, copy_of_calm (State.settleOwn_calm _)]
  rfl

theorem State.isolating_eq (s : State) (cause : IsolationCause) :
    s.isolating cause = ((s.steppingOut .isolated cause .isolated).closeAll .isolate).announceGone := rfl

theorem State.clashing_eq (s : State) : s.clashing = (s.steppingOut .clash s.mu.cause .clash).closeAll .isolate := rfl

theorem State.announceGone_copy (s : State) : s.announceGone.copy = s.copy := rfl

theorem State.enterIsolated_copy (s : State) (cause : IsolationCause) :
    (s.enterIsolated cause).copy = (s.steppingOut .isolated cause .isolated).copy := by
  rw [s.enterIsolated_eq, State.setBus_copy, State.setHu_copy, s.isolating_eq, State.announceGone_copy,
    copy_of_bare (State.closeAll_bare _ _)]

theorem State.clashed_copy (s : State) : s.clashed.copy = (s.steppingOut .clash s.mu.cause .clash).copy := by
  unfold State.clashed
  rw [State.setBus_copy, State.setHu_copy, s.clashing_eq, copy_of_bare (State.closeAll_bare _ _)]

theorem tableSound_of_copy {s t : State} (same : t.copy = s.copy) (sound : s.TableSound) : t.TableSound := by
  show SoundTable _
  rw [table_of_copy same]
  exact sound

theorem State.steppingOut_tableSound (s : State) (st : StationState) (cause : IsolationCause) (e : SiteEvent)
    (sound : s.TableSound) : (s.steppingOut st cause e).TableSound :=
  tableSound_of_copy (s.steppingOut_copy st cause e) (State.removeMember_tableSound _ s.own sound)

theorem State.selfDrop_tableSound (s : State) (sound : s.TableSound) : s.selfDrop.TableSound := by
  unfold State.selfDrop
  split
  · exact tableSound_of_copy (s.enterIsolated_copy _) (s.steppingOut_tableSound _ _ _ sound)
  · exact sound

theorem State.dropMember_tableSound (s : State) (a : Addr) (sound : s.TableSound) : (s.dropMember a).TableSound := by
  unfold State.dropMember
  refine State.removeMember_tableSound _ a ?_
  split
  · show SoundTable _
    rw [State.setOrphans_ct]
    exact sound
  · exact sound

theorem State.applyDrop_tableSound (s : State) (t : Byte) (sound : s.TableSound) : (s.applyDrop t).TableSound := by
  unfold State.applyDrop
  split
  · exact sound
  · split
    · exact s.selfDrop_tableSound sound
    · split
      · exact s.dropMember_tableSound _ sound
      · exact sound

theorem State.applyPurge_tableSound (s : State) (t : Byte) (sound : s.TableSound) : (s.applyPurge t).TableSound := by
  unfold State.applyPurge
  split
  · exact sound
  · split
    · exact s.selfDrop_tableSound sound
    · split
      · show SoundTable _
        rw [State.dropOrphan_ct]
        exact sound
      · exact s.removeMember_tableSound _ sound

theorem State.applyLeave_tableSound (s : State) (a : Addr) (sound : s.TableSound) : (s.applyLeave a).TableSound := by
  unfold State.applyLeave
  split
  · exact sound
  · exact s.removeMember_tableSound a sound

theorem State.applyBody_tableSound (s : State) (f : Frame) (sound : s.TableSound) : (s.applyBody f).TableSound := by
  unfold State.applyBody
  split
  · exact s.applyBeat_tableSound _ _ _ sound
  · exact s.applyClaim_tableSound _ _ _ _ _ _ sound
  · exact sound
  · exact sound
  · exact s.applyDrop_tableSound _ sound
  · exact s.applyPurge_tableSound _ sound
  · exact s.applyLeave_tableSound _ sound
  · exact tableSound_of_copy (s.applyHalt_copy _) sound
  · exact tableSound_of_copy (copy_of_calm (s.applyHaltAck_calm _ _)) sound
  · exact tableSound_of_copy s.applyRelease_copy sound

/-! ### Entries to LISTENING and CONFIG -/

theorem State.emptyCopy_ct (s : State) : s.emptyCopy.ct =
    { s.ct with table := Table.empty, capacityView := 0, announcedSet := [] } := by
  unfold State.emptyCopy
  dsimp only
  rw [State.setOrphans_ct, State.setCt_ct, State.raiseIf_ct]

theorem State.emptyCopy_mu (s : State) : s.emptyCopy.mu = { s.mu with roster := Roster.empty, orphans := [] } := by
  unfold State.emptyCopy
  dsimp only
  rw [State.setOrphans_mu, State.setCt_mu, State.setMu_mu, mu_of_calm (s.raiseIf_calm _ _)]

/-- R140, R169: a listening station's entry before its recomputation. -/
def State.emptied (s : State) (n : Nat) : State :=
  let s1 := s.emptyCopy.announceGone.setAdoption true
  let s2 := (s1.setBus { s1.bus with outbound := [], seq := 0, failures := n, beatTimer := none }).setHu
    { s1.hu.clearRound with settle := 0, ackPending := false }
  s2.setMu { s2.mu with listenWindow := some Config.listenMs }

theorem State.startListening_eq (s : State) (n : Nat) :
    s.startListening n = (s.emptied n).recompute.evaluateIf (s.rosterSet != 0) := rfl

theorem State.emptied_ct (s : State) (n : Nat) : (s.emptied n).ct =
    { s.ct with table := Table.empty, capacityView := 0, announcedSet := [], adoptionPending := true } := by
  unfold State.emptied State.setAdoption
  dsimp only
  rw [State.setMu_ct, State.setHu_ct, State.setBus_ct, State.setCt_ct]
  unfold State.announceGone
  rw [State.setChans_ct, State.emptyCopy_ct]

theorem State.emptied_mu (s : State) (n : Nat) : (s.emptied n).mu =
    { s.mu with roster := Roster.empty, orphans := [], listenWindow := some Config.listenMs } := by
  unfold State.emptied State.setAdoption
  dsimp only
  rw [State.setMu_mu, State.setHu_mu, State.setBus_mu, State.setCt_mu]
  unfold State.announceGone
  rw [State.setChans_mu, State.emptyCopy_mu]

/-- R147: an entry to CONFIG before its recomputation. -/
def State.configured (s : State) : State :=
  let s1 := ((s.setStation .config).emptyCopy.announceGone).setAdoption false
  let s2 := (s1.setBus { s1.bus with outbound := [], beatTimer := none }).setHu
    { s1.hu.clearRound with settle := 0, ackPending := false }
  s2.setMu { s2.mu with listenWindow := none }

theorem State.enterConfig_eq (s : State) : s.enterConfig = s.configured.recompute.evaluateIf (s.rosterSet != 0) := rfl

theorem State.configured_ct (s : State) : s.configured.ct =
    { s.ct with table := Table.empty, capacityView := 0, announcedSet := [], adoptionPending := false } := by
  unfold State.configured State.setAdoption
  dsimp only
  rw [State.setMu_ct, State.setHu_ct, State.setBus_ct, State.setCt_ct]
  unfold State.announceGone
  rw [State.setChans_ct, State.emptyCopy_ct]
  rfl

theorem State.configured_mu (s : State) : s.configured.mu =
    { s.mu with station := .config, roster := Roster.empty, orphans := [], listenWindow := none } := by
  unfold State.configured State.setAdoption
  dsimp only
  rw [State.setMu_mu, State.setHu_mu, State.setBus_mu, State.setCt_mu]
  unfold State.announceGone
  rw [State.setChans_mu, State.emptyCopy_mu]
  rfl

/-! ### Every event -/

/-- The laws of the table. -/
def State.TableLaws (s : State) : Prop := s.TableSound ∧ s.MarksSound

theorem State.TableLaws.alike {s t : State} (laws : s.TableLaws) (same : Alike s t) : t.TableLaws := by
  obtain ⟨sound, marks⟩ := laws
  refine ⟨tableSound_of_copy same.copy sound, ?_⟩
  unfold State.MarksSound State.frozen
  rw [table_of_copy same.copy, orphans_of_copy same.copy, same.halt]
  exact marks

theorem State.recompute_tableLaws (s : State) (sound : s.TableSound) : s.recompute.TableLaws :=
  ⟨s.recompute_tableSound sound, s.recompute_marksSound⟩

theorem State.evaluateIf_tableLaws (s : State) (p : Bool) (laws : s.TableLaws) : (s.evaluateIf p).TableLaws :=
  laws.alike (.of_bare (s.evaluateIf_bare p))

theorem Turn.tableLaws {s t : State} (one : Turn s t) (sound : s.TableSound) : t.TableLaws := by
  cases one with
  | listen k n station =>
    unfold State.relisten
    rw [State.startListening_eq]
    refine State.evaluateIf_tableLaws _ _ (State.recompute_tableLaws _ ?_)
    show SoundTable _
    rw [State.emptied_ct]
    exact soundTable_empty
  | clash tx =>
    rw [s.enterClash_eq]
    exact State.evaluateIf_tableLaws _ _
      (State.recompute_tableLaws _ (tableSound_of_copy s.clashed_copy (s.steppingOut_tableSound _ _ _ sound)))
  | isolate tx =>
    exact State.recompute_tableLaws _
      (tableSound_of_copy (s.enterIsolated_copy _) (s.steppingOut_tableSound _ _ _ sound))
  | left x tx item =>
    rw [State.enterConfig_eq]
    refine State.evaluateIf_tableLaws _ _ (State.recompute_tableLaws _ ?_)
    show SoundTable _
    rw [State.configured_ct]
    exact soundTable_empty
  | sent x tx item =>
    have counted : (s.countSent x).TableSound := sound
    exact State.recompute_tableLaws _ (State.applyBody_tableSound _ _ counted)
  | heard f tx other station known => exact State.recompute_tableLaws _ (State.applyBody_tableSound _ f sound)

theorem Event.tableLaws {s t : State} (one : Event s t) (laws : s.TableLaws) : t.TableLaws :=
  one.alike_or_turn.elim laws.alike fun turn => turn.tableLaws laws.1

theorem State.cleared_tableLaws (s : State) : s.cleared.TableLaws := by
  refine ⟨soundTable_empty, fun _ a c e member => ?_⟩
  rw [show s.cleared.ct.table = Table.empty from rfl, slot_empty] at member
  cases member

end Sys2Proof.Machine
end

section
/-!
SUPPORT. The laws of the claim table as a law of every step.
-/

namespace Sys2Proof

open Sys2Proof.Machine

/-- Settles O54: an event leaves table, orphan list and halt state, or ends with a recomputation, which keeps the range of
the entries and clears the marks that R31 does not allow. -/
theorem stepKeepsTableSound : Obligations.StepKeepsTableSound := by
  intro s t sound marks done
  exact step_keeps (P := State.TableLaws) (fun _ _ high one law => ⟨one.tableLaws law, one.inReset high⟩)
    (fun s _ => s.cleared_tableLaws) (fun _ _ _ law => law) (fun _ _ _ law => law)
    (fun _ _ law => law) ⟨sound, marks⟩ done

end Sys2Proof
end

section
/-!
SUPPORT. The site capacity view and the announced set (R13, R14) through every event.
-/

namespace Sys2Proof.Machine

/-! ### Ascending lists of values -/

theorem mem_insertValue (v w : Nat) (ws : List Nat) : w ∈ insertValue v ws ↔ w = v ∨ w ∈ ws := by
  induction ws with
  | nil => simp [insertValue]
  | cons x xs ih =>
    unfold insertValue
    split
    · simp
    · split
      · next same => simp [same]
      · simp only [List.mem_cons, ih]
        exact or_left_comm

theorem insertValue_ascending (v : Nat) (ws : List Nat) (ascending : ws.Pairwise fun v w => v < w) :
    (insertValue v ws).Pairwise fun v w => v < w := by
  induction ws with
  | nil => exact List.pairwise_singleton _ v
  | cons x xs ih =>
    obtain ⟨above, rest⟩ := List.pairwise_cons.1 ascending
    unfold insertValue
    split
    · next below =>
      refine List.pairwise_cons.2 ⟨fun w member => ?_, ascending⟩
      rcases List.mem_cons.1 member with rfl | later
      · exact below
      · exact below.trans (above w later)
    · split
      · exact ascending
      · next notBelow other =>
        refine List.pairwise_cons.2 ⟨fun w member => ?_, ih rest⟩
        rcases (mem_insertValue v w xs).1 member with rfl | later
        · omega
        · exact above w later

theorem mem_valueSet (v : Nat) (vs : List Nat) : v ∈ valueSet vs ↔ v ∈ vs := by
  induction vs with
  | nil => exact Iff.rfl
  | cons w ws ih =>
    show v ∈ insertValue w (valueSet ws) ↔ _
    rw [mem_insertValue, ih, List.mem_cons]

theorem valueSet_ascending (vs : List Nat) : (valueSet vs).Pairwise fun v w => v < w := by
  induction vs with
  | nil => exact List.Pairwise.nil
  | cons w ws ih => exact insertValue_ascending w _ ih

theorem mem_allAddrs (a : Addr) : a ∈ allAddrs := by
  revert a
  decide

theorem State.mem_capacities (s : State) (v : Nat) : v ∈ s.capacities ↔ ∃ a : Addr, ∃ m ∈ s.member a, m.capacity = v := by
  unfold State.capacities
  rw [List.mem_filterMap]
  constructor
  · rintro ⟨a, -, found⟩
    obtain ⟨m, member, same⟩ := Option.map_eq_some_iff.1 found
    exact ⟨a, m, member, same⟩
  · rintro ⟨a, m, member, same⟩
    exact ⟨a, mem_allAddrs a, Option.map_eq_some_iff.2 ⟨m, member, same⟩⟩

/-! ### The view is formed -/

theorem State.refreshView_viewFormed (s : State) : s.refreshView.ViewFormed := by
  have member : s.refreshView.member = s.member := by
    unfold State.member
    rw [s.refreshView_mu]
  unfold State.ViewFormed
  rw [s.refreshView_ct, member]
  refine ⟨valueSet_ascending _, fun v found => ?_, fun a m found => ?_, rfl⟩
  · exact (s.mem_capacities v).1 ((mem_valueSet v _).1 found)
  · exact (mem_valueSet _ _).2 ((s.mem_capacities _).2 ⟨a, m, found, rfl⟩)

theorem viewFormed_of_parts {s t : State} (view : t.ct.capacityView = s.ct.capacityView)
    (set : t.ct.announcedSet = s.ct.announcedSet)
    (capacity : ∀ a, (t.member a).map Member.capacity = (s.member a).map Member.capacity) (formed : s.ViewFormed) :
    t.ViewFormed := by
  have carry : ∀ {u v : State}, (∀ a, (u.member a).map Member.capacity = (v.member a).map Member.capacity) →
      ∀ a, ∀ m ∈ u.member a, ∃ n ∈ v.member a, n.capacity = m.capacity := by
    intro u v same a m found
    have mapped : (v.member a).map Member.capacity = some m.capacity := by
      rw [← same a, Option.mem_def.1 found]
      rfl
    obtain ⟨n, here, eq⟩ := Option.map_eq_some_iff.1 mapped
    exact ⟨n, here, eq⟩
  obtain ⟨ascending, held, all, least⟩ := formed
  unfold State.ViewFormed
  rw [view, set]
  refine ⟨ascending, fun v found => ?_, fun a m found => ?_, least⟩
  · obtain ⟨a, m, here, rfl⟩ := held v found
    obtain ⟨n, there, same⟩ := carry (fun a => (capacity a).symm) a m here
    exact ⟨a, n, there, same⟩
  · obtain ⟨n, there, same⟩ := carry capacity a m found
    rw [← same]
    exact all a n there

theorem viewFormed_of_mu {s t : State} (view : t.ct.capacityView = s.ct.capacityView)
    (set : t.ct.announcedSet = s.ct.announcedSet) (mu : t.mu.roster = s.mu.roster) (formed : s.ViewFormed) :
    t.ViewFormed :=
  viewFormed_of_parts view set (fun a => by unfold State.member; rw [mu]) formed

theorem viewFormed_of_copy {s t : State} (same : t.copy = s.copy) (formed : s.ViewFormed) : t.ViewFormed :=
  viewFormed_of_parts (view_of_copy same) (announcedSet_of_copy same) (capacity_of_copy same) formed

theorem viewFormed_of_empty {s : State} (view : s.ct.capacityView = 0) (set : s.ct.announcedSet = [])
    (empty : s.mu.roster = Roster.empty) : s.ViewFormed := by
  have none : ∀ a, s.member a = none := fun a => by
    unfold State.member
    rw [empty]
    simp [Roster.empty]
  unfold State.ViewFormed
  rw [view, set]
  refine ⟨List.Pairwise.nil, ?_, fun a m found => ?_, rfl⟩
  · exact fun v found => absurd found List.not_mem_nil
  · rw [none a] at found
    cases found

theorem State.recompute_viewFormed (s : State) (formed : s.ViewFormed) : s.recompute.ViewFormed :=
  viewFormed_of_mu (by rw [s.recompute_ct]) (by rw [s.recompute_ct]) (by rw [s.recompute_mu]) formed

theorem State.evaluateIf_viewFormed (s : State) (p : Bool) (formed : s.ViewFormed) : (s.evaluateIf p).ViewFormed :=
  viewFormed_of_copy (s.evaluateIf_copy p) formed

theorem State.removeMember_viewFormed (s : State) (a : Addr) (formed : s.ViewFormed) : (s.removeMember a).ViewFormed := by
  by_cases member : s.isMember a = true
  · rw [s.removeMember_of_member member]
    refine viewFormed_of_copy (copy_of_calm ((State.tellHalt_calm _ a).trans ?_))
      (State.refreshView_viewFormed ((s.setTable (clearRow s.ct.table a)).setMember a none))
    unfold State.without
    rw [State.raise_calm]
  · rw [s.removeMember_of_not_member (by simpa using member)]
    exact formed

theorem State.setOrphans_viewFormed (s : State) (os : List Orphan) (formed : s.ViewFormed) : (s.setOrphans os).ViewFormed :=
  viewFormed_of_mu (by rw [s.setOrphans_ct]) (by rw [s.setOrphans_ct]) (by rw [s.setOrphans_mu]) formed

theorem State.dropOrphan_viewFormed (s : State) (a : Addr) (formed : s.ViewFormed) : (s.dropOrphan a).ViewFormed := by
  unfold State.dropOrphan
  split
  · exact s.setOrphans_viewFormed _ formed
  · exact formed

theorem State.steppingOut_viewFormed (s : State) (st : StationState) (cause : IsolationCause) (e : SiteEvent)
    (formed : s.ViewFormed) : (s.steppingOut st cause e).ViewFormed :=
  viewFormed_of_copy (s.steppingOut_copy st cause e) (State.removeMember_viewFormed _ s.own formed)

theorem State.selfDrop_viewFormed (s : State) (formed : s.ViewFormed) : s.selfDrop.ViewFormed := by
  unfold State.selfDrop
  split
  · exact viewFormed_of_copy (s.enterIsolated_copy _) (s.steppingOut_viewFormed _ _ _ formed)
  · exact formed

theorem State.applyClaim_viewFormed (s : State) (a : Addr) (c l d p k : Byte) (formed : s.ViewFormed) :
    (s.applyClaim a c l d p k).ViewFormed := by
  have table : ∀ t, (s.setTable t).ViewFormed := fun t => formed
  unfold State.applyClaim
  split
  · split
    · split
      · dsimp only
        split
        · exact formed
        · exact table _
      · exact formed
    · split
      · exact table _
      · exact formed
  · exact formed

theorem State.applyBody_viewFormed (s : State) (f : Frame) (formed : s.ViewFormed) : (s.applyBody f).ViewFormed := by
  unfold State.applyBody
  split
  · rw [State.applyBeat_eq]
    exact State.refreshView_viewFormed _
  · exact s.applyClaim_viewFormed _ _ _ _ _ _ formed
  · exact formed
  · exact viewFormed_of_copy (s.modMember_copy _ _ fun _ => rfl) formed
  · unfold State.applyDrop
    split
    · exact formed
    · split
      · exact s.selfDrop_viewFormed formed
      · split
        · unfold State.dropMember
          refine State.removeMember_viewFormed _ _ ?_
          split
          · exact s.setOrphans_viewFormed _ formed
          · exact formed
        · exact formed
  · unfold State.applyPurge
    split
    · exact formed
    · split
      · exact s.selfDrop_viewFormed formed
      · split
        · exact s.dropOrphan_viewFormed _ formed
        · exact s.removeMember_viewFormed _ formed
  · unfold State.applyLeave
    split
    · exact formed
    · exact s.removeMember_viewFormed _ formed
  · exact viewFormed_of_copy (s.applyHalt_copy _) formed
  · exact viewFormed_of_copy (copy_of_calm (s.applyHaltAck_calm _ _)) formed
  · exact viewFormed_of_copy s.applyRelease_copy formed

theorem State.hear_copy (s : State) (f : Frame) : (s.hear f).copy = s.copy := s.modMember_copy _ _ fun _ => rfl

theorem State.heed_viewFormed (s : State) (f : Frame) (formed : s.ViewFormed) : (s.heed f).ViewFormed := by
  unfold State.heed
  exact State.recompute_viewFormed _ (State.applyBody_viewFormed _ f (viewFormed_of_copy (s.hear_copy f) formed))

theorem Turn.viewFormed {s t : State} (one : Turn s t) (formed : s.ViewFormed) : t.ViewFormed := by
  cases one with
  | listen k n station =>
    unfold State.relisten
    rw [State.startListening_eq]
    exact State.evaluateIf_viewFormed _ _ (State.recompute_viewFormed _
      (viewFormed_of_empty (by rw [State.emptied_ct]) (by rw [State.emptied_ct]) (by rw [State.emptied_mu])))
  | clash tx =>
    rw [s.enterClash_eq]
    exact State.evaluateIf_viewFormed _ _ (State.recompute_viewFormed _
      (viewFormed_of_copy s.clashed_copy (s.steppingOut_viewFormed _ _ _ formed)))
  | isolate tx =>
    exact State.recompute_viewFormed _
      (viewFormed_of_copy (s.enterIsolated_copy _) (s.steppingOut_viewFormed _ _ _ formed))
  | left x tx item =>
    rw [State.enterConfig_eq]
    exact State.evaluateIf_viewFormed _ _ (State.recompute_viewFormed _
      (viewFormed_of_empty (by rw [State.configured_ct]) (by rw [State.configured_ct]) (by rw [State.configured_mu])))
  | sent x tx item =>
    have counted : (s.countSent x).ViewFormed := formed
    exact State.heed_viewFormed _ _ counted
  | heard f tx other station known => exact s.heed_viewFormed f formed

theorem Event.viewFormed {s t : State} (one : Event s t) (formed : s.ViewFormed) : t.ViewFormed :=
  one.alike_or_turn.elim (fun same => viewFormed_of_copy same.copy formed) fun turn => turn.viewFormed formed

end Sys2Proof.Machine
end

section
/-!
SUPPORT. The site capacity view as a law of every step.
-/

namespace Sys2Proof

open Sys2Proof.Machine

/-- Settles O58: an event leaves the announced capacities and the view, or forms the view anew. -/
theorem stepKeepsViewFormed : Obligations.StepKeepsViewFormed := by
  intro s t formed done
  exact step_keeps (P := State.ViewFormed) (fun _ _ high one law => ⟨one.viewFormed law, one.inReset high⟩)
    (fun _ _ => viewFormed_of_empty rfl rfl rfl) (fun _ _ _ law => law) (fun _ _ _ law => law)
    (fun _ _ law => law) formed done

end Sys2Proof
end

section
/-!
SUPPORT. The laws of membership (R128, R132, R133, R2) through every event.
-/

namespace Sys2Proof.Machine

/-! ### What is held for sending -/

theorem StationState.active_of_loud {st : StationState} (loud : st.silent = false) : st.active = true := by
  cases st <;> first | rfl | cases loud

theorem StationState.active_or_listening_of_takes {st : StationState} {f : OutFrame} (takes : st.takes f = true) :
    st.active = true ∨ st = .listening := by
  cases st <;> first | exact .inl rfl | exact .inr rfl | cases takes

theorem StationState.beat_of_takes {f : OutFrame} (takes : StationState.listening.takes f = true) : f = .beat := by
  simpa [StationState.takes] using takes

theorem mem_insertOut {f g : OutFrame} {out : List OutFrame} (member : g ∈ insertOut f out) :
    g ∈ out ∨ g = f ∨ ∃ h ∈ out, h.sameKey f = true ∧ g = h.combine f := by
  rcases insertOut_places f out with ⟨-, placed⟩ | ⟨older, h, newer, rfl, -, same, placed⟩
  · rw [placed, List.mem_append, List.mem_singleton] at member
    exact member.elim .inl fun here => .inr (.inl here)
  · rw [placed, List.mem_append, List.mem_cons] at member
    rcases member with before | rfl | after
    · exact .inl (List.mem_append_left _ before)
    · exact .inr (.inr ⟨h, by simp, same, rfl⟩)
    · exact .inl (by simp [after])

theorem beats_insertOut {out : List OutFrame} (beats : ∀ f ∈ out, f = .beat) : ∀ f ∈ insertOut .beat out, f = .beat := by
  intro f member
  rcases mem_insertOut member with old | rfl | ⟨h, old, -, rfl⟩
  · exact beats f old
  · rfl
  · rw [beats h old]
    rfl

theorem sendingSound_of_parts {s t : State} (out : t.bus.outbound = s.bus.outbound) (tx : t.bus.tx = s.bus.tx)
    (station : t.mu.station = s.mu.station) (own : t.own = s.own) (sound : s.SendingSound) : t.SendingSound := by
  unfold State.SendingSound
  rw [out, tx, station, own]
  exact sound

/-- In an active station only the frame on the line has a law. -/
theorem sendingSound_of_active {s t : State} (active : t.mu.station.active = true) (tx : t.bus.tx = s.bus.tx)
    (own : t.own = s.own) (sound : s.SendingSound) : t.SendingSound := by
  obtain ⟨-, -, frame⟩ := sound
  refine ⟨fun _ => .inl active, fun listening => ?_, ?_⟩
  · rw [listening] at active
    cases active
  · rw [tx, own]
    exact frame

/-- With nothing held and nothing on the line. -/
theorem sendingSound_of_idle {t : State} (out : t.bus.outbound = []) (tx : t.bus.tx = none) : t.SendingSound := by
  unfold State.SendingSound
  rw [out, tx]
  refine ⟨fun held => ?_, fun _ => ⟨by simp, rfl⟩, rfl⟩
  simp at held

theorem State.enqueue_sendingSound (s : State) (f : OutFrame) (sound : s.SendingSound) : (s.enqueue f).SendingSound := by
  unfold State.enqueue
  split
  · next takes =>
    obtain ⟨-, beats, frame⟩ := sound
    refine ⟨fun _ => StationState.active_or_listening_of_takes takes, fun listening => ?_, frame⟩
    obtain ⟨held, sending⟩ := beats listening
    have here : s.mu.station = .listening := listening
    rw [here] at takes
    obtain rfl := StationState.beat_of_takes takes
    exact ⟨beats_insertOut held, sending⟩
  · exact sound

theorem RunMove.sendingSound {s t : State} (one : RunMove s t) (sound : s.SendingSound) : t.SendingSound := by
  have mu := congrArg MemberUnit.station (mu_of_bare one.bare)
  have own : t.own = s.own := congrArg StrapPins.addr (straps_of_bare one.bare)
  rcases one.outbound with same | ⟨loud, -⟩
  · exact sendingSound_of_parts same (tx_of_bare one.bare) mu own sound
  · exact sendingSound_of_active (by rw [mu]; exact StationState.active_of_loud loud) (tx_of_bare one.bare) own sound

theorem RunSide.sendingSound {s t : State} (chain : RunSide s t) (sound : s.SendingSound) : t.SendingSound :=
  chain.keep (P := State.SendingSound) (fun _ _ one => one.sendingSound) sound

/-! ### The laws together -/

/-- R2, R133, R128: the laws of membership while RST# is high. -/
structure State.Seated (s : State) : Prop where
  own : s.OwnRecord
  entries : s.EntriesOwned
  sending : s.SendingSound

theorem ownRecord_of_parts {s t : State} (member : ∀ a, t.isMember a = s.isMember a) (own : t.own = s.own)
    (active : t.mu.station.active = s.mu.station.active) (law : s.OwnRecord) : t.OwnRecord := by
  unfold State.OwnRecord
  rw [member, own, active]
  exact law

theorem entriesOwned_of_parts {s t : State} (member : ∀ a, t.isMember a = s.isMember a)
    (table : t.ct.table = s.ct.table) (law : s.EntriesOwned) : t.EntriesOwned := by
  intro a other c
  rw [table]
  exact law a ((member a).symm.trans other) c

/-- A copy left alone, with the station's activity and what is held for sending. -/
theorem State.Seated.of_copy {s t : State} (copy : t.copy = s.copy) (active : t.mu.station.active = s.mu.station.active)
    (sending : t.SendingSound) (seated : s.Seated) : t.Seated :=
  ⟨ownRecord_of_parts (isMember_of_copy copy) (own_of_copy copy) active seated.own,
    entriesOwned_of_parts (isMember_of_copy copy) (table_of_copy copy) seated.entries, sending⟩

theorem State.Seated.alike {s t : State} (same : Alike s t) (sending : t.SendingSound) (seated : s.Seated) : t.Seated :=
  seated.of_copy same.copy same.active sending

theorem State.Seated.of_calm {s t : State} (calm : t.calm = s.calm) (seated : s.Seated) : t.Seated := by
  have mu := mu_of_calm calm
  have bus := bus_of_calm calm
  exact seated.of_copy (copy_of_calm calm) (by rw [mu])
    (sendingSound_of_parts (by rw [bus]) (by rw [bus]) (by rw [mu]) (own_of_copy (copy_of_calm calm)) seated.sending)

theorem State.Seated.runSide {s t : State} (chain : RunSide s t) (seated : s.Seated) : t.Seated :=
  seated.alike (.of_bare chain.bare) (chain.sendingSound seated.sending)

theorem State.Seated.enqueue {s : State} (f : OutFrame) (seated : s.Seated) : (s.enqueue f).Seated :=
  seated.alike (.of_bare (s.enqueue_bare f)) (s.enqueue_sendingSound f seated.sending)

/-- Where the station is active before and after, with one copy. -/
theorem State.Seated.of_active {s t : State} (copy : t.copy = s.copy) (was : s.mu.station.active = true)
    (active : t.mu.station.active = true) (tx : t.bus.tx = s.bus.tx) (seated : s.Seated) : t.Seated :=
  seated.of_copy copy (active.trans was.symm) (sendingSound_of_active active tx (own_of_copy copy) seated.sending)

/-- Where table, roster, station and bus are as they were. -/
theorem State.Seated.of_parts {s t : State} (table : t.ct.table = s.ct.table) (roster : t.mu.roster = s.mu.roster)
    (station : t.mu.station = s.mu.station) (straps : t.straps = s.straps) (bus : t.bus = s.bus) (seated : s.Seated) :
    t.Seated := by
  have member : ∀ a, t.isMember a = s.isMember a := fun a => by
    unfold State.isMember State.member
    rw [roster]
  have own : t.own = s.own := congrArg StrapPins.addr straps
  exact ⟨ownRecord_of_parts member own (by rw [station]) seated.own, entriesOwned_of_parts member table seated.entries,
    sendingSound_of_parts (by rw [bus]) (by rw [bus]) station own seated.sending⟩

theorem State.Seated.modMember {s : State} (a : Addr) (f : Member → Member) (seated : s.Seated) : (s.modMember a f).Seated :=
  ⟨ownRecord_of_parts (fun b => s.isMember_modMember a b f) rfl rfl seated.own,
    entriesOwned_of_parts (fun b => s.isMember_modMember a b f) rfl seated.entries,
    sendingSound_of_parts rfl rfl rfl rfl seated.sending⟩

theorem State.setOrphans_calm (s : State) (os : List Orphan) :
    (s.setOrphans os).calm = (s.setMu { s.mu with orphans := os }).calm := State.raiseIf_calm _ _ _

theorem State.Seated.setOrphans {s : State} (os : List Orphan) (seated : s.Seated) : (s.setOrphans os).Seated := by
  have calm := s.setOrphans_calm os
  exact seated.of_parts (by rw [ct_of_calm calm]; rfl) (by rw [mu_of_calm calm]; rfl) (by rw [mu_of_calm calm]; rfl)
    (by rw [straps_of_calm calm]; rfl) (by rw [bus_of_calm calm]; rfl)

theorem State.Seated.dropOrphan {s : State} (a : Addr) (seated : s.Seated) : (s.dropOrphan a).Seated := by
  unfold State.dropOrphan
  split
  · exact seated.setOrphans _
  · exact seated

/-! ### Members leave and join -/

theorem State.refreshView_calm (s : State) : s.refreshView.calm = (s.setCt { s.ct with
    capacityView := (valueSet s.capacities).headD 0, announcedSet := valueSet s.capacities }).calm :=
  State.raiseIf_calm _ _ _

theorem State.Seated.refreshView {s : State} (seated : s.Seated) : s.refreshView.Seated := by
  have calm := s.refreshView_calm
  exact seated.of_parts (by rw [ct_of_calm calm]; rfl) (by rw [mu_of_calm calm]; rfl) (by rw [mu_of_calm calm]; rfl)
    (by rw [straps_of_calm calm]; rfl) (by rw [bus_of_calm calm]; rfl)

theorem State.isMember_removeMember (s : State) (a b : Addr) :
    (s.removeMember a).isMember b = (s.isMember b && decide (b ≠ a)) := by
  by_cases member : s.isMember a = true
  · rw [s.removeMember_of_member member]
    have mu : ((s.without a).tellHalt a).mu = ((s.setTable (clearRow s.ct.table a)).setMember a none).mu := by
      rw [mu_of_calm (State.tellHalt_calm _ a)]
      unfold State.without State.raise
      rw [State.setEvents_mu, State.refreshView_mu]
    have same : ((s.without a).tellHalt a).isMember b =
        ((s.setTable (clearRow s.ct.table a)).setMember a none).isMember b := by
      unfold State.isMember State.member
      rw [mu]
    rw [same, State.isMember_setMember]
    by_cases here : a = b
    · subst here
      simp
    · have there : ¬ b = a := fun e => here e.symm
      simp only [here, there, if_false, ne_eq, not_false_eq_true, decide_true, Bool.and_true]
      rfl
  · rw [s.removeMember_of_not_member (by simpa using member)]
    by_cases here : b = a
    · subst here
      simpa using member
    · simp [here]

theorem State.removeMember_bus (s : State) (a : Addr) : (s.removeMember a).bus = s.bus :=
  bus_of_plant (s.removeMember_plant a)

theorem State.removeMember_own (s : State) (a : Addr) : (s.removeMember a).own = s.own :=
  congrArg StrapPins.addr (straps_of_plant (s.removeMember_plant a))

theorem State.removeMember_station (s : State) (a : Addr) : (s.removeMember a).mu.station = s.mu.station := by
  by_cases member : s.isMember a = true
  · rw [s.removeMember_of_member member, mu_of_calm (State.tellHalt_calm _ a)]
    unfold State.without State.raise
    rw [State.setEvents_mu, State.refreshView_mu]
    rfl
  · rw [s.removeMember_of_not_member (by simpa using member)]

theorem State.removeMember_entriesOwned (s : State) (a : Addr) (law : s.EntriesOwned) : (s.removeMember a).EntriesOwned := by
  intro b other c
  rw [s.isMember_removeMember, Bool.and_eq_false_iff] at other
  rw [s.removeMember_table]
  split
  · rw [slot_clearRow]
    split
    · rfl
    · next there =>
      refine law b (other.resolve_right fun e => ?_) c
      exact there (by simpa using e : b = a).symm
  · next noMember =>
    refine law b (other.elim id fun e => ?_) c
    have here : b = a := by simpa using e
    rw [here]
    simpa using noMember

theorem State.Seated.removeMember {s : State} {a : Addr} (other : a ≠ s.own) (seated : s.Seated) :
    (s.removeMember a).Seated := by
  refine ⟨?_, s.removeMember_entriesOwned a seated.entries, ?_⟩
  · unfold State.OwnRecord
    rw [s.isMember_removeMember, s.removeMember_own, s.removeMember_station]
    have kept : decide (s.own ≠ a) = true := decide_eq_true fun e => other e.symm
    rw [kept, Bool.and_true]
    exact seated.own
  · exact sendingSound_of_parts (by rw [s.removeMember_bus]) (by rw [s.removeMember_bus]) (s.removeMember_station a)
      (s.removeMember_own a) seated.sending

theorem State.announceGone_mu (s : State) : s.announceGone.mu = s.mu := rfl
theorem State.announceGone_bus (s : State) : s.announceGone.bus = s.bus := rfl

/-- An entry to ISOLATED or CLASH takes the own record from the roster. -/
theorem State.steppingOut_seatedCopy {s t : State} {st : StationState} {cause : IsolationCause} {e : SiteEvent}
    (copy : t.copy = (s.steppingOut st cause e).copy) (idle : t.mu.station.active = false) (seated : s.Seated) :
    t.OwnRecord ∧ t.EntriesOwned := by
  have removed := copy.trans (s.steppingOut_copy st cause e)
  have entries := State.removeMember_entriesOwned ((s.setMu { s.mu with
    station := st, cause := cause, listenWindow := none }).raise e) s.own seated.entries
  refine ⟨?_, entriesOwned_of_parts (isMember_of_copy removed) (table_of_copy removed) entries⟩
  unfold State.OwnRecord
  rw [own_of_copy removed, isMember_of_copy removed, State.isMember_removeMember, State.removeMember_own, idle]
  have gone : decide (s.own ≠ s.own) = false := by simp
  exact (congrArg _ gone).trans (Bool.and_false _)

theorem State.steppingOut_plant (s : State) (st : StationState) (cause : IsolationCause) (e : SiteEvent) :
    (s.steppingOut st cause e).plant = s.plant := by
  unfold State.steppingOut
  dsimp only
  rw [State.setAdoption_plant, State.clearStale_plant, State.settleOwn_plant, State.removeMember_plant, State.raise_plant,
    State.setMu_plant]

theorem State.steppingOut_station (s : State) (st : StationState) (cause : IsolationCause) (e : SiteEvent) :
    (s.steppingOut st cause e).mu.station = st := by
  unfold State.steppingOut State.setAdoption State.clearStale
  dsimp only
  rw [State.setCt_mu, State.setMu_mu]
  dsimp only
  rw [mu_of_calm (State.settleOwn_calm _), State.removeMember_station]
  rfl

theorem State.enterIsolated_station (s : State) (cause : IsolationCause) :
    (s.enterIsolated cause).mu.station = .isolated := by
  rw [s.enterIsolated_eq, State.setBus_mu, State.setHu_mu, s.isolating_eq, State.announceGone_mu,
    mu_of_bare (State.closeAll_bare _ _), State.steppingOut_station]

theorem State.enterIsolated_outbound (s : State) (cause : IsolationCause) : (s.enterIsolated cause).bus.outbound = [] := rfl

theorem State.enterIsolated_tx (s : State) (cause : IsolationCause) : (s.enterIsolated cause).bus.tx = s.bus.tx := by
  rw [s.enterIsolated_eq, State.setBus_bus]
  dsimp only
  rw [s.isolating_eq, State.announceGone_bus, tx_of_bare (State.closeAll_bare _ _), bus_of_plant (s.steppingOut_plant _ _ _)]

theorem State.Seated.enterIsolated {s : State} (cause : IsolationCause) (tx : s.bus.tx = none) (seated : s.Seated) :
    (s.enterIsolated cause).Seated := by
  obtain ⟨own, entries⟩ := State.steppingOut_seatedCopy (s.enterIsolated_copy cause)
    (by rw [s.enterIsolated_station]; rfl) seated
  exact ⟨own, entries, sendingSound_of_idle (s.enterIsolated_outbound cause) ((s.enterIsolated_tx cause).trans tx)⟩

theorem State.clashed_station (s : State) : s.clashed.mu.station = .clash := by
  unfold State.clashed
  rw [State.setBus_mu, State.setHu_mu, s.clashing_eq, mu_of_bare (State.closeAll_bare _ _), State.steppingOut_station]

theorem State.clashed_tx (s : State) : s.clashed.bus.tx = s.bus.tx := by
  unfold State.clashed
  rw [State.setBus_bus]
  dsimp only
  rw [s.clashing_eq, tx_of_bare (State.closeAll_bare _ _), bus_of_plant (s.steppingOut_plant _ _ _)]

theorem State.Seated.clashed {s : State} (tx : s.bus.tx = none) (seated : s.Seated) : s.clashed.Seated := by
  obtain ⟨own, entries⟩ := State.steppingOut_seatedCopy s.clashed_copy (by rw [s.clashed_station]; rfl) seated
  exact ⟨own, entries, sendingSound_of_idle rfl (s.clashed_tx.trans tx)⟩

theorem State.Seated.setTable {s : State} {t : Table}
    (owned : ∀ a : Addr, s.isMember a = false → ∀ c : Chan, slot t a c = none) (seated : s.Seated) : (s.setTable t).Seated :=
  ⟨ownRecord_of_parts (fun _ => rfl) rfl rfl seated.own, owned, sendingSound_of_parts rfl rfl rfl rfl seated.sending⟩

theorem State.Seated.setAlloc {s : State} (r : AllocResult) (seated : s.Seated) : (s.setAlloc r).Seated :=
  seated.of_parts (by rfl) (by rfl) (by rfl) (by rfl) (by rfl)

theorem slot_allocate_none {s : State} {a : Addr} {c : Chan} (empty : slot s.ct.table a c = none) :
    slot s.allocate.table a c = none := by
  rw [slot_allocate, empty]
  rfl

theorem State.Seated.recompute {s : State} (seated : s.Seated) : s.recompute.Seated := by
  have written : (s.setTable s.allocate.table).Seated :=
    seated.setTable fun a other c => slot_allocate_none (seated.entries a other c)
  exact (written.setAlloc s.allocate.result).runSide (RunSide.recompute s)

theorem State.Seated.evaluateIf {s : State} (p : Bool) (seated : s.Seated) : (s.evaluateIf p).Seated :=
  seated.runSide (RunSide.evaluateIf s p)

/-! ### The appliers -/

theorem State.Seated.enterHalted {s : State} (r : BitVec 4) (f : HaltUnit → HaltUnit) (seated : s.Seated) :
    (s.enterHalted r f).Seated := by
  rw [s.enterHalted_eq]
  exact (seated.of_calm (s.halting_calm r f)).runSide (RunSide.closeAll _ _)

theorem State.Seated.setHu {s : State} (v : HaltUnit) (seated : s.Seated) : (s.setHu v).Seated :=
  seated.of_calm (s.setHu_calm v)

theorem State.Seated.applyHalt {s : State} (r : BitVec 4) (seated : s.Seated) : (s.applyHalt r).Seated := by
  unfold State.applyHalt
  split
  · exact seated.setHu _
  · split <;> exact seated.enterHalted _ _

theorem State.Seated.adoptHalt {s : State} (k : HaltState) (r : BitVec 4) (seated : s.Seated) : (s.adoptHalt k r).Seated := by
  unfold State.adoptHalt
  split
  · exact (seated.setHu _).of_calm (State.raiseIf_calm _ _ _)
  · split
    · exact seated.setHu _
    · exact seated.enterHalted _ _
  · exact (seated.setHu _).of_calm (State.raiseIf_calm _ _ _)

theorem State.Seated.mergeHalt {s : State} (k : HaltState) (r : BitVec 4) (seated : s.Seated) : (s.mergeHalt k r).Seated := by
  unfold State.mergeHalt
  split
  · exact seated.setHu _
  · split
    · exact seated
    · exact seated.enterHalted _ _
  · exact seated

theorem State.Seated.applyRelease {s : State} (seated : s.Seated) : s.applyRelease.Seated := by
  have turned := seated.of_calm s.turnToSettling_calm
  by_cases halted : s.hu.halt = .halted
  · rw [s.applyRelease_eq halted]
    split
    · exact turned.enqueue _
    · exact turned
  · rw [s.applyRelease_of_not_halted halted]
    exact seated

theorem State.Seated.selfDrop {s : State} (tx : s.bus.tx = none) (seated : s.Seated) : s.selfDrop.Seated := by
  unfold State.selfDrop
  split
  · exact seated.enterIsolated _ tx
  · exact seated

theorem State.setOrphans_own (s : State) (os : List Orphan) : (s.setOrphans os).own = s.own :=
  congrArg StrapPins.addr (straps_of_plant (s.setOrphans_plant os))

theorem State.Seated.dropMember {s : State} {a : Addr} (other : a ≠ s.own) (seated : s.Seated) : (s.dropMember a).Seated := by
  unfold State.dropMember
  dsimp only
  split
  · exact (seated.setOrphans _).removeMember (by rw [s.setOrphans_own]; exact other)
  · exact seated.removeMember other

theorem State.Seated.applyDrop {s : State} (t : Byte) (tx : s.bus.tx = none) (seated : s.Seated) : (s.applyDrop t).Seated := by
  unfold State.applyDrop
  split
  · exact seated
  · split
    · exact seated.selfDrop tx
    · next other =>
      split
      · exact seated.dropMember other
      · exact seated

theorem State.Seated.applyPurge {s : State} (t : Byte) (tx : s.bus.tx = none) (seated : s.Seated) :
    (s.applyPurge t).Seated := by
  unfold State.applyPurge
  split
  · exact seated
  · split
    · exact seated.selfDrop tx
    · next other =>
      split
      · exact seated.dropOrphan _
      · exact seated.removeMember other

theorem State.Seated.applyLeave {s : State} (a : Addr) (seated : s.Seated) : (s.applyLeave a).Seated := by
  unfold State.applyLeave
  split
  · exact seated
  · next other => exact seated.removeMember other

theorem State.EntriesOwned.setSlot {s : State} {a : Addr} (c : Chan) (e : Option Entry) (member : s.isMember a = true)
    (law : s.EntriesOwned) : ∀ b : Addr, s.isMember b = false → ∀ d : Chan, slot (setSlot s.ct.table a c e) b d = none := by
  intro b other d
  rw [slot_setSlot]
  split
  · next here =>
    rw [here.1, other] at member
    cases member
  · exact law b other d

theorem State.Seated.setSlot {s : State} {a : Addr} (c : Chan) (e : Option Entry) (member : s.isMember a = true)
    (seated : s.Seated) : (s.setTable (Machine.setSlot s.ct.table a c e)).Seated :=
  seated.setTable (State.EntriesOwned.setSlot c e member seated.entries)

theorem State.Seated.applyClaim {s : State} {a : Addr} (c l d p k : Byte) (member : s.isMember a = true)
    (seated : s.Seated) : (s.applyClaim a c l d p k).Seated := by
  unfold State.applyClaim
  split
  · split
    · split
      · dsimp only
        split
        · exact State.Seated.of_parts (by rfl) (by rfl) (by rfl) (by rfl) (by rfl) (seated.setSlot _ none member)
        · exact seated.setSlot _ none member
      · exact seated
    · split
      · exact seated.setSlot _ _ member
      · exact seated
  · exact seated

/-! ### BEAT -/

theorem slot_replaceEntries_ne (t : Table) {a b : Addr} (mayLatch : Bool) (items : List EntryItem) (c : Chan)
    (other : b ≠ a) : slot (replaceEntries t a mayLatch items) b c = slot t b c := by
  unfold replaceEntries
  refine List.foldlRecOn _ _ (motive := fun u => slot u b c = slot t b c) ?_ fun u kept i _ => ?_
  · rw [slot_clearRow, if_neg fun e => other e.symm]
  · rw [slot_setSlot, if_neg fun e => other e.1.symm]
    exact kept

theorem State.Seated.beatEntries {s : State} {a : Addr} (items : List EntryItem) (member : s.isMember a = true)
    (seated : s.Seated) : (s.beatEntries a items).Seated := by
  refine State.Seated.modMember a _ (seated.setTable fun b other c => ?_)
  rw [slot_replaceEntries_ne]
  · exact seated.entries b other c
  · intro here
    rw [here, member] at other
    cases other

theorem State.isMember_dropOrphan (s : State) (a b : Addr) : (s.dropOrphan a).isMember b = s.isMember b := by
  unfold State.isMember State.member
  rw [s.dropOrphan_mu]

theorem State.isMember_setOrphans (s : State) (os : List Orphan) (b : Addr) : (s.setOrphans os).isMember b = s.isMember b := by
  unfold State.isMember State.member
  rw [s.setOrphans_mu]

/-- Stage 1 of a BEAT of a sender that is not a member, before the entry to SYNCED. -/
def State.withMember (s : State) (a : Addr) (m : Member) : State :=
  ((s.setMember a (some m)).raise .rosterChanged).dropOrphan a

theorem State.isMember_withMember (s : State) (a b : Addr) (m : Member) :
    (s.withMember a m).isMember b = (s.isMember b || decide (b = a)) := by
  unfold State.withMember
  rw [State.isMember_dropOrphan]
  show (s.setMember a (some m)).isMember b = _
  rw [State.isMember_setMember]
  by_cases here : a = b
  · subst here
    simp
  · have there : ¬ b = a := fun e => here e.symm
    simp [here, there]

theorem State.withMember_station (s : State) (a : Addr) (m : Member) : (s.withMember a m).mu.station = s.mu.station := by
  unfold State.withMember
  rw [State.dropOrphan_mu]
  rfl

theorem State.withMember_plant (s : State) (a : Addr) (m : Member) : (s.withMember a m).plant = s.plant := by
  unfold State.withMember
  rw [State.dropOrphan_plant, State.raise_plant]
  rfl

theorem State.withMember_bus (s : State) (a : Addr) (m : Member) : (s.withMember a m).bus = s.bus :=
  bus_of_plant (s.withMember_plant a m)

theorem State.withMember_straps (s : State) (a : Addr) (m : Member) : (s.withMember a m).straps = s.straps :=
  straps_of_plant (s.withMember_plant a m)

theorem State.withMember_ct (s : State) (a : Addr) (m : Member) : (s.withMember a m).ct = s.ct := by
  unfold State.withMember
  rw [State.dropOrphan_ct]
  rfl

/-- R134: the record of a sender that is added. -/
def State.newMember (s : State) (a : Addr) (seq : Seq) (b : BeatBody) : Member :=
  { weight := clampWeight b.weight, cap := clampCapacity b.cap, capacity := clampCapacity b.capacity, gauge := none,
    lastSeq := seq, heard := s.clock.seconds, stale := false,
    silence := if a = s.own then none else some Config.silenceMs, silent := false }

theorem State.addMember_eq (s : State) (a : Addr) (seq : Seq) (b : BeatBody) :
    s.addMember a seq b = if a = s.own ∧ s.mu.station = .listening then (s.withMember a (s.newMember a seq b)).enterSynced
      else s.withMember a (s.newMember a seq b) := rfl

theorem State.withMember_entriesOwned (s : State) (a : Addr) (m : Member) (law : s.EntriesOwned) :
    (s.withMember a m).EntriesOwned := by
  intro b other c
  rw [s.isMember_withMember, Bool.or_eq_false_iff] at other
  rw [s.withMember_ct]
  exact law b other.1 c

/-- A station joins the roster: another one, or the station itself in LISTENING (R143). -/
theorem State.Seated.addMember {s : State} {a : Addr} (seq : Seq) (b : BeatBody) (other : s.isMember a = false)
    (may : a = s.own → s.mu.station.active = true ∨ s.mu.station = .listening) (seated : s.Seated) :
    (s.addMember a seq b).Seated := by
  have entries := s.withMember_entriesOwned a (s.newMember a seq b) seated.entries
  have own : (s.withMember a (s.newMember a seq b)).own = s.own :=
    congrArg StrapPins.addr (s.withMember_straps a _)
  have tx : (s.withMember a (s.newMember a seq b)).bus.tx = s.bus.tx := by rw [s.withMember_bus]
  rw [s.addMember_eq]
  by_cases self : a = s.own
  · have listening : s.mu.station = .listening := by
      refine (may self).resolve_left fun active => ?_
      have mine : s.isMember s.own = s.mu.station.active := seated.own
      rw [← self, other, active] at mine
      cases mine
    rw [if_pos ⟨self, listening⟩]
    have copy := State.enterSynced_copy (s.withMember a (s.newMember a seq b))
    have synced := State.enterSynced_station (s.withMember a (s.newMember a seq b))
    refine ⟨?_, entriesOwned_of_parts (isMember_of_copy copy) (table_of_copy copy) entries, ?_⟩
    · unfold State.OwnRecord
      rw [own_of_copy copy, isMember_of_copy copy, own, s.isMember_withMember, synced, self]
      simp [StationState.active]
    · refine sendingSound_of_active (by rw [synced]; rfl) ?_ ((own_of_copy copy).trans own) seated.sending
      rw [tx_of_bare (State.enterSynced_bare _)]
      exact tx
  · rw [if_neg fun e => self e.1]
    refine ⟨?_, entries, ?_⟩
    · unfold State.OwnRecord
      rw [own, s.isMember_withMember, s.withMember_station, decide_eq_false fun e => self e.symm, Bool.or_false]
      exact seated.own
    · exact sendingSound_of_parts (by rw [s.withMember_bus]) tx (s.withMember_station a _) own seated.sending

theorem State.isMember_addMember (s : State) (a b : Addr) (seq : Seq) (body : BeatBody) :
    (s.addMember a seq body).isMember b = (s.isMember b || decide (b = a)) := by
  rw [s.addMember_eq]
  split
  · rw [isMember_of_copy (State.enterSynced_copy _), s.isMember_withMember]
  · exact s.isMember_withMember a b _

theorem State.isMember_beatStation (s : State) (a b : Addr) (seq : Seq) (body : BeatBody) :
    (s.beatStation a seq body).isMember b = (s.isMember b || decide (b = a)) := by
  unfold State.beatStation
  split
  · next member =>
    rw [State.isMember_modMember]
    by_cases here : b = a
    · subst here
      rw [member]
      rfl
    · simp [here]
  · exact s.isMember_addMember a b seq body

theorem State.isMember_beatView (s : State) (a b : Addr) (body : BeatBody) (adopt : Bool) :
    (s.beatView a body adopt).isMember b = s.isMember b := by
  unfold State.beatView
  split
  · rfl
  · rfl
  · rfl
  · split
    · unfold State.adoptView
      dsimp only
      rw [isMember_of_copy (State.adoptHalt_copy _ _ _), State.isMember_setOrphans]
      rfl
    · unfold State.mergeView
      dsimp only
      rw [isMember_of_copy (State.raiseIf_copy _ _ _), isMember_of_copy (State.mergeHalt_copy _ _ _),
        State.isMember_setOrphans]
      rfl

theorem State.isMember_beatViewed (s : State) (a b : Addr) (seq : Seq) (body : BeatBody) :
    (s.beatViewed a seq body).isMember b = (s.isMember b || decide (b = a)) := by
  unfold State.beatViewed
  rw [isMember_of_copy (copy_of_calm (State.settleRemoval_calm _ a)), State.isMember_beatView]
  unfold State.applyGauge
  rw [State.isMember_modMember, State.isMember_beatStation]

theorem State.Seated.beatView {s : State} (a : Addr) (b : BeatBody) (adopt : Bool) (seated : s.Seated) :
    (s.beatView a b adopt).Seated := by
  have written : ∀ v : ClaimUnit, v.table = s.ct.table → (s.setCt v).Seated := fun v same =>
    seated.of_parts same rfl rfl rfl rfl
  unfold State.beatView
  split
  · exact seated
  · exact seated
  · exact seated
  · split
    · unfold State.adoptView
      exact ((written _ (by rfl)).setOrphans _).adoptHalt _ _
    · unfold State.mergeView
      exact State.Seated.of_calm (State.raiseIf_calm _ _ _) (((written _ (by rfl)).setOrphans _).mergeHalt _ _)

theorem State.Seated.applyBeat {s : State} {a : Addr} (seq : Seq) (b : BeatBody)
    (may : a = s.own → s.mu.station.active = true ∨ s.mu.station = .listening) (seated : s.Seated) :
    (s.applyBeat a seq b).Seated := by
  have stationed : (s.beatStation a seq b).Seated := by
    unfold State.beatStation
    split
    · exact seated.modMember _ _
    · next other => exact seated.addMember seq b (by simpa using other) may
  have viewed : (s.beatViewed a seq b).Seated :=
    ((stationed.modMember a _).beatView a b _).of_calm (State.settleRemoval_calm _ a)
  rw [State.applyBeat_eq]
  refine (viewed.beatEntries b.entries ?_).refreshView
  rw [s.isMember_beatViewed]
  simp

/-- R127: a frame that may be applied: of a member or a BEAT, and one of the station's own only where it may send. -/
structure State.MayHeed (s : State) (f : Frame) : Prop where
  tx : s.bus.tx = none
  known : f.body.isBeat = true ∨ s.isMember f.sender = true
  self : f.sender = s.own → s.mu.station.active = true ∨ s.mu.station = .listening

theorem State.Seated.applyBody {s : State} {f : Frame} (may : s.MayHeed f) (seated : s.Seated) : (s.applyBody f).Seated := by
  unfold State.applyBody
  split
  · exact seated.applyBeat _ _ may.self
  · next body =>
    refine seated.applyClaim _ _ _ _ _ (may.known.resolve_left ?_)
    rw [body]
    exact Bool.false_ne_true
  · exact seated.of_parts (by rfl) (by rfl) (by rfl) (by rfl) (by rfl)
  · exact seated.modMember _ _
  · exact seated.applyDrop _ may.tx
  · exact seated.applyPurge _ may.tx
  · exact seated.applyLeave _
  · exact seated.applyHalt _
  · exact seated.of_calm (s.applyHaltAck_calm _ _)
  · exact seated.applyRelease

theorem State.Seated.heed {s : State} {f : Frame} (may : s.MayHeed f) (seated : s.Seated) : (s.heed f).Seated := by
  have heard : (s.hear f).MayHeed f := by
    refine ⟨may.tx, may.known.imp id fun member => ?_, may.self⟩
    unfold State.hear
    rw [State.isMember_modMember]
    exact member
  unfold State.heed
  exact State.Seated.recompute (State.Seated.applyBody heard (seated.modMember _ _))

/-! ### Every event -/

theorem isMember_of_empty {s : State} (empty : s.mu.roster = Roster.empty) (a : Addr) : s.isMember a = false := by
  unfold State.isMember State.member
  rw [empty]
  simp [Roster.empty]

/-- A station with an empty roster and table. -/
theorem seated_of_empty {s : State} (roster : s.mu.roster = Roster.empty) (table : s.ct.table = Table.empty)
    (idle : s.mu.station.active = false) (sending : s.SendingSound) : s.Seated where
  own := by
    unfold State.OwnRecord
    rw [isMember_of_empty roster, idle]
  entries a _ c := by
    rw [table]
    exact slot_empty a c
  sending := sending

theorem State.emptyCopy_bus (s : State) : s.emptyCopy.bus = s.bus := bus_of_plant s.emptyCopy_plant
theorem State.emptyCopy_straps (s : State) : s.emptyCopy.straps = s.straps := straps_of_plant s.emptyCopy_plant

theorem State.emptied_bus (s : State) (n : Nat) : (s.emptied n).bus =
    { s.bus with outbound := [], seq := 0, failures := n, beatTimer := none } := by
  have bus : (s.emptyCopy.announceGone.setAdoption true).bus = s.bus := by
    unfold State.setAdoption
    rw [State.setCt_bus, State.announceGone_bus, s.emptyCopy_bus]
  unfold State.emptied
  dsimp only
  rw [State.setMu_bus, State.setHu_bus, State.setBus_bus, bus]

theorem State.emptied_straps (s : State) (n : Nat) : (s.emptied n).straps = s.straps := by
  have straps : (s.emptyCopy.announceGone.setAdoption true).straps = s.straps := by
    unfold State.setAdoption State.announceGone
    rw [State.setCt_straps, State.setChans_straps, s.emptyCopy_straps]
  unfold State.emptied
  dsimp only
  rw [State.setMu_straps, State.setHu_straps, State.setBus_straps, straps]

theorem State.configured_bus (s : State) : s.configured.bus = { s.bus with outbound := [], beatTimer := none } := by
  have bus : (((s.setStation .config).emptyCopy.announceGone).setAdoption false).bus = s.bus := by
    unfold State.setAdoption
    rw [State.setCt_bus, State.announceGone_bus, State.emptyCopy_bus]
    rfl
  unfold State.configured
  dsimp only
  rw [State.setMu_bus, State.setHu_bus, State.setBus_bus, bus]

theorem State.Seated.relisten {s : State} (k : IsolationCause) (n : Nat)
    (station : s.mu.station = .config ∨ s.mu.station = .isolated ∨ s.mu.station = .listening) (seated : s.Seated) :
    (s.relisten k n).Seated := by
  obtain ⟨where', beats, frame⟩ := seated.sending
  unfold State.relisten
  rw [State.startListening_eq]
  refine State.Seated.evaluateIf _ (State.Seated.recompute (seated_of_empty (by rw [State.emptied_mu])
    (by rw [State.emptied_ct]) (by rw [State.emptied_mu]; rfl) ?_))
  have listening : ((s.setMu { s.mu with station := .listening, cause := k }).emptied n).mu.station = .listening := by
    rw [State.emptied_mu]
    rfl
  have tx : ((s.setMu { s.mu with station := .listening, cause := k }).emptied n).bus.tx = s.bus.tx := by
    rw [State.emptied_bus]
    rfl
  have own : ((s.setMu { s.mu with station := .listening, cause := k }).emptied n).own = s.own :=
    congrArg StrapPins.addr (State.emptied_straps _ n)
  refine ⟨fun _ => .inr listening, fun _ => ⟨?_, ?_⟩, ?_⟩
  · rw [State.emptied_bus]
    exact fun f member => absurd member List.not_mem_nil
  · rw [tx]
    rcases station with config | isolated | already
    · have none : s.bus.tx = none := by
        cases sending : s.bus.tx with
        | none => rfl
        | some x => have e := where' (.inl (by rw [sending]; rfl)); rw [config] at e; exact (by simp [StationState.active] at e)
      rw [none]
      rfl
    · have none : s.bus.tx = none := by
        cases sending : s.bus.tx with
        | none => rfl
        | some x => have e := where' (.inl (by rw [sending]; rfl)); rw [isolated] at e; exact (by simp [StationState.active] at e)
      rw [none]
      rfl
    · exact (beats already).2
  · rw [tx, own]
    exact frame

/-- R119: only BEATs go back to a set of BEATs. -/
theorem beats_restoreOut {out : List OutFrame} (place : Nat) (beats : ∀ f ∈ out, f = .beat) :
    ∀ f ∈ restoreOut place .beat out, f = .beat := by
  intro f member
  have others : ∀ g ∈ out.filter fun g => !g.sameKey .beat, g = .beat := fun g held => beats g (List.mem_of_mem_filter held)
  unfold restoreOut at member
  dsimp only at member
  rw [List.mem_append, List.mem_cons] at member
  rcases member with before | rfl | after
  · exact others f (List.mem_of_mem_take before)
  · cases found : out.find? fun g => g.sameKey .beat with
    | none => rfl
    | some g =>
      rw [beats g (List.mem_of_find?_eq_some found)]
      rfl
  · exact others f (List.mem_of_mem_drop after)

theorem State.returnFrame_sendingSound (s : State) (x : Transmission) (m : Mismatch) (tx : s.bus.tx = some x)
    (sound : s.SendingSound) : (s.returnFrame x m).SendingSound := by
  obtain ⟨where', beats, -⟩ := sound
  refine ⟨fun _ => where' (.inl (by rw [tx]; rfl)), fun listening => ⟨?_, rfl⟩, rfl⟩
  obtain ⟨held, sending⟩ := beats listening
  have item : x.item = .beat := by simpa [tx] using sending
  show ∀ f ∈ restoreOut x.place x.item s.bus.outbound, f = .beat
  rw [item]
  exact beats_restoreOut x.place held

theorem State.startFrame_tx (s : State) (f : OutFrame) : (s.startFrame f).bus.tx =
    some ⟨⟨s.own, s.bus.seq, s.bodyOf f⟩, f, frontPlace s.bus.outbound⟩ := rfl

theorem State.mem_of_startable {s : State} {m : Moment} {f : OutFrame} (front : s.startable m = some f) :
    f ∈ s.bus.outbound := List.mem_of_getElem? (Option.filter_eq_some_iff.1 front).1

theorem State.startFrame_sendingSound (s : State) (m : Moment) (f : OutFrame) (front : s.startable m = some f)
    (sound : s.SendingSound) : (s.startFrame f).SendingSound := by
  obtain ⟨where', beats, -⟩ := sound
  have held := State.mem_of_startable front
  have station : (s.startFrame f).mu.station = s.mu.station := by
    unfold State.startFrame
    rw [State.announceBeat_parts]
    rfl
  have own : (s.startFrame f).own = s.own := own_of_copy (s.startFrame_alike f).copy
  unfold State.SendingSound
  rw [station, s.startFrame_tx, own]
  refine ⟨fun _ => where' (.inr fun empty => ?_), fun listening => ⟨fun g member => ?_, ?_⟩, ?_⟩
  · rw [empty] at held
    exact List.not_mem_nil held
  · exact (beats listening).1 g (List.mem_of_mem_eraseIdx member)
  · rw [(beats listening).1 f held]
    rfl
  · rw [Option.all_some]
    cases f <;> simp [State.bodyOf, FrameBody.isBeat]

theorem State.setChan_sendingSound (s : State) (c : Chan) (ch : Channel) (sound : s.SendingSound) :
    (s.setChan c ch).SendingSound := sendingSound_of_parts rfl rfl rfl rfl sound

theorem State.addFault_sendingSound (s : State) (c : Chan) (f : Faults → Faults) (sound : s.SendingSound) :
    (s.addFault c f).SendingSound := by
  rw [State.addFault_parts]
  exact sendingSound_of_parts rfl rfl rfl rfl sound

theorem State.admitted_runSide (s : State) (c : Chan) (args : RunArgs) :
    (s.admitted c args).bare = s.reserve.bare := s.admitted_bare c args

theorem State.count_bus (s : State) : s.count.bus = { s.bus with beatTimer := countDown s.bus.beatTimer } := by
  simp only [State.count, State.setClock_bus, State.setBus_bus]

theorem State.count_mu (s : State) : s.count.mu = { s.mu with
    roster := mapVec (Option.map Member.count) s.mu.roster, listenWindow := countDown s.mu.listenWindow } := by
  simp only [State.count, State.setClock_mu, State.setBus_mu, State.setHu_mu, State.setMu_mu]

theorem State.admitted_sendingSound (s : State) (c : Chan) (args : RunArgs) (sound : s.SendingSound) :
    (s.admitted c args).SendingSound := by
  unfold State.admitted
  split
  · exact (RunSide.releaseWaiting _ _).sendingSound (sendingSound_of_parts rfl rfl rfl rfl sound)
  · exact (RunSide.headSelect _ _).sendingSound (sendingSound_of_parts rfl rfl rfl rfl sound)

theorem State.clearFault_sendingSound (s : State) (c : Chan) (sound : s.SendingSound) :
    ((s.takeStuckClosed c).clearFaults c).SendingSound := by
  unfold State.takeStuckClosed
  refine State.setChan_sendingSound _ c _ ?_
  split
  · exact (RunSide.announce _ c).sendingSound (State.setChan_sendingSound s c _ sound)
  · exact sound

theorem State.declareStuck_sendingSound (s : State) (c : Chan) (sound : s.SendingSound) :
    (s.declareStuck c).SendingSound := by
  have stuck : ∀ ch f, ((s.setChan c ch).addFault c f).SendingSound := fun ch f =>
    State.addFault_sendingSound _ c f (s.setChan_sendingSound c ch sound)
  unfold State.declareStuck
  dsimp only
  split
  · split
    · exact (RunSide.depart _ _ _).sendingSound (stuck _ _)
    · exact (RunSide.requeue _ _ _).sendingSound (stuck _ _)
    · exact stuck _ _
  · exact stuck _ _

theorem State.runDry_sendingSound (s : State) (c : Chan) (sound : s.SendingSound) : (s.runDry c).SendingSound := by
  have dry : ∀ ch f, ((s.setChan c ch).addFault c f).SendingSound := fun ch f =>
    State.addFault_sendingSound _ c f (s.setChan_sendingSound c ch sound)
  unfold State.runDry
  dsimp only
  split
  · exact (RunSide.endRun _ _ _).sendingSound (dry _ _)
  · exact dry _ _

theorem State.ackTest_sendingSound (s : State) (sound : s.SendingSound) : s.ackTest.SendingSound := by
  unfold State.ackTest
  split
  · exact s.enqueue_sendingSound _ sound
  · exact sound

theorem State.leaveTest_sendingSound (s : State) (sound : s.SendingSound) : s.leaveTest.SendingSound := by
  unfold State.leaveTest
  split
  · exact s.enqueue_sendingSound _ sound
  · exact sound

theorem State.setAdoption_sendingSound (s : State) (b : Bool) (sound : s.SendingSound) : (s.setAdoption b).SendingSound :=
  sendingSound_of_parts rfl rfl rfl rfl sound

theorem State.markStale_bus (s : State) : s.markStale.bus = s.bus := bus_of_plant s.markStale_plant

theorem State.markStale_sendingSound (s : State) (sound : s.SendingSound) : s.markStale.SendingSound :=
  sendingSound_of_parts (by rw [s.markStale_bus]) (by rw [s.markStale_bus]) s.markStale_station
    (own_of_copy s.markStale_copy) sound

theorem State.loseSync_tx (s : State) : s.loseSync.bus.tx = s.bus.tx := by
  rw [tx_of_bare s.loseSync_bare]
  exact congrArg BusUnit.tx (bus_of_plant ((State.setAdoption_plant _ true).trans
    ((State.markStale_plant ((s.setStation .resync).raise .syncLost)).trans rfl) : s.losing.plant = s.plant))

/-- Every event that writes the copy keeps the laws of membership. -/
theorem Turn.seated {s t : State} (one : Turn s t) (seated : s.Seated) : t.Seated := by
  cases one with
  | listen k n station => exact seated.relisten k n station
  | clash tx =>
    rw [s.enterClash_eq]
    exact (seated.clashed tx).recompute.evaluateIf _
  | isolate tx => exact (seated.enterIsolated .readback tx).recompute
  | left x tx item =>
    rw [State.enterConfig_eq]
    refine State.Seated.evaluateIf _ (State.Seated.recompute (seated_of_empty (by rw [State.configured_mu])
      (by rw [State.configured_ct]) (by rw [State.configured_mu]; rfl) ?_))
    exact sendingSound_of_idle (by rw [State.configured_bus]) (by rw [State.configured_bus]; rfl)
  | sent x tx item =>
    obtain ⟨where', beats, frame⟩ := seated.sending
    rw [tx, Option.all_some, Bool.and_eq_true, beq_iff_eq] at frame
    obtain ⟨sender, isBeat⟩ := frame
    have active := where' (.inl (by rw [tx]; rfl))
    have counted : (s.countSent x).Seated := by
      refine ⟨seated.own, seated.entries, fun held => where' ?_, fun listening => ⟨(beats listening).1, rfl⟩, rfl⟩
      exact .inr (held.resolve_left Bool.false_ne_true)
    refine counted.heed ⟨rfl, ?_, fun _ => active⟩
    rcases active with active | listening
    · refine .inr ?_
      have mine : s.isMember s.own = s.mu.station.active := seated.own
      show s.isMember x.frame.sender = true
      rw [sender, mine, active]
    · refine .inl ?_
      have item : x.item = .beat := by simpa [tx] using (beats listening).2
      simpa [item] using isBeat
  | heard f tx other station known => exact seated.heed ⟨tx, known, fun self => absurd self other⟩

theorem Event.seated {s t : State} (one : Event s t) (seated : s.Seated) : t.Seated := by
  have sound := seated.sending
  rcases one.alike_or_turn with same | turn
  · refine seated.alike same ?_
    cases one with
    | pending | port | pins | clock | events | site | halt | window | member | credit | chan | configure | releaseStuck
    | readLog => exact sendingSound_of_parts rfl rfl rfl rfl sound
    | line b set tx => exact sendingSound_of_parts set tx rfl rfl sound
    | count =>
      exact sendingSound_of_parts (by rw [s.count_bus]) (by rw [s.count_bus]) (by rw [s.count_mu])
        (own_of_copy s.count_copy) sound
    | leave station =>
      refine sendingSound_of_active (by rw [s.startLeaving_station]; rfl) ?_ (own_of_copy s.startLeaving_copy) sound
      rw [tx_of_bare s.startLeaving_bare]
      rfl
    | admission c args present room => exact s.admitted_sendingSound c args sound
    | endRun h e => exact (RunSide.endRun s h e).sendingSound sound
    | clearFault c present => exact s.clearFault_sendingSound c sound
    | enqueue f other => exact s.enqueue_sendingSound f sound
    | announce c => exact (RunSide.announce s c).sendingSound sound
    | ackTest => exact s.ackTest_sendingSound sound
    | leaveTest => exact s.leaveTest_sendingSound sound
    | completeClose c closing => exact (RunSide.completeClose s c).sendingSound sound
    | declareStuck c closing present => exact s.declareStuck_sendingSound c sound
    | runDry c opened => exact s.runDry_sendingSound c sound
    | leak c closed => exact s.addFault_sendingSound c _ sound
    | evaluate => exact (RunSide.evaluate s).sendingSound sound
    | loseSync station =>
      exact sendingSound_of_active (by rw [s.loseSync_station]; rfl) s.loseSync_tx (own_of_copy s.loseSync_copy) sound
    | markStale station =>
      exact State.setAdoption_sendingSound _ true (s.markStale_sendingSound sound)
    | enterSynced station =>
      refine sendingSound_of_active (by rw [s.enterSynced_station]; rfl) ?_ (own_of_copy s.enterSynced_copy) sound
      rw [tx_of_bare s.enterSynced_bare]
      rfl
    | startFrame m f tx front => exact s.startFrame_sendingSound m f front sound
    | fail x m tx => exact s.returnFrame_sendingSound x m tx sound
    | listen k n station =>
      have turn : Turn s ((s.setMu { s.mu with station := .listening, cause := k }).startListening n) :=
        Turn.listen s k n station
      have after := turn.seated seated
      exact after.sending
    | enterClash tx =>
      have after := (Turn.clash s tx).seated seated
      exact after.sending
    | isolate tx =>
      have after := (Turn.isolate s tx).seated seated
      exact after.sending
    | left x tx item =>
      have after := (Turn.left s x tx item).seated seated
      exact after.sending
    | sent x tx item =>
      have after := (Turn.sent s x tx item).seated seated
      exact after.sending
    | heard f tx other station known =>
      have after := (Turn.heard s f tx other station known).seated seated
      exact after.sending
  · exact turn.seated seated

end Sys2Proof.Machine
end

section
/-!
SUPPORT. The laws of membership as a law of every step.
-/

namespace Sys2Proof

open Sys2Proof.Machine

theorem State.cleared_membershipSound (s : State) : s.cleared.MembershipSound := by
  have seated : s.cleared.Seated := seated_of_empty rfl rfl rfl (sendingSound_of_idle rfl rfl)
  exact ⟨seated.own, seated.entries, seated.sending, fun _ => ⟨rfl, isMember_of_empty rfl, rfl⟩⟩

/-- R198: at the release the station takes a new address, in CONFIG with an empty roster. -/
theorem State.released_membershipSound (s : State) (p : StrapPins) (low : s.inReset = true) (law : s.MembershipSound) :
    (((s.setInReset false).setStraps p).setClock ⟨0, 0⟩).MembershipSound := by
  obtain ⟨-, entries, sending, held⟩ := law
  obtain ⟨config, none, -⟩ := held low
  obtain ⟨where', -, -⟩ := sending
  have idle : ¬ (s.bus.tx.isSome = true ∨ s.bus.outbound ≠ []) := fun on => by
    have e := where' on
    rw [config] at e
    simp [StationState.active] at e
  rw [not_or, not_not] at idle
  obtain ⟨tx, out⟩ := idle
  refine ⟨?_, entries, sendingSound_of_idle out (by simpa using tx), nofun⟩
  show s.isMember p.addr = s.mu.station.active
  rw [none, config]
  rfl

/-- Settles O55: every event keeps the own record, the owners of entries and what is held for sending. -/
theorem stepKeepsMembershipSound : Obligations.StepKeepsMembershipSound := by
  intro s t law done
  refine step_keeps (P := State.MembershipSound) (fun u v high one law => ?_)
    (fun s _ => State.cleared_membershipSound s) State.released_membershipSound (fun _ _ _ law => law)
    (fun _ _ law => law) law done
  obtain ⟨own, entries, sending, -⟩ := law
  have seated := one.seated ⟨own, entries, sending⟩
  have high' := one.inReset high
  exact ⟨⟨seated.own, seated.entries, seated.sending, fun low => by rw [high'] at low; cases low⟩, high'⟩

end Sys2Proof
end

section
/-!
SUPPORT. The orphan list (R136, R137, R16, R17) through every event.
-/

namespace Sys2Proof.Machine

/-! ### Loads -/

theorem Entry.orphanLoad_le {e : Entry} (sound : e.Sound) : e.orphanLoad ≤ 63 := by
  obtain ⟨-, high, -⟩ := sound
  unfold Entry.orphanLoad
  split
  · exact high
  · exact high
  · exact high
  · split
    · exact high
    · exact Nat.zero_le _
  · exact Nat.zero_le _

theorem slot_of_mem_row {t : Table} {a : Addr} {e : Entry} (member : some e ∈ (t[a.val]).toList) :
    ∃ c : Chan, slot t a c = some e := by
  obtain ⟨i, bound, found⟩ := List.mem_iff_getElem.1 member
  rw [Vector.length_toList] at bound
  exact ⟨⟨i, bound⟩, by simpa [slot] using found⟩

/-- R137: eight entries of at most 63. -/
theorem State.ownerLoad_le (s : State) (a : Addr) (sound : s.TableSound) : s.ownerLoad a ≤ 504 := by
  have each : ∀ n ∈ (s.ct.table[a.val]).toList.map fun e => e.elim 0 Entry.orphanLoad, n ≤ 63 := by
    intro n member
    obtain ⟨o, held, rfl⟩ := List.mem_map.1 member
    cases o with
    | none => exact Nat.zero_le _
    | some e =>
      obtain ⟨c, found⟩ := slot_of_mem_row held
      exact Entry.orphanLoad_le (sound a c e found)
  have bound := List.sum_le_card_nsmul _ 63 each
  rw [List.length_map, Vector.length_toList, smul_eq_mul] at bound
  exact bound

/-! ### A sound list -/

/-- R137: a list of orphan records beside an own address and a roster. -/
def SoundOrphans (own : Addr) (members : Addr → Bool) (os : List Orphan) : Prop :=
  (os.map Orphan.station).Nodup ∧
    ∀ o ∈ os, 1 ≤ o.load ∧ o.load ≤ 504 ∧ members o.station = false ∧ o.station ≠ own

theorem State.orphansSound_iff (s : State) : s.OrphansSound ↔ SoundOrphans s.own s.isMember s.mu.orphans := Iff.rfl

theorem soundOrphans_nil (own : Addr) (members : Addr → Bool) : SoundOrphans own members [] :=
  ⟨List.nodup_nil, fun _ member => absurd member List.not_mem_nil⟩

theorem SoundOrphans.filter {own : Addr} {members : Addr → Bool} {os : List Orphan} (p : Orphan → Bool)
    (sound : SoundOrphans own members os) : SoundOrphans own members (os.filter p) :=
  ⟨sound.1.sublist (List.filter_sublist.map _), fun o member => sound.2 o (List.mem_of_mem_filter member)⟩

/-- A roster that holds no station of the list. -/
theorem SoundOrphans.roster {own : Addr} {members others : Addr → Bool} {os : List Orphan}
    (apart : ∀ o ∈ os, members o.station = false → others o.station = false) (sound : SoundOrphans own members os) :
    SoundOrphans own others os := by
  refine ⟨sound.1, fun o held => ?_⟩
  obtain ⟨low, high, noMember, other⟩ := sound.2 o held
  exact ⟨low, high, apart o held noMember, other⟩

theorem SoundOrphans.append {own : Addr} {members : Addr → Bool} {os : List Orphan} {o : Orphan} (low : 1 ≤ o.load)
    (high : o.load ≤ 504) (noMember : members o.station = false) (other : o.station ≠ own)
    (fresh : ∀ x ∈ os, x.station ≠ o.station) (sound : SoundOrphans own members os) :
    SoundOrphans own members (os ++ [o]) := by
  refine ⟨?_, fun x held => ?_⟩
  · rw [List.map_append, List.map_singleton]
    refine List.nodup_append.2 ⟨sound.1, List.nodup_singleton _, fun a held b here => ?_⟩
    obtain ⟨x, inList, rfl⟩ := List.mem_map.1 held
    obtain rfl := List.mem_singleton.1 here
    exact fresh x inList
  · rcases List.mem_append.1 held with old | here
    · exact sound.2 x old
    · obtain rfl := List.mem_singleton.1 here
      exact ⟨low, high, noMember, other⟩

theorem orphansSound_of_parts {s t : State} (orphans : t.mu.orphans = s.mu.orphans) (own : t.own = s.own)
    (fewer : ∀ a, s.isMember a = false → t.isMember a = false) (sound : s.OrphansSound) : t.OrphansSound := by
  rw [State.orphansSound_iff] at sound ⊢
  rw [orphans, own]
  exact sound.roster fun o _ => fewer o.station

theorem orphansSound_of_copy {s t : State} (copy : t.copy = s.copy) (sound : s.OrphansSound) : t.OrphansSound :=
  orphansSound_of_parts (orphans_of_copy copy) (own_of_copy copy) (fun a other => (isMember_of_copy copy a).trans other) sound

theorem State.setOrphans_orphansSound (s : State) (os : List Orphan) (sound : SoundOrphans s.own s.isMember os) :
    (s.setOrphans os).OrphansSound := by
  have members : (s.setOrphans os).isMember = s.isMember := funext fun b => s.isMember_setOrphans os b
  rw [State.orphansSound_iff, s.setOrphans_own, members, s.setOrphans_mu]
  exact sound

/-! ### What an accepted record is -/

/-- R16, R17: an accepted record is sound beside the list. -/
theorem State.acceptsOrphan_sound {s : State} {list : List Orphan} {i : OrphanItem} {o : Orphan}
    (accepted : s.acceptsOrphan list i = some o) : 1 ≤ o.load ∧ o.load ≤ 504 ∧ s.isMember o.station = false ∧
      o.station ≠ s.own ∧ ∀ x ∈ list, x.station ≠ o.station := by
  unfold State.acceptsOrphan at accepted
  split at accepted
  · cases accepted
  · next a _ =>
    split at accepted
    · cases accepted
    · next free =>
      obtain rfl := Option.some.inj accepted
      simp only [not_or] at free
      obtain ⟨other, noMember, fresh, load, most⟩ := free
      refine ⟨?_, Nat.le_of_not_lt most, by simpa using noMember, other, fun x held same => fresh ?_⟩
      · exact Nat.pos_of_ne_zero fun zero => load (BitVec.eq_of_toNat_eq (by simpa using zero))
      · exact List.any_eq_true.2 ⟨x, held, by simpa using same⟩

theorem State.appendOrphans_sound (s : State) (list : List Orphan) (items : List OrphanItem)
    (sound : SoundOrphans s.own s.isMember list) : SoundOrphans s.own s.isMember (s.appendOrphans list items) := by
  unfold State.appendOrphans
  refine List.foldlRecOn items _ (motive := SoundOrphans s.own s.isMember) sound fun acc kept i _ => ?_
  cases accepted : s.acceptsOrphan acc i with
  | none => simpa using kept
  | some o =>
    obtain ⟨low, high, noMember, other, fresh⟩ := State.acceptsOrphan_sound accepted
    exact kept.append low high noMember other fresh

/-! ### The appliers -/

theorem State.isMember_removeMember_false (s : State) (a b : Addr) (other : s.isMember b = false) :
    (s.removeMember a).isMember b = false := by
  rw [s.isMember_removeMember, other, Bool.false_and]

theorem State.removeMember_orphansSound (s : State) (a : Addr) (sound : s.OrphansSound) :
    (s.removeMember a).OrphansSound :=
  orphansSound_of_parts (s.removeMember_orphans a) (s.removeMember_own a) (s.isMember_removeMember_false a) sound

theorem State.dropOrphan_own (s : State) (a : Addr) : (s.dropOrphan a).own = s.own :=
  congrArg StrapPins.addr (straps_of_plant (s.dropOrphan_plant a))

theorem State.dropOrphan_orphansSound (s : State) (a : Addr) (sound : s.OrphansSound) : (s.dropOrphan a).OrphansSound := by
  have members : (s.dropOrphan a).isMember = s.isMember := funext fun b => s.isMember_dropOrphan a b
  rw [State.orphansSound_iff, s.dropOrphan_own, members, s.dropOrphan_mu]
  exact SoundOrphans.filter _ sound

/-- R136: the member that is dropped leaves at most one record. -/
theorem State.dropMember_orphansSound (s : State) {a : Addr} (other : a ≠ s.own) (member : s.isMember a = true)
    (table : s.TableSound) (sound : s.OrphansSound) : (s.dropMember a).OrphansSound := by
  unfold State.dropMember
  dsimp only
  split
  · next load =>
    have gone : SoundOrphans s.own (fun b => s.isMember b && decide (b ≠ a)) (s.mu.orphans ++ [⟨a, s.ownerLoad a⟩]) := by
      refine SoundOrphans.append load (s.ownerLoad_le a table) ?_ other (fun x held same => ?_)
        (SoundOrphans.roster (fun o _ noMember => ?_) sound)
      · simp
      · obtain ⟨-, -, noMember, -⟩ := sound.2 x held
        rw [show x.station = a from same, member] at noMember
        cases noMember
      · rw [noMember, Bool.false_and]
    have members : ((s.setOrphans (s.mu.orphans ++ [⟨a, s.ownerLoad a⟩])).removeMember a).isMember =
        fun b => s.isMember b && decide (b ≠ a) := funext fun b => by
      rw [State.isMember_removeMember, State.isMember_setOrphans]
    rw [State.orphansSound_iff, State.removeMember_own, State.setOrphans_own, members, State.removeMember_orphans,
      State.setOrphans_mu]
    exact gone
  · exact s.removeMember_orphansSound a sound

theorem State.steppingOut_orphansSound (s : State) (st : StationState) (cause : IsolationCause) (e : SiteEvent)
    (sound : s.OrphansSound) : (s.steppingOut st cause e).OrphansSound :=
  orphansSound_of_copy (s.steppingOut_copy st cause e) (State.removeMember_orphansSound _ s.own sound)

theorem State.selfDrop_orphansSound (s : State) (sound : s.OrphansSound) : s.selfDrop.OrphansSound := by
  unfold State.selfDrop
  split
  · exact orphansSound_of_copy (s.enterIsolated_copy _) (s.steppingOut_orphansSound _ _ _ sound)
  · exact sound

theorem State.withMember_orphansSound (s : State) (a : Addr) (m : Member) (sound : s.OrphansSound) :
    (s.withMember a m).OrphansSound := by
  have members : (s.withMember a m).isMember = fun b => s.isMember b || decide (b = a) :=
    funext fun b => s.isMember_withMember a b m
  have own : (s.withMember a m).own = s.own := congrArg StrapPins.addr (s.withMember_straps a m)
  have orphans : (s.withMember a m).mu.orphans = s.mu.orphans.filter fun o => o.station != a := by
    unfold State.withMember
    rw [State.dropOrphan_mu]
    rfl
  rw [State.orphansSound_iff, own, members, orphans]
  refine SoundOrphans.roster (fun o held noMember => ?_) (SoundOrphans.filter _ sound)
  have other : o.station ≠ a := by simpa using (List.mem_filter.1 held).2
  rw [noMember, decide_eq_false other]
  rfl

theorem State.addMember_orphansSound (s : State) (a : Addr) (seq : Seq) (b : BeatBody) (sound : s.OrphansSound) :
    (s.addMember a seq b).OrphansSound := by
  rw [s.addMember_eq]
  split
  · exact orphansSound_of_copy (State.enterSynced_copy _) (s.withMember_orphansSound a _ sound)
  · exact s.withMember_orphansSound a _ sound

theorem State.modMember_orphansSound (s : State) (a : Addr) (f : Member → Member) (sound : s.OrphansSound) :
    (s.modMember a f).OrphansSound :=
  orphansSound_of_parts (by rfl) (by rfl) (fun b other => (s.isMember_modMember a b f).trans other) sound

theorem State.beatStation_orphansSound (s : State) (a : Addr) (seq : Seq) (b : BeatBody) (sound : s.OrphansSound) :
    (s.beatStation a seq b).OrphansSound := by
  unfold State.beatStation
  split
  · exact s.modMember_orphansSound a _ sound
  · exact s.addMember_orphansSound a seq b sound

theorem State.beatView_orphansSound (s : State) (a : Addr) (b : BeatBody) (adopt : Bool) (sound : s.OrphansSound) :
    (s.beatView a b adopt).OrphansSound := by
  have appended : ∀ (v : ClaimUnit) (list : List Orphan), SoundOrphans s.own s.isMember list →
      ((s.setCt v).setOrphans ((s.setCt v).appendOrphans list b.orphans)).OrphansSound := fun v list start =>
    State.setOrphans_orphansSound (s.setCt v) _ (State.appendOrphans_sound (s.setCt v) list b.orphans start)
  unfold State.beatView
  split
  · exact sound
  · exact sound
  · exact sound
  · split
    · unfold State.adoptView
      exact orphansSound_of_copy (State.adoptHalt_copy _ _ _) (appended _ [] (soundOrphans_nil _ _))
    · unfold State.mergeView
      exact orphansSound_of_copy ((State.raiseIf_copy _ _ _).trans (State.mergeHalt_copy _ _ _))
        (appended _ s.mu.orphans sound)

theorem State.beatViewed_orphansSound (s : State) (a : Addr) (seq : Seq) (b : BeatBody) (sound : s.OrphansSound) :
    (s.beatViewed a seq b).OrphansSound := by
  unfold State.beatViewed
  exact orphansSound_of_copy (copy_of_calm (State.settleRemoval_calm _ a))
    (State.beatView_orphansSound _ a b _
      (State.modMember_orphansSound _ a _ (s.beatStation_orphansSound a seq b sound)))

theorem State.refreshView_orphansSound (s : State) (sound : s.OrphansSound) : s.refreshView.OrphansSound := by
  have calm := s.refreshView_calm
  refine orphansSound_of_parts (congrArg MemberUnit.orphans s.refreshView_mu) (by rw [State.own, straps_of_calm calm]; rfl) ?_ sound
  intro a other
  unfold State.isMember State.member at other ⊢
  rw [s.refreshView_mu]
  exact other

/-- R3: a CLAIM writes the claim table unit alone. -/
theorem State.applyClaim_eq (s : State) (a : Addr) (c l d p k : Byte) :
    s.applyClaim a c l d p k = s.setCt (s.applyClaim a c l d p k).ct := by
  unfold State.applyClaim
  split
  · split
    · split
      · dsimp only
        split <;> rfl
      · rfl
    · split <;> rfl
  · rfl

theorem State.applyBody_orphansSound (s : State) (f : Frame) (table : s.TableSound) (sound : s.OrphansSound) :
    (s.applyBody f).OrphansSound := by
  unfold State.applyBody
  split
  · rw [State.applyBeat_eq]
    exact State.refreshView_orphansSound _
      (State.modMember_orphansSound _ _ _ (s.beatViewed_orphansSound _ _ _ sound))
  · rw [State.applyClaim_eq]
    exact sound
  · exact sound
  · exact s.modMember_orphansSound _ _ sound
  · unfold State.applyDrop
    split
    · exact sound
    · split
      · exact s.selfDrop_orphansSound sound
      · next other =>
        split
        · next member => exact s.dropMember_orphansSound other member table sound
        · exact sound
  · unfold State.applyPurge
    split
    · exact sound
    · split
      · exact s.selfDrop_orphansSound sound
      · split
        · exact s.dropOrphan_orphansSound _ sound
        · exact s.removeMember_orphansSound _ sound
  · unfold State.applyLeave
    split
    · exact sound
    · exact s.removeMember_orphansSound _ sound
  · exact orphansSound_of_copy (s.applyHalt_copy _) sound
  · exact orphansSound_of_copy (copy_of_calm (s.applyHaltAck_calm _ _)) sound
  · exact orphansSound_of_copy s.applyRelease_copy sound

/-! ### Every event -/

/-- The laws of the orphan list with the range of the loads that it rests on. -/
def State.OrphanLaws (s : State) : Prop := s.OrphansSound ∧ s.TableSound

theorem orphansSound_of_empty {s : State} (empty : s.mu.orphans = []) : s.OrphansSound := by
  rw [State.orphansSound_iff, empty]
  exact soundOrphans_nil _ _

theorem State.recompute_orphansSound (s : State) (sound : s.OrphansSound) : s.recompute.OrphansSound := by
  refine orphansSound_of_parts (by rw [s.recompute_mu]) (congrArg StrapPins.addr s.recompute_straps) ?_ sound
  intro a other
  unfold State.isMember State.member at other ⊢
  rw [s.recompute_mu]
  exact other

theorem State.evaluateIf_orphansSound (s : State) (p : Bool) (sound : s.OrphansSound) : (s.evaluateIf p).OrphansSound :=
  orphansSound_of_copy (s.evaluateIf_copy p) sound

theorem State.heed_orphansSound (s : State) (f : Frame) (table : s.TableSound) (sound : s.OrphansSound) :
    (s.heed f).OrphansSound := by
  unfold State.heed
  refine State.recompute_orphansSound _ (State.applyBody_orphansSound _ f ?_ (s.modMember_orphansSound _ _ sound))
  exact tableSound_of_copy (s.hear_copy f) table

theorem Turn.orphansSound {s t : State} (one : Turn s t) (laws : s.OrphanLaws) : t.OrphansSound := by
  obtain ⟨sound, table⟩ := laws
  cases one with
  | listen k n station =>
    unfold State.relisten
    rw [State.startListening_eq]
    exact State.evaluateIf_orphansSound _ _ (State.recompute_orphansSound _
      (orphansSound_of_empty (by rw [State.emptied_mu])))
  | clash tx =>
    rw [s.enterClash_eq]
    exact State.evaluateIf_orphansSound _ _ (State.recompute_orphansSound _
      (orphansSound_of_copy s.clashed_copy (s.steppingOut_orphansSound _ _ _ sound)))
  | isolate tx =>
    exact State.recompute_orphansSound _
      (orphansSound_of_copy (s.enterIsolated_copy _) (s.steppingOut_orphansSound _ _ _ sound))
  | left x tx item =>
    rw [State.enterConfig_eq]
    exact State.evaluateIf_orphansSound _ _ (State.recompute_orphansSound _
      (orphansSound_of_empty (by rw [State.configured_mu])))
  | sent x tx item =>
    have counted : (s.countSent x).OrphansSound := sound
    have countedTable : (s.countSent x).TableSound := table
    exact State.heed_orphansSound _ _ countedTable counted
  | heard f tx other station known => exact s.heed_orphansSound f table sound

theorem Event.orphanLaws {s t : State} (one : Event s t) (laws : s.OrphanLaws) : t.OrphanLaws := by
  rcases one.alike_or_turn with same | turn
  · exact ⟨orphansSound_of_copy same.copy laws.1, tableSound_of_copy same.copy laws.2⟩
  · exact ⟨turn.orphansSound laws, (turn.tableLaws laws.2).1⟩

end Sys2Proof.Machine
end

section
/-!
SUPPORT. The laws of the orphan list as a law of every step.
-/

namespace Sys2Proof

open Sys2Proof.Machine

/-- R198: at the release the station takes a new address, beside an empty list. -/
theorem State.released_orphansSound (s : State) (p : StrapPins) (low : s.inReset = true) (held : s.ResetHeld) :
    (((s.setInReset false).setStraps p).setClock ⟨0, 0⟩).OrphansSound := by
  obtain ⟨-, -, empty⟩ := held low
  exact orphansSound_of_empty empty

/-- Settles O56: an event leaves the list beside the roster, filters it, or adds sound records. -/
theorem stepKeepsOrphansSound : Obligations.StepKeepsOrphansSound := by
  intro s t sound held table _ done
  have law : s.OrphanLaws ∧ s.ResetHeld := ⟨⟨sound, table⟩, held⟩
  refine (step_keeps (P := fun u => u.OrphanLaws ∧ u.ResetHeld) (fun u v high one law => ?_) (fun u _ => ?_)
    (fun u p low law => ?_) (fun _ _ _ law => law) (fun _ _ law => law) law done).1.1
  · have high' := one.inReset high
    exact ⟨⟨one.orphanLaws law.1, fun low => by rw [high'] at low; cases low⟩, high'⟩
  · exact ⟨⟨orphansSound_of_empty rfl, soundTable_empty⟩, fun _ => ⟨rfl, isMember_of_empty rfl, rfl⟩⟩
  · exact ⟨⟨State.released_orphansSound u p low law.2, law.1.2⟩, nofun⟩

end Sys2Proof
end

section
/-!
SUPPORT. Runs and valves that fit together (R41, R43, R70). `State.Fits` says how runs, heads and valves go together; each
operation over runs keeps it, though some of them break it between their own moves: `ended` names the runs whose end result
has been written before their state, `loose` the channels whose valve has come to rest before their closing head.
-/

namespace Sys2Proof.Machine

/-! ### The pool, the heads and the valves -/

/-- What the laws of runs and valves read: the pool, and how each channel stands. -/
def State.gear (s : State) : List Run × Vector (Bool × Bool × Bool × Bool × Bool) 8 :=
  (s.rm.pool, mapVec Channel.standing s.chans)

theorem pool_of_gear {s t : State} (h : s.gear = t.gear) : s.rm.pool = t.rm.pool := congrArg Prod.fst h

theorem standing_of_gear {s t : State} (h : s.gear = t.gear) (c : Chan) : (s.chan c).standing = (t.chan c).standing := by
  have e := congrArg (fun g => g.2[c.val]) h
  simpa [State.gear, State.chan] using e

section standing

variable {a b : Channel} (h : a.standing = b.standing)
include h

theorem present_of_standing : a.present = b.present := congrArg Prod.fst h
theorem driven_of_standing : a.valve.driven = b.valve.driven := congrArg (fun x => x.2.1) h
theorem closing_of_standing : a.valve = .closing ↔ b.valve = .closing := by
  have e : (a.valve == .closing) = (b.valve == .closing) := congrArg (fun x => x.2.2.1) h
  rw [← beq_iff_eq, e, beq_iff_eq]
theorem closed_of_standing : a.valve = .closed ↔ b.valve = .closed := by
  have e : (a.valve == .closed) = (b.valve == .closed) := congrArg (fun x => x.2.2.2.1) h
  rw [← beq_iff_eq, e, beq_iff_eq]
theorem inFault_of_standing : a.inFault = b.inFault := congrArg (fun x => x.2.2.2.2) h

end standing

/-- R40, R41, R43, R70: runs, heads and valves fit together. -/
structure State.Fits (s : State) (may : Chan → Prop) (ended : Nat → Prop) (loose : Chan → Prop) : Prop where
  handles : (s.rm.pool.map Run.handle).Nodup
  range : ∀ r ∈ s.rm.pool, 1 ≤ r.handle ∧ r.handle ≤ 255
  result : ∀ r ∈ s.rm.pool, ¬ ended r.handle → (r.endResult.isSome = true ↔ r.state = .closing .ending)
  heads : ∀ r ∈ s.rm.pool, ∀ q ∈ s.rm.pool, r.channel = q.channel → r.state.isHead = true → q.state.isHead = true →
    r.handle = q.handle
  flowing : ∀ r ∈ s.rm.pool, r.state = .flowing → (s.chan r.channel).valve.driven = true
  closing : ∀ r ∈ s.rm.pool, ¬ loose r.channel → r.state.isClosing = true → (s.chan r.channel).valve = .closing
  driven : ∀ c, (s.chan c).valve.driven = true → (∃ r ∈ s.rm.pool, r.channel = c ∧ r.state = .flowing) ∧ may c
  absent : ∀ c, (s.chan c).present = false → (s.chan c).valve = .closed ∧ ∀ r ∈ s.rm.pool, r.channel ≠ c

/-- No run has its end result early, and no channel is loose. -/
abbrev State.Fit (s : State) (may : Chan → Prop) : Prop := s.Fits may (fun _ => False) fun _ => False

theorem handle_injective {pool : List Run} (nodup : (pool.map Run.handle).Nodup) {r q : Run} (hr : r ∈ pool) (hq : q ∈ pool)
    (same : r.handle = q.handle) : r = q := List.inj_on_of_nodup_map nodup hr hq same

theorem mem_updateRun {pool : List Run} {h : Nat} {f : Run → Run} {q : Run} :
    q ∈ updateRun pool h f ↔ ∃ r ∈ pool, (if r.handle = h then f r else r) = q := by
  simp [updateRun]

theorem isHead_of_flowing {st : RunState} (flowing : st = .flowing) : st.isHead = true := by rw [flowing]; rfl

theorem isHead_of_isClosing {st : RunState} (closing : st.isClosing = true) : st.isHead = true := by
  cases st <;> first | rfl | cases closing

theorem Valve.not_driven_closing {v : Valve} (closing : v = .closing) : v.driven = false := by rw [closing]; rfl
theorem Valve.not_driven_closed {v : Valve} (closed : v = .closed) : v.driven = false := by rw [closed]; rfl
theorem Valve.not_driven_stuck {v : Valve} (stuck : v = .stuck) : v.driven = false := by rw [stuck]; rfl

theorem State.mem_of_head {s : State} {c : Chan} {r : Run} (head : s.head c = some r) :
    r ∈ s.rm.pool ∧ r.channel = c ∧ r.state.isHead = true := by
  refine ⟨List.mem_of_find?_eq_some head, ?_⟩
  have found := List.find?_some head
  simpa [Bool.and_eq_true] using found

theorem State.no_head_of_none {s : State} {c : Chan} (none : s.head c = none) :
    ∀ r ∈ s.rm.pool, r.channel = c → r.state.isHead = false := by
  intro r live here
  have notHead := List.find?_eq_none.1 none r live
  simpa [here] using notHead

namespace State.Fits

variable {s : State} {may may' : Chan → Prop} {ended ended' : Nat → Prop} {loose loose' : Chan → Prop}

theorem of_gear {t : State} (gear : t.gear = s.gear) (fits : s.Fits may ended loose) : t.Fits may ended loose := by
  have pool := pool_of_gear gear
  have standing := standing_of_gear gear
  constructor
  · rw [pool]; exact fits.handles
  · rw [pool]; exact fits.range
  · rw [pool]; exact fits.result
  · rw [pool]; exact fits.heads
  · intro r live flows
    rw [driven_of_standing (standing _)]
    rw [pool] at live
    exact fits.flowing r live flows
  · intro r live tight closes
    rw [closing_of_standing (standing _)]
    rw [pool] at live
    exact fits.closing r live tight closes
  · intro c drives
    rw [driven_of_standing (standing _)] at drives
    rw [pool]
    exact fits.driven c drives
  · intro c gone
    rw [present_of_standing (standing _)] at gone
    rw [closed_of_standing (standing _), pool]
    exact fits.absent c gone

theorem weaken (fits : s.Fits may ended loose) (drives : ∀ c, (s.chan c).valve.driven = true → may c → may' c)
    (results : ∀ h, ended h → ended' h) (loosen : ∀ c, loose c → loose' c) : s.Fits may' ended' loose' where
  handles := fits.handles
  range := fits.range
  result r live notEnded := fits.result r live fun e => notEnded (results _ e)
  heads := fits.heads
  flowing := fits.flowing
  closing r live tight := fits.closing r live fun e => tight (loosen _ e)
  driven c drive := ⟨(fits.driven c drive).1, drives c drive (fits.driven c drive).2⟩
  absent := fits.absent

theorem mono (fits : s.Fits may ended loose) (drives : ∀ c, may c → may' c) : s.Fits may' ended loose :=
  fits.weaken (fun c _ => drives c) (fun _ => id) fun _ => id

theorem only (fits : s.Fits may ended loose) {r q : Run} (hr : r ∈ s.rm.pool) (hq : q ∈ s.rm.pool)
    (same : r.handle = q.handle) : r = q := handle_injective fits.handles hr hq same

/-- The head of a channel is the one run there that is head. -/
theorem head_eq (fits : s.Fits may ended loose) {r : Run} (live : r ∈ s.rm.pool) (head : r.state.isHead = true) :
    s.head r.channel = some r := by
  cases found : s.head r.channel with
  | none =>
    have not := State.no_head_of_none found r live rfl
    rw [head] at not
    cases not
  | some q =>
    obtain ⟨hq, channel, isHead⟩ := State.mem_of_head found
    rw [fits.only hq live (fits.heads q hq r live channel isHead head)]

/-- No other run of a head's channel is head. -/
theorem alone (fits : s.Fits may ended loose) {r : Run} (live : r ∈ s.rm.pool) (head : r.state.isHead = true) :
    ∀ q ∈ s.rm.pool, q.handle ≠ r.handle → q.channel = r.channel → q.state.isHead = false := by
  intro q hq other channel
  cases isHead : q.state.isHead with
  | false => rfl
  | true => exact absurd (fits.heads q hq r live channel isHead head) other

/-- The valve of a channel whose head is not FLOWING is not driven. -/
theorem not_driven_of_head (fits : s.Fits may ended loose) {r : Run} (live : r ∈ s.rm.pool) (head : r.state.isHead = true)
    (notFlowing : r.state ≠ .flowing) : (s.chan r.channel).valve.driven = false := by
  cases drives : (s.chan r.channel).valve.driven with
  | false => rfl
  | true =>
    obtain ⟨⟨q, hq, channel, flows⟩, -⟩ := fits.driven r.channel drives
    have same := fits.only hq live (fits.heads q hq r live channel (isHead_of_flowing flows) head)
    rw [same] at flows
    exact absurd flows notFlowing

theorem not_driven_of_no_head (fits : s.Fits may ended loose) {c : Chan}
    (none : ∀ r ∈ s.rm.pool, r.channel = c → r.state.isHead = false) : (s.chan c).valve.driven = false := by
  cases drives : (s.chan c).valve.driven with
  | false => rfl
  | true =>
    obtain ⟨⟨q, hq, channel, flows⟩, -⟩ := fits.driven c drives
    have not := none q hq channel
    rw [isHead_of_flowing flows] at not
    cases not

end State.Fits

/-- From `s` to `t` the run `r` is changed by `f`, and no channel but its own stands otherwise. -/
structure State.Changes (s t : State) (r : Run) (f : Run → Run) : Prop where
  live : r ∈ s.rm.pool
  handle : (f r).handle = r.handle
  channel : (f r).channel = r.channel
  pool : t.rm.pool = updateRun s.rm.pool r.handle f
  elsewhere : ∀ d, d ≠ r.channel → (t.chan d).standing = (s.chan d).standing
  present : (t.chan r.channel).present = (s.chan r.channel).present

section changes

variable {s t : State} {may may' : Chan → Prop} {ended ended' : Nat → Prop} {loose loose' : Chan → Prop} {r : Run}
  {f : Run → Run}

theorem State.Changes.mem (change : s.Changes t r f) (fits : s.Fits may ended loose) (q : Run) :
    q ∈ t.rm.pool ↔ q = f r ∨ q ∈ s.rm.pool ∧ q.handle ≠ r.handle := by
  rw [change.pool, mem_updateRun]
  constructor
  · rintro ⟨p, hp, rfl⟩
    split
    · next same => exact .inl (by rw [fits.only hp change.live same])
    · next other => exact .inr ⟨hp, other⟩
  · rintro (rfl | ⟨hq, other⟩)
    · exact ⟨r, change.live, if_pos rfl⟩
    · exact ⟨q, hq, if_neg other⟩

theorem State.Changes.handles (change : s.Changes t r f) (fits : s.Fits may ended loose) :
    t.rm.pool.map Run.handle = s.rm.pool.map Run.handle := by
  rw [change.pool, updateRun, List.map_map]
  refine List.map_congr_left fun p hp => ?_
  by_cases same : p.handle = r.handle
  · rw [fits.only hp change.live same]
    simp [change.handle]
  · simp [same]

/-- One run takes another state, or its end result, and the valve of its channel may move with it; the channel's other runs are
no heads. -/
theorem State.Fits.update (fits : s.Fits may ended loose) (change : s.Changes t r f)
    (alone : ∀ q ∈ s.rm.pool, q.handle ≠ r.handle → q.channel = r.channel → q.state.isHead = false)
    (result : ¬ ended' r.handle → ((f r).endResult.isSome = true ↔ (f r).state = .closing .ending))
    (flows : (f r).state = .flowing → (t.chan r.channel).valve.driven = true)
    (drives : (t.chan r.channel).valve.driven = true → (f r).state = .flowing ∧ may' r.channel)
    (closes : ¬ loose' r.channel → (f r).state.isClosing = true → (t.chan r.channel).valve = .closing)
    (mays : ∀ d, d ≠ r.channel → may d → may' d) (results : ∀ h, h ≠ r.handle → ended h → ended' h)
    (loosen : ∀ d, d ≠ r.channel → loose d → loose' d) : t.Fits may' ended' loose' := by
  constructor
  · rw [change.handles fits]
    exact fits.handles
  · intro q hq
    rcases (change.mem fits q).1 hq with rfl | ⟨old, -⟩
    · rw [change.handle]
      exact fits.range r change.live
    · exact fits.range q old
  · intro q hq notEnded
    rcases (change.mem fits q).1 hq with rfl | ⟨old, other⟩
    · exact result (by rwa [change.handle] at notEnded)
    · exact fits.result q old fun e => notEnded (results _ other e)
  · intro p hp q hq same head head'
    rcases (change.mem fits p).1 hp with rfl | ⟨oldP, otherP⟩ <;> rcases (change.mem fits q).1 hq with rfl | ⟨oldQ, otherQ⟩
    · rfl
    · rw [alone q oldQ otherQ (by rw [← same, change.channel])] at head'
      cases head'
    · rw [alone p oldP otherP (by rw [same, change.channel])] at head
      cases head
    · exact fits.heads p oldP q oldQ same head head'
  · intro q hq flowing
    rcases (change.mem fits q).1 hq with rfl | ⟨old, other⟩
    · rw [change.channel]
      exact flows flowing
    · by_cases there : q.channel = r.channel
      · exact absurd (isHead_of_flowing flowing) (by rw [alone q old other there]; exact Bool.false_ne_true)
      · rw [driven_of_standing (change.elsewhere _ there)]
        exact fits.flowing q old flowing
  · intro q hq tight closing
    rcases (change.mem fits q).1 hq with rfl | ⟨old, other⟩
    · rw [change.channel] at tight ⊢
      exact closes tight closing
    · by_cases there : q.channel = r.channel
      · exact absurd (isHead_of_isClosing closing) (by rw [alone q old other there]; exact Bool.false_ne_true)
      · rw [closing_of_standing (change.elsewhere _ there)]
        exact fits.closing q old (fun e => tight (loosen _ there e)) closing
  · intro c drive
    by_cases there : c = r.channel
    · subst there
      obtain ⟨flowing, allowed⟩ := drives drive
      exact ⟨⟨f r, (change.mem fits _).2 (.inl rfl), change.channel, flowing⟩, allowed⟩
    · rw [driven_of_standing (change.elsewhere _ there)] at drive
      obtain ⟨⟨q, hq, on, flowing⟩, allowed⟩ := fits.driven c drive
      have other : q.handle ≠ r.handle := fun e => there (by rw [← on, fits.only hq change.live e])
      exact ⟨⟨q, (change.mem fits q).2 (.inr ⟨hq, other⟩), on, flowing⟩, mays c there allowed⟩
  · intro c gone
    by_cases there : c = r.channel
    · subst there
      rw [change.present] at gone
      exact absurd rfl ((fits.absent _ gone).2 r change.live)
    · rw [present_of_standing (change.elsewhere _ there)] at gone
      obtain ⟨closed, noRun⟩ := fits.absent c gone
      refine ⟨(closed_of_standing (change.elsewhere _ there)).2 closed, fun q hq => ?_⟩
      rcases (change.mem fits q).1 hq with rfl | ⟨old, -⟩
      · rw [change.channel]
        exact fun e => there e.symm
      · exact noRun q old

end changes

end Sys2Proof.Machine
end

section
/-!
SUPPORT. Each operation over runs and valves keeps them fitting together.
-/

namespace Sys2Proof.Machine

/-- A pool whose handles are apart loses exactly the run of a handle. -/
theorem eraseP_eq_filter {pool : List Run} (nodup : (pool.map Run.handle).Nodup) (h : Nat) :
    (pool.eraseP fun q => q.handle == h) = pool.filter fun q => q.handle != h := by
  induction pool with
  | nil => rfl
  | cons p ps ih =>
    rw [List.map_cons, List.nodup_cons] at nodup
    obtain ⟨fresh, rest⟩ := nodup
    by_cases same : p.handle = h
    · subst same
      have others : (ps.filter fun q => q.handle != p.handle) = ps :=
        List.filter_eq_self.2 fun q hq => by
          have other : q.handle ≠ p.handle := fun e => fresh (e ▸ List.mem_map_of_mem hq)
          simpa using other
      simp [others]
    · simp [same, ih rest]

namespace State.Fits

variable {s t : State} {may may' : Chan → Prop} {ended ended' : Nat → Prop} {loose loose' : Chan → Prop}

/-! ### Single moves -/

/-- Some runs leave the pool, none of them FLOWING; a loose channel whose head leaves is loose no more. -/
theorem filter (fits : s.Fits may ended loose) (p : Run → Bool)
    (pool : t.rm.pool = s.rm.pool.filter p) (standing : ∀ c, (t.chan c).standing = (s.chan c).standing)
    (stays : ∀ r ∈ s.rm.pool, r.state = .flowing → p r = true)
    (result : ∀ r ∈ s.rm.pool, p r = true → ended r.handle → ended' r.handle)
    (tight : ∀ r ∈ s.rm.pool, p r = true → r.state.isClosing = true → loose r.channel → loose' r.channel) :
    t.Fits may ended' loose' := by
  have mem : ∀ q, q ∈ t.rm.pool ↔ q ∈ s.rm.pool ∧ p q = true := fun q => by rw [pool, List.mem_filter]
  constructor
  · rw [pool]
    exact fits.handles.sublist (List.filter_sublist.map _)
  · exact fun q hq => fits.range q ((mem q).1 hq).1
  · intro q hq notEnded
    obtain ⟨old, kept⟩ := (mem q).1 hq
    exact fits.result q old fun e => notEnded (result q old kept e)
  · exact fun a ha b hb => fits.heads a ((mem a).1 ha).1 b ((mem b).1 hb).1
  · intro q hq flows
    rw [driven_of_standing (standing _)]
    exact fits.flowing q ((mem q).1 hq).1 flows
  · intro q hq notLoose closes
    obtain ⟨old, kept⟩ := (mem q).1 hq
    rw [closing_of_standing (standing _)]
    exact fits.closing q old (fun e => notLoose (tight q old kept closes e)) closes
  · intro c drives
    rw [driven_of_standing (standing _)] at drives
    obtain ⟨⟨q, hq, on, flows⟩, allowed⟩ := fits.driven c drives
    exact ⟨⟨q, (mem q).2 ⟨hq, stays q hq flows⟩, on, flows⟩, allowed⟩
  · intro c gone
    rw [present_of_standing (standing _)] at gone
    obtain ⟨closed, noRun⟩ := fits.absent c gone
    exact ⟨(closed_of_standing (standing _)).2 closed, fun q hq => noRun q ((mem q).1 hq).1⟩

/-- A valve that is driven by no run moves, without coming to be driven, on a present channel. -/
theorem moveValve (fits : s.Fits may ended loose) (c : Chan) (pool : t.rm.pool = s.rm.pool)
    (elsewhere : ∀ d, d ≠ c → (t.chan d).standing = (s.chan d).standing)
    (gone : (t.chan c).present = false → (t.chan c).valve = .closed ∧ ∀ r ∈ s.rm.pool, r.channel ≠ c)
    (rest : (s.chan c).valve.driven = false) (still : (t.chan c).valve.driven = false)
    (loosen : ∀ d, d ≠ c → loose d → loose' d)
    (closing : ¬ loose' c → ∀ r ∈ s.rm.pool, r.channel = c → r.state.isClosing = true → (t.chan c).valve = .closing) :
    t.Fits may ended loose' := by
  constructor
  · rw [pool]; exact fits.handles
  · rw [pool]; exact fits.range
  · rw [pool]; exact fits.result
  · rw [pool]; exact fits.heads
  · intro r live flows
    rw [pool] at live
    have drives := fits.flowing r live flows
    by_cases there : r.channel = c
    · rw [there, rest] at drives
      cases drives
    · rw [driven_of_standing (elsewhere _ there)]
      exact drives
  · intro r live tight closes
    rw [pool] at live
    by_cases there : r.channel = c
    · rw [there] at tight ⊢
      exact closing tight r live there closes
    · rw [closing_of_standing (elsewhere _ there)]
      exact fits.closing r live (fun e => tight (loosen _ there e)) closes
  · intro d drives
    rw [pool]
    by_cases there : d = c
    · rw [there, still] at drives
      cases drives
    · rw [driven_of_standing (elsewhere _ there)] at drives
      exact fits.driven d drives
  · intro d absent
    rw [pool]
    by_cases there : d = c
    · rw [there] at absent ⊢
      exact gone absent
    · rw [present_of_standing (elsewhere _ there)] at absent
      obtain ⟨closed, noRun⟩ := fits.absent d absent
      exact ⟨(closed_of_standing (elsewhere _ there)).2 closed, noRun⟩

/-- Runs that are no heads take other states that are no heads' states. -/
theorem regate (fits : s.Fits may ended loose) (p : Run → Bool) (gated : ∀ r ∈ s.rm.pool, p r = true → r.state = .gated)
    (pool : t.rm.pool = s.rm.pool.map fun r => if p r then passGate r else r)
    (standing : ∀ c, (t.chan c).standing = (s.chan c).standing) : t.Fits may ended loose := by
  have same : ∀ r : Run, (if p r then passGate r else r).handle = r.handle ∧
      (if p r then passGate r else r).channel = r.channel := fun r => by split <;> exact ⟨rfl, rfl⟩
  have kept : ∀ r : Run, (if p r then passGate r else r).state.isHead = true → (if p r then passGate r else r) = r :=
    fun r head => by
      split at head
      · cases head
      · next no => rw [if_neg no]
  have mem : ∀ q, q ∈ t.rm.pool ↔ ∃ r ∈ s.rm.pool, (if p r then passGate r else r) = q := fun q => by
    rw [pool, List.mem_map]
  constructor
  · have handles : t.rm.pool.map Run.handle = s.rm.pool.map Run.handle := by
      rw [pool, List.map_map]
      exact List.map_congr_left fun r _ => (same r).1
    rw [handles]
    exact fits.handles
  · intro q hq
    obtain ⟨r, hr, rfl⟩ := (mem q).1 hq
    rw [(same r).1]
    exact fits.range r hr
  · intro q hq notEnded
    obtain ⟨r, hr, rfl⟩ := (mem q).1 hq
    rw [(same r).1] at notEnded
    have law := fits.result r hr notEnded
    split
    · next passes =>
      rw [gated r hr passes] at law
      exact iff_of_false (fun some => RunState.noConfusion (law.1 some)) nofun
    · exact law
  · intro a ha b hb on headA headB
    obtain ⟨q, hq, rfl⟩ := (mem a).1 ha
    obtain ⟨r, hr, rfl⟩ := (mem b).1 hb
    have sameA := kept q headA
    have sameB := kept r headB
    rw [sameA] at headA on ⊢
    rw [sameB] at headB on ⊢
    exact fits.heads q hq r hr on headA headB
  · intro q hq flows
    obtain ⟨r, hr, rfl⟩ := (mem q).1 hq
    have unmoved := kept r (isHead_of_flowing flows)
    rw [unmoved] at flows ⊢
    rw [driven_of_standing (standing _)]
    exact fits.flowing r hr flows
  · intro q hq notLoose closes
    obtain ⟨r, hr, rfl⟩ := (mem q).1 hq
    have unmoved := kept r (isHead_of_isClosing closes)
    rw [unmoved] at notLoose closes ⊢
    rw [closing_of_standing (standing _)]
    exact fits.closing r hr notLoose closes
  · intro c drives
    rw [driven_of_standing (standing _)] at drives
    obtain ⟨⟨r, hr, on, flows⟩, allowed⟩ := fits.driven c drives
    have no : ¬ p r = true := fun passes => by
      have st := gated r hr passes
      rw [flows] at st
      cases st
    exact ⟨⟨r, (mem r).2 ⟨r, hr, if_neg no⟩, on, flows⟩, allowed⟩
  · intro c gone
    rw [present_of_standing (standing _)] at gone
    obtain ⟨closed, noRun⟩ := fits.absent c gone
    refine ⟨(closed_of_standing (standing _)).2 closed, fun q hq => ?_⟩
    obtain ⟨r, hr, rfl⟩ := (mem q).1 hq
    rw [(same r).2]
    exact noRun r hr

/-- A new run enters the pool, no head, on a present channel. -/
theorem append (fits : s.Fits may ended loose) {n : Run} (pool : t.rm.pool = s.rm.pool ++ [n])
    (standing : ∀ c, (t.chan c).standing = (s.chan c).standing) (range : 1 ≤ n.handle ∧ n.handle ≤ 255)
    (fresh : ∀ r ∈ s.rm.pool, r.handle ≠ n.handle) (waits : n.state.isHead = false) (result : n.endResult = none)
    (present : (s.chan n.channel).present = true) : t.Fits may ended loose := by
  have mem : ∀ q, q ∈ t.rm.pool ↔ q ∈ s.rm.pool ∨ q = n := fun q => by
    rw [pool, List.mem_append, List.mem_singleton]
  constructor
  · rw [pool, List.map_append, List.map_singleton]
    refine List.nodup_append.2 ⟨fits.handles, List.nodup_singleton _, fun a old b new => ?_⟩
    obtain ⟨r, hr, rfl⟩ := List.mem_map.1 old
    obtain rfl := List.mem_singleton.1 new
    exact fresh r hr
  · intro q hq
    rcases (mem q).1 hq with old | rfl
    · exact fits.range q old
    · exact range
  · intro q hq notEnded
    rcases (mem q).1 hq with old | rfl
    · exact fits.result q old notEnded
    · rw [result]
      refine iff_of_false Bool.false_ne_true fun closes => ?_
      rw [closes] at waits
      cases waits
  · intro a ha b hb on headA headB
    rcases (mem a).1 ha with oldA | rfl
    · rcases (mem b).1 hb with oldB | rfl
      · exact fits.heads a oldA b oldB on headA headB
      · rw [waits] at headB
        cases headB
    · rw [waits] at headA
      cases headA
  · intro q hq flows
    rw [driven_of_standing (standing _)]
    rcases (mem q).1 hq with old | rfl
    · exact fits.flowing q old flows
    · rw [isHead_of_flowing flows] at waits
      cases waits
  · intro q hq notLoose closes
    rw [closing_of_standing (standing _)]
    rcases (mem q).1 hq with old | rfl
    · exact fits.closing q old notLoose closes
    · rw [isHead_of_isClosing closes] at waits
      cases waits
  · intro c drives
    rw [driven_of_standing (standing _)] at drives
    obtain ⟨⟨q, hq, on, flows⟩, allowed⟩ := fits.driven c drives
    exact ⟨⟨q, (mem q).2 (.inl hq), on, flows⟩, allowed⟩
  · intro c gone
    rw [present_of_standing (standing _)] at gone
    obtain ⟨closed, noRun⟩ := fits.absent c gone
    refine ⟨(closed_of_standing (standing _)).2 closed, fun q hq => ?_⟩
    rcases (mem q).1 hq with old | rfl
    · exact noRun q old
    · intro here
      rw [here, gone] at present
      cases present

/-! ### Queueing -/

end State.Fits

theorem State.enqueue_gear (s : State) (f : OutFrame) : (s.enqueue f).gear = s.gear := by
  unfold State.enqueue
  split <;> rfl

theorem State.setChan_gear (s : State) (c : Chan) (ch : Channel) (same : ch.standing = (s.chan c).standing) :
    (s.setChan c ch).gear = s.gear := by
  have chans : mapVec Channel.standing (s.setChan c ch).chans = mapVec Channel.standing s.chans := by
    show mapVec Channel.standing (s.chans.set c.val ch) = _
    rw [mapVec_set, same]
    ext1 j hj
    by_cases here : c.val = j
    · subst here
      simp [State.chan]
    · simp [here]
  unfold State.gear
  rw [chans]
  rfl

theorem State.enqueue_chan (s : State) (f : OutFrame) (c : Chan) : (s.enqueue f).chan c = s.chan c := by
  unfold State.enqueue
  split <;> rfl

theorem State.queueClaim_gear (s : State) (c : Chan) (k : ClaimContent) : (s.queueClaim c k).gear = s.gear := by
  unfold State.queueClaim
  split
  · rfl
  · rw [State.setChan_gear]
    · exact s.enqueue_gear _
    · rw [State.enqueue_chan]
      rfl

theorem State.announce_gear (s : State) (c : Chan) : (s.announce c).gear = s.gear := by
  unfold State.announce
  split
  · rfl
  · exact s.queueClaim_gear c _
  · exact s.queueClaim_gear c _
  · split
    · rfl
    · exact s.queueClaim_gear c _

theorem State.announceAll_gear (s : State) : s.announceAll.gear = s.gear :=
  fold_leaves State.gear _ _ s fun t c => t.announce_gear c

theorem State.queueCurrent_gear (s : State) (c : Chan) : (s.queueCurrent c).gear = s.gear := by
  unfold State.queueCurrent
  split
  · exact s.queueClaim_gear c _
  · split <;> exact s.queueClaim_gear c _

theorem State.queueDeparture_gear (s : State) (r : Run) : (s.queueDeparture r).gear = s.gear := by
  unfold State.queueDeparture
  dsimp only
  split <;> first | exact s.queueClaim_gear _ _ | rfl

/-! ### Heads -/

theorem mem_listOf {pool : List Run} {c : Chan} {r : Run} (member : r ∈ listOf pool c) : r ∈ pool ∧ r.channel = c := by
  obtain ⟨l, -, here⟩ := List.mem_flatMap.1 member
  obtain ⟨live, on⟩ := List.mem_filter.1 here
  rw [Bool.and_eq_true, beq_iff_eq] at on
  exact ⟨live, on.1⟩

theorem of_firstEligible {pool : List Run} {c : Chan} {r : Run} (first : firstEligible pool c = some r) :
    r ∈ pool ∧ r.channel = c ∧ r.state ≠ .gated := by
  obtain ⟨live, on⟩ := mem_listOf (List.mem_of_find?_eq_some first)
  exact ⟨live, on, by simpa using List.find?_some first⟩

theorem State.setRunState_changes (s : State) {r : Run} (live : r ∈ s.rm.pool) (st : RunState) :
    s.Changes (s.setRunState r.handle st) r fun q => { q with state := st } where
  live := live
  handle := rfl
  channel := rfl
  pool := rfl
  elsewhere _ _ := rfl
  present := rfl

/-- A run that changes together with the valve of its channel. -/
theorem State.setChan_changes (s : State) {r : Run} (live : r ∈ s.rm.pool) {f : Run → Run} (handle : (f r).handle = r.handle)
    (channel : (f r).channel = r.channel) (ch : Channel) (present : ch.present = (s.chan r.channel).present) :
    s.Changes ((s.modRun r.handle f).setChan r.channel ch) r f where
  live := live
  handle := handle
  channel := channel
  pool := rfl
  elsewhere d other := by
    rw [State.chan_setChan_ne _ _ fun e => other e.symm]
    rfl
  present := by
    rw [State.chan_setChan_same]
    exact present

theorem State.chan_setRunState (s : State) (h : Nat) (st : RunState) (c : Chan) : (s.setRunState h st).chan c = s.chan c := rfl

theorem mem_allChans (c : Chan) : c ∈ allChans := by
  revert c
  decide

section ops

variable {s : State} {may : Chan → Prop}

/-- The end result of a run that waits or asks. -/
theorem State.Fits.no_result (fits : s.Fit may) {r : Run} (live : r ∈ s.rm.pool) (other : r.state ≠ .closing .ending) :
    r.endResult.isSome = false := by
  cases some : r.endResult.isSome with
  | false => rfl
  | true => exact absurd ((fits.result r live id).1 some) other

/-- A channel without a head takes one. -/
theorem State.Fits.pickHead (fits : s.Fit may) (c : Chan)
    (none : ∀ r ∈ s.rm.pool, r.channel = c → r.state.isHead = false) : (s.pickHead c).Fit may := by
  unfold State.pickHead
  split
  · next r first =>
    obtain ⟨live, on, notGated⟩ := of_firstEligible first
    have waits := none r live on
    have rest := fits.not_driven_of_no_head none
    have result := fits.no_result live fun e => by rw [e] at waits; cases waits
    refine fits.update (s.setRunState_changes live .asking) (fun q hq _ there => none q hq (there.trans on)) (fun _ => ?_)
      nofun (fun drives => ?_) nofun (fun _ _ => id) (fun _ _ => id) fun _ _ => id
    · exact iff_of_false (by rw [result]; exact Bool.false_ne_true) nofun
    · rw [State.chan_setRunState, on, rest] at drives
      cases drives
  · exact fits

/-- A run is put back among the waiting, and its channel takes a head. -/
theorem State.Fits.requeue (fits : s.Fits may (fun _ => False) loose) {r : Run} (live : r ∈ s.rm.pool)
    (head : r.state.isHead = true) (tight : ∀ d, d ≠ r.channel → ¬ loose d) (rest : (s.chan r.channel).valve.driven = false)
    (result : r.state ≠ .closing .ending) : (s.requeue r.channel r.handle).Fit may := by
  have change := s.setRunState_changes live .queued
  have queued : (s.setRunState r.handle .queued).Fit may := by
    refine fits.update change (fits.alone live head) (fun _ => ?_) nofun (fun drives => ?_) nofun (fun _ _ => id)
      (fun _ _ => id) tight
    · refine iff_of_false (fun some => result ((fits.result r live id).1 some)) nofun
    · rw [State.chan_setRunState, rest] at drives
      cases drives
  refine queued.pickHead r.channel fun q hq there => ?_
  rcases (change.mem fits q).1 hq with rfl | ⟨old, other⟩
  · rfl
  · exact fits.alone live head q old other there

theorem State.setChan_setChan (s : State) (c : Chan) (a b : Channel) : (s.setChan c a).setChan c b = s.setChan c b := by
  unfold State.setChan
  have chans : (s.chans.set c.val a).set c.val b = s.chans.set c.val b := Vector.set_set ..
  show s.setChans ((s.chans.set c.val a).set c.val b) = _
  rw [chans]

theorem Channel.beginClose_of_driven {ch : Channel} (drives : ch.valve.driven = true) : ch.beginClose =
    { ch with valve := .closing, openTimer := none, noFlowTimer := none, closeTimer := some ch.closeLoad } := if_pos drives

theorem State.Fits.setEndClose (fits : s.Fit may) (c : Chan) (closing : (s.chan c).valve = .closing) :
    (s.setChan c (s.chan c).endClose).Fits may (fun _ => False) (· = c) := by
  have present : (s.chan c).present = true := by
    cases here : (s.chan c).present with
    | true => rfl
    | false =>
      have closed := (fits.absent c here).1
      rw [closing] at closed
      cases closed
  refine fits.moveValve c rfl (fun d other => ?_) ?_ (Valve.not_driven_closing closing) ?_ (fun _ _ => False.elim)
    fun tight => absurd rfl tight
  · rw [State.chan_setChan_ne _ _ fun e => other e.symm]
  · rw [State.chan_setChan_same]
    intro gone
    have here : (s.chan c).present = false := gone
    rw [present] at here
    cases here
  · rw [State.chan_setChan_same]
    rfl

/-- A FLOWING head's run closes with its valve. -/
theorem State.Fits.beginClose (fits : s.Fits may ended fun _ => False) {r : Run} (live : r ∈ s.rm.pool)
    (flows : r.state = .flowing) {f : Run → Run} (handle : (f r).handle = r.handle) (channel : (f r).channel = r.channel)
    (closes : (f r).state.isClosing = true) (result : (f r).endResult.isSome = true ↔ (f r).state = .closing .ending)
    (others : ∀ h, h ≠ r.handle → ¬ ended h) :
    ((s.modRun r.handle f).setChan r.channel (s.chan r.channel).beginClose).Fit fun d => d ≠ r.channel ∧ may d := by
  have drives := fits.flowing r live flows
  have closed := Channel.beginClose_of_driven drives
  have present : (s.chan r.channel).beginClose.present = (s.chan r.channel).present := by rw [closed]; rfl
  have valve : (((s.modRun r.handle f).setChan r.channel (s.chan r.channel).beginClose).chan r.channel).valve = .closing := by
    rw [State.chan_setChan_same, closed]
  refine fits.update (s.setChan_changes live handle channel _ present) (fits.alone live (isHead_of_flowing flows))
    (fun _ => result) (fun e => ?_) (fun e => ?_) (fun _ _ => valve) (fun d other allowed => ⟨other, allowed⟩) others
    fun _ _ => id
  · rw [e] at closes
    cases closes
  · rw [Valve.not_driven_closing valve] at e
    cases e

/-- R54: a run that is preempted. -/
def Run.preempted (r : Run) : Run := { r with state := .closing .preemptLocal, preemptions := min 255 (r.preemptions + 1) }

theorem State.Fits.preempt (fits : s.Fit may) {r : Run} (live : r ∈ s.rm.pool) (flows : r.state = .flowing) :
    (s.preempt r.channel r).Fit may := by
  have noResult := fits.no_result live (by rw [flows]; nofun)
  have drives := fits.flowing r live flows
  have begun := fits.beginClose live flows (f := Run.preempted) rfl rfl rfl
    (iff_of_false (by rw [show r.preempted.endResult = r.endResult from rfl, noResult]; exact Bool.false_ne_true) nofun)
    (fun _ _ => id)
  have change := s.setChan_changes live (f := Run.preempted) rfl rfl (s.chan r.channel).beginClose
    (by rw [Channel.beginClose_of_driven drives]; rfl)
  have valve : (s.chan r.channel).beginClose.valve = .closing := by rw [Channel.beginClose_of_driven drives]
  have closed := begun.setEndClose r.channel (by rw [State.chan_setChan_same]; exact valve)
  rw [State.chan_setChan_same, State.setChan_setChan] at closed
  unfold State.preempt
  dsimp only
  split
  · refine State.Fits.mono (State.Fits.requeue (r := r.preempted) closed ((change.mem fits _).2 (.inl rfl)) rfl (fun d other => other) ?_ nofun)
      fun _ => And.right
    rw [show r.preempted.channel = r.channel from rfl, State.chan_setChan_same]
    rfl
  · exact begun.mono fun _ => And.right

theorem State.Fits.headSelect (fits : s.Fit may) (c : Chan) : (s.headSelect c).Fit may := by
  unfold State.headSelect
  split
  · next none => exact fits.pickHead c (State.no_head_of_none none)
  · next a head =>
    obtain ⟨live, on, isHead⟩ := State.mem_of_head head
    split
    · next r asking first =>
      obtain ⟨liveR, onR, notGated⟩ := of_firstEligible first
      split
      · exact fits
      · next other =>
        have rest := fits.not_driven_of_head live isHead (by rw [asking]; nofun)
        have noResult := fits.no_result live (by rw [asking]; nofun)
        have change := s.setRunState_changes live .queued
        have queued : (s.setRunState a.handle .queued).Fit may := by
          refine fits.update change (fits.alone live isHead) (fun _ => ?_) nofun (fun drives => ?_) nofun
            (fun _ _ => id) (fun _ _ => id) fun _ _ => id
          · exact iff_of_false (by rw [noResult]; exact Bool.false_ne_true) nofun
          · rw [State.chan_setRunState, rest] at drives
            cases drives
        have liveR' : r ∈ (s.setRunState a.handle .queued).rm.pool := (change.mem fits r).2 (.inr ⟨liveR, other⟩)
        have noHead : ∀ q ∈ (s.setRunState a.handle .queued).rm.pool, q.channel = c → q.state.isHead = false := by
          intro q hq there
          rcases (change.mem fits q).1 hq with rfl | ⟨old, apart⟩
          · rfl
          · exact fits.alone live isHead q old apart (there.trans on.symm)
        have noResultR := fits.no_result liveR fun e => by
          have waits := fits.alone live isHead r liveR other (onR.trans on.symm)
          rw [e] at waits
          cases waits
        refine queued.update (State.setRunState_changes _ liveR' .asking) (fun q hq _ there => noHead q hq (there.trans onR))
          (fun _ => ?_) nofun (fun drives => ?_) nofun (fun _ _ => id) (fun _ _ => id) fun _ _ => id
        · exact iff_of_false (by rw [noResultR]; exact Bool.false_ne_true) nofun
        · rw [State.chan_setRunState, State.chan_setRunState, onR, ← on, rest] at drives
          cases drives
    · next r flows first =>
      split
      · exact fits
      · subst on
        exact fits.preempt live flows
    · exact fits

theorem State.Fits.headSelectAll (fits : s.Fit may) (cs : List Chan) : (s.headSelectAll cs).Fit may :=
  List.foldlRecOn cs _ (motive := fun t : State => t.Fit may) fits fun _ kept c _ => kept.headSelect c

theorem State.Fits.passing (fits : s.Fit may) (p : Run → Bool) (gated : ∀ r ∈ s.rm.pool, p r = true → r.state = .gated) :
    (s.setPool (s.rm.pool.map fun r => if p r then passGate r else r)).Fit may :=
  fits.regate p gated rfl fun _ => rfl

theorem State.Fits.releaseWaiting (fits : s.Fit may) (h : Nat) : (s.releaseWaiting h).Fit may := by
  refine State.Fits.headSelectAll (fits.passing (waitsOn h) fun r _ waits => ?_) _
  unfold waitsOn at waits
  rw [Bool.and_eq_true, beq_iff_eq] at waits
  exact waits.1

/-! ### Departures and closes -/

theorem State.removeRun_pool (s : State) (r : Run) (b : Bool) :
    (s.removeRun r b).rm.pool = s.rm.pool.eraseP fun q => q.handle == r.handle := rfl

/-- A run that is not FLOWING departs, its end result early or not, its channel loose under it or not. -/
theorem State.Fits.depart {ended : Nat → Prop} {loose : Chan → Prop} (fits : s.Fits may ended loose) {r : Run}
    (live : r ∈ s.rm.pool) (notFlowing : r.state ≠ .flowing) (others : ∀ h, h ≠ r.handle → ¬ ended h)
    (tight : ∀ d, loose d → d = r.channel ∧ r.state.isHead = true) (b : Bool) : (s.depart r.handle b).Fit may := by
  have removed : (s.removeRun r b).Fit may := by
    refine fits.filter (fun q => q.handle != r.handle) (eraseP_eq_filter fits.handles r.handle) (fun _ => rfl)
      (fun q hq flows => ?_) (fun q hq kept e => ?_) fun q hq kept closes e => ?_
    · have other : q.handle ≠ r.handle := fun e => notFlowing (by rw [← fits.only hq live e]; exact flows)
      simpa using other
    · exact others _ (by simpa using kept) e
    · obtain ⟨there, head⟩ := tight _ e
      have other : q.handle ≠ r.handle := by simpa using kept
      have not := fits.alone live head q hq other there
      rw [isHead_of_isClosing closes] at not
      cases not
  have found : findRun s.rm.pool r.handle = some r := by
    cases h : findRun s.rm.pool r.handle with
    | none => exact absurd (beq_self_eq_true r.handle) (by simpa using List.find?_eq_none.1 h r live)
    | some q =>
      have same : q.handle = r.handle := by simpa using List.find?_some h
      rw [fits.only (List.mem_of_find?_eq_some h) live same]
  have gone := (removed.releaseWaiting r.handle).headSelect r.channel
  unfold State.depart
  rw [found]
  dsimp only
  split
  · exact State.Fits.of_gear (State.queueDeparture_gear _ r) gone
  · exact gone

/-- R52, R53: what a close that has come to rest does with the head it closed under. -/
def State.dismissHead (s : State) (c : Chan) (b : Bool) : State :=
  match s.head c with
  | some r =>
    match r.state with
    | .closing .ending => s.depart r.handle b
    | .closing _ => s.requeue c r.handle
    | _ => s
  | none => s

theorem State.Fits.dismissHead {c : Chan} (fits : s.Fits may (fun _ => False) (· = c))
    (rest : (s.chan c).valve.driven = false) (b : Bool) : (s.dismissHead c b).Fit may := by
  have settled : (∀ r ∈ s.rm.pool, r.channel = c → r.state.isClosing = false) → s.Fit may := fun none => by
    refine fits.filter (fun _ => true) (List.filter_eq_self.2 fun _ _ => rfl).symm (fun _ => rfl) (fun _ _ _ => rfl)
      (fun _ _ _ => id) fun r live _ closes there => ?_
    rw [none r live there] at closes
    cases closes
  unfold State.dismissHead
  split
  · next r head =>
    obtain ⟨live, on, isHead⟩ := State.mem_of_head head
    subst on
    split
    · next ending =>
      exact fits.depart live (by rw [ending]; nofun) (fun _ _ => id) (fun d e => ⟨e, isHead⟩) b
    · next p notEnding closing =>
      refine fits.requeue live isHead (fun d other => other) rest fun e => ?_
      rw [closing] at e
      exact notEnding (RunState.closing.inj e)
    · next notClosing =>
      refine settled fun q hq there => ?_
      cases closes : q.state.isClosing with
      | false => rfl
      | true =>
        have same := fits.only hq live (fits.heads q hq r live there (isHead_of_isClosing closes) isHead)
        subst same
        unfold RunState.isClosing at closes
        split at closes
        · next p closing => exact absurd closing (notClosing p)
        · cases closes
  · next none =>
    refine settled fun q hq there => ?_
    cases closes : q.state.isClosing with
    | false => rfl
    | true =>
      have not := State.no_head_of_none none q hq there
      rw [isHead_of_isClosing closes] at not
      cases not

theorem State.completeClose_eq (s : State) (c : Chan) :
    s.completeClose c = (s.setChan c (s.chan c).endClose).dismissHead c false := rfl

theorem State.Fits.completeClose (fits : s.Fit may) (c : Chan) (closing : (s.chan c).valve = .closing) :
    (s.completeClose c).Fit may := by
  rw [s.completeClose_eq]
  refine (fits.setEndClose c closing).dismissHead ?_ false
  rw [State.chan_setChan_same]
  rfl

/-- A close demand on a FLOWING head: its channel is driven no more. -/
theorem State.Fits.closeHead {ended : Nat → Prop} (fits : s.Fits may ended fun _ => False) {r : Run} (live : r ∈ s.rm.pool)
    (flows : r.state = .flowing) (p : Purpose) (result : r.endResult.isSome = true ↔ p = .ending)
    (others : ∀ h, h ≠ r.handle → ¬ ended h) : (s.demandClose r.channel p).Fit fun d => d ≠ r.channel ∧ may d := by
  have drives := fits.flowing r live flows
  have valve : (s.chan r.channel).beginClose.valve = .closing := by rw [Channel.beginClose_of_driven drives]
  have begun := fits.beginClose live flows (f := fun q => { q with state := .closing p }) rfl rfl rfl
    (result.trans ⟨fun e => by rw [e], fun e => RunState.closing.inj e⟩) others
  unfold State.demandClose
  rw [fits.head_eq live (isHead_of_flowing flows)]
  dsimp only
  rw [if_pos flows]
  split
  · refine State.Fits.completeClose begun r.channel ?_
    rw [State.chan_setChan_same]
    exact valve
  · exact begun

theorem State.Fits.demandClose (fits : s.Fit may) (c : Chan) {p : Purpose} (other : p ≠ .ending) :
    (s.demandClose c p).Fit fun d => d ≠ c ∧ may d := by
  have quiet : (∀ r ∈ s.rm.pool, r.channel = c → r.state ≠ .flowing) → s.Fit fun d => d ≠ c ∧ may d := fun none =>
    fits.weaken (fun d drives allowed => ⟨fun here => by
      obtain ⟨⟨q, hq, on, flows⟩, -⟩ := fits.driven d drives
      exact none q hq (on.trans here) flows, allowed⟩) (fun _ => id) fun _ => id
  cases head : s.head c with
  | none =>
    unfold State.demandClose
    rw [head]
    refine quiet fun q hq there flows => ?_
    have not := State.no_head_of_none head q hq there
    rw [isHead_of_flowing flows] at not
    cases not
  | some r =>
    obtain ⟨live, on, isHead⟩ := State.mem_of_head head
    by_cases flows : r.state = .flowing
    · subst on
      refine fits.closeHead live flows p ?_ fun _ _ => id
      refine iff_of_false ?_ other
      rw [fits.no_result live (by rw [flows]; nofun)]
      exact Bool.false_ne_true
    · have same : s.demandClose c p = s := by
        unfold State.demandClose
        rw [head]
        exact if_neg flows
      rw [same]
      refine quiet fun q hq there flowsQ => flows ?_
      rw [← fits.only hq live (fits.heads q hq r live (there.trans on.symm) (isHead_of_flowing flowsQ) isHead)]
      exact flowsQ

/-- R66: after a station-wide close demand no valve is driven. -/
theorem State.Fits.closeAll (fits : s.Fit may) {p : Purpose} (other : p ≠ .ending) :
    (s.closeAll p).Fit fun _ => False := by
  have fold : ∀ (cs : List Chan) (t : State) (may : Chan → Prop), t.Fit may →
      (cs.foldl (fun t c => t.demandClose c p) t).Fit fun d => d ∉ cs ∧ may d := by
    intro cs
    induction cs with
    | nil => exact fun t may kept => kept.mono fun d allowed => ⟨List.not_mem_nil, allowed⟩
    | cons c cs ih =>
      intro t may kept
      refine (ih _ _ (kept.demandClose c other)).mono fun d allowed => ?_
      obtain ⟨later, here, old⟩ := allowed
      exact ⟨fun e => (List.mem_cons.1 e).elim here later, old⟩
  exact (fold allChans s may fits).mono fun d allowed => allowed.1 (mem_allChans d)

/-! ### Ends -/

/-- The run that takes an end, with its result written. -/
theorem State.Fits.writeResult (fits : s.Fit may) (r : Run) (e : EndResult) :
    (s.modRun r.handle fun q => { q with endResult := some e }).Fits may (· = r.handle) fun _ => False where
  handles := by
    have same : (s.modRun r.handle fun q => { q with endResult := some e }).rm.pool.map Run.handle =
        s.rm.pool.map Run.handle := handles_of_roll (s.modRun_roll r.handle _ fun _ => rfl)
    rw [same]
    exact fits.handles
  range q hq := by
    obtain ⟨p, hp, rfl⟩ := mem_updateRun.1 hq
    split <;> exact fits.range p hp
  result q hq notEnded := by
    obtain ⟨p, hp, rfl⟩ := mem_updateRun.1 hq
    split at notEnded
    · next same => exact absurd same notEnded
    · next other =>
      rw [if_neg other]
      exact fits.result p hp id
  heads a ha b hb := by
    obtain ⟨p, hp, rfl⟩ := mem_updateRun.1 ha
    obtain ⟨q, hq, rfl⟩ := mem_updateRun.1 hb
    have law := fits.heads p hp q hq
    split <;> split <;> exact law
  flowing q hq := by
    obtain ⟨p, hp, rfl⟩ := mem_updateRun.1 hq
    have law := fits.flowing p hp
    split <;> exact law
  closing q hq := by
    obtain ⟨p, hp, rfl⟩ := mem_updateRun.1 hq
    have law := fits.closing p hp
    split <;> exact law
  driven c drives := by
    obtain ⟨⟨q, hq, on, flows⟩, allowed⟩ := fits.driven c drives
    refine ⟨⟨if q.handle = r.handle then { q with endResult := some e } else q, mem_updateRun.2 ⟨q, hq, rfl⟩, ?_, ?_⟩, allowed⟩
    · split <;> exact on
    · split <;> exact flows
  absent c gone := by
    obtain ⟨closed, noRun⟩ := fits.absent c gone
    refine ⟨closed, fun q hq => ?_⟩
    obtain ⟨p, hp, rfl⟩ := mem_updateRun.1 hq
    have law := noRun p hp
    split <;> exact law

theorem State.mem_of_findRun {h : Nat} {r : Run} (found : findRun s.rm.pool h = some r) : r ∈ s.rm.pool ∧ r.handle = h :=
  ⟨List.mem_of_find?_eq_some found, by simpa using List.find?_some found⟩

theorem State.Fits.endRun (fits : s.Fit may) (h : Nat) (e : EndResult) : (s.endRun h e).Fit may := by
  unfold State.endRun
  split
  · exact fits
  · next r found =>
    obtain ⟨live, rfl⟩ := State.mem_of_findRun found
    have written := fits.writeResult r e
    have live' : { r with endResult := some e } ∈ (s.modRun r.handle fun q => { q with endResult := some e }).rm.pool :=
      mem_updateRun.2 ⟨r, live, if_pos rfl⟩
    have departs : r.state ≠ .flowing →
        ((s.modRun r.handle fun q => { q with endResult := some e }).depart r.handle false).Fit may := fun notFlowing =>
      written.depart live' notFlowing (fun _ => id) (fun _ => False.elim) false
    split
    · exact fits
    · dsimp only
      split
      · next st => exact departs (by rw [st]; nofun)
      · next st => exact departs (by rw [st]; nofun)
      · next st => exact departs (by rw [st]; nofun)
      · next st =>
        exact (written.closeHead live' st .ending (iff_of_true rfl rfl) fun _ => id).mono fun _ => And.right
      · next p st =>
        have head : r.state.isHead = true := by rw [st]; rfl
        have valve := fits.closing r live id (by rw [st]; rfl)
        refine written.update (State.setRunState_changes _ live' (.closing .ending)) (written.alone live' head)
          (fun _ => iff_of_true rfl rfl) nofun (fun drives => ?_) (fun _ _ => valve) (fun _ _ => id) (fun _ other e => other e)
          fun _ _ => id
        have still := Valve.not_driven_closing valve
        exact absurd (still.symm.trans drives) Bool.false_ne_true

/-- A FLOWING run that takes an end drives its valve no more. -/
theorem State.Fits.endFlowing (fits : s.Fit may) {r : Run} (live : r ∈ s.rm.pool) (flows : r.state = .flowing) (e : EndResult) :
    (s.endRun r.handle e).Fit fun d => d ≠ r.channel ∧ may d := by
  have written := fits.writeResult r e
  have live' : { r with endResult := some e } ∈ (s.modRun r.handle fun q => { q with endResult := some e }).rm.pool :=
    mem_updateRun.2 ⟨r, live, if_pos rfl⟩
  have found : findRun s.rm.pool r.handle = some r := by
    cases h : findRun s.rm.pool r.handle with
    | none => exact absurd (beq_self_eq_true r.handle) (by simpa using List.find?_eq_none.1 h r live)
    | some q =>
      have same : q.handle = r.handle := by simpa using List.find?_some h
      rw [fits.only (List.mem_of_find?_eq_some h) live same]
  unfold State.endRun
  rw [found]
  dsimp only
  rw [fits.no_result live (by rw [flows]; nofun), if_neg Bool.false_ne_true, flows]
  exact written.closeHead live' flows .ending (iff_of_true rfl rfl) fun _ => id

/-! ### Notices and evaluations -/

theorem State.stopWatch_fit (fits : s.Fit may) : s.stopWatch.Fit may :=
  List.foldlRecOn _ _ (motive := fun t : State => t.Fit may) fits fun _ kept h _ => kept.endRun h .stopped

theorem State.Fits.evaluate (fits : s.Fit may) : s.evaluate.Fit may := by
  refine State.Fits.headSelectAll (State.Fits.passing (State.stopWatch_fit fits) _ fun r _ passes => ?_) _
  unfold State.passes at passes
  rw [Bool.and_eq_true, beq_iff_eq] at passes
  exact passes.1

theorem State.Fits.evaluateIf (fits : s.Fit may) (p : Bool) : (s.evaluateIf p).Fit may := by
  unfold State.evaluateIf
  split
  · exact fits.evaluate
  · exact fits

/-- R35: what a channel that may open is. -/
theorem State.of_canOpen {c : Chan} (opens : s.canOpen c = true) :
    s.mu.station = .synced ∧ (s.chan c).present = true ∧ (s.chan c).inFault = false ∧ (s.chan c).valve = .closed ∧
      ∃ r e, s.head c = some r ∧ slot s.ct.table s.own c = some e ∧ r.state = .asking ∧ r.level = e.level ∧
        r.demand = e.demand := by
  unfold State.canOpen at opens
  simp only [Bool.and_eq_true, beq_iff_eq, Bool.not_eq_true'] at opens
  obtain ⟨⟨⟨⟨station, present⟩, healthy⟩, closed⟩, claim⟩ := opens
  refine ⟨station, present, healthy, closed, ?_⟩
  split at claim
  · next r e head entry =>
    simp only [Bool.and_eq_true, beq_iff_eq] at claim
    exact ⟨r, e, head, entry, claim.1.1, claim.1.2, claim.2⟩
  · cases claim

theorem State.Fits.grantNotice (fits : s.Fit may) (c : Chan)
    (ready : s.mu.station = .synced → (s.chan c).inFault = false → may c) : (s.grantNotice c).Fit may := by
  unfold State.grantNotice
  split
  · next opens =>
    obtain ⟨station, present, healthy, closed, r, e, head, -, asking, -⟩ := State.of_canOpen opens
    rw [head]
    obtain ⟨live, on, isHead⟩ := State.mem_of_head head
    subst on
    have noResult := fits.no_result live (by rw [asking]; nofun)
    refine State.Fits.of_gear (State.announce_gear _ _) ?_
    refine fits.update (s.setChan_changes live (f := fun q => { q with state := .flowing }) rfl rfl _ rfl)
      (fits.alone live isHead) (fun _ => ?_) (fun _ => ?_) (fun _ => ⟨rfl, ready station healthy⟩) nofun (fun _ _ => id)
      (fun _ _ => id) fun _ _ => id
    · exact iff_of_false (by rw [noResult]; exact Bool.false_ne_true) nofun
    · rw [State.chan_setChan_same]
      rfl
  · exact State.Fits.of_gear (s.queueCurrent_gear c) fits

theorem State.Fits.revocationNotice (fits : s.Fit may) (c : Chan) : (s.revocationNotice c).Fit may :=
  State.Fits.of_gear (State.queueCurrent_gear _ c) ((fits.demandClose c (by nofun)).mono fun _ => And.right)

theorem inFault_of_bare {a b : Channel} (h : a.bare = b.bare) : a.inFault = b.inFault := by
  have e := congrArg Channel.inFault h
  exact e

theorem State.Fits.notices (fits : s.Fit may) (granted revoked : List Chan)
    (ready : ∀ c ∈ granted, s.mu.station = .synced → (s.chan c).inFault = false → may c) :
    (s.notices granted revoked).Fit may := by
  refine (List.foldlRecOn allChans _ (motive := fun t : State => t.Fit may ∧ t.bare = s.bare) ⟨fits, rfl⟩
    fun t kept c _ => ?_).1
  obtain ⟨kept, bare⟩ := kept
  split
  · next grant =>
    refine ⟨kept.grantNotice c fun station healthy => ready c grant ?_ ?_, (t.grantNotice_bare c).trans bare⟩
    · rw [← mu_of_bare bare]
      exact station
    · rw [← inFault_of_bare (chan_of_bare bare c)]
      exact healthy
  · split
    · exact ⟨kept.revocationNotice c, (t.revocationNotice_bare c).trans bare⟩
    · exact ⟨kept, bare⟩

theorem State.allocate_granted (s : State) : s.allocate.granted = if s.latching then
    allChans.filter fun c => (slot (s.walk.placed.foldl markPlaced s.clearedTable) s.own c).any Entry.qualifies else [] := by
  unfold State.latching State.walk State.allocate
  dsimp only

theorem State.halt_of_granted {c : Chan} (granted : c ∈ s.allocate.granted) : s.hu.halt = .none := by
  rw [s.allocate_granted] at granted
  split at granted
  · next latching =>
    unfold State.latching at latching
    simp only [Bool.and_eq_true, beq_iff_eq] at latching
    exact latching.1.2
  · cases granted

/-- The notices follow a table and a result that have been written. -/
theorem State.Fits.writtenNotices (fits : s.Fit may) (t : Table) (r : AllocResult) (granted revoked : List Chan)
    (ready : ∀ c ∈ granted, s.mu.station = .synced → (s.chan c).inFault = false → may c) :
    (((s.setTable t).setAlloc r).notices granted revoked).Fit may := by
  have gear : ((s.setTable t).setAlloc r).gear = s.gear := rfl
  exact (fits.of_gear gear).notices granted revoked ready

/-- A recomputation opens valves only where they may be driven (R35). -/
theorem State.Fits.recompute (fits : s.Fit may)
    (ready : ∀ c, s.mu.station = .synced → s.hu.halt = .none → (s.chan c).inFault = false → may c) :
    s.recompute.Fit may := by
  unfold State.recompute
  exact fits.writtenNotices _ _ _ _ fun c granted station healthy =>
    ready c station (State.halt_of_granted granted) healthy

end ops

end Sys2Proof.Machine
end

section
/-!
SUPPORT. The adoption condition (R15), LEAVE (R147) and the pool's bound (R40) through every event.
-/

namespace Sys2Proof.Machine

/-! ### The station and the adoption condition -/

/-- The adoption condition and the station state. -/
def State.seat (s : State) : Bool × StationState := (s.ct.adoptionPending, s.mu.station)

theorem seat_of_bare {s t : State} (h : s.bare = t.bare) : s.seat = t.seat := by
  unfold State.seat
  rw [ct_of_bare h, mu_of_bare h]

theorem seat_of_calm {s t : State} (h : s.calm = t.calm) : s.seat = t.seat := by
  unfold State.seat
  rw [ct_of_calm h, mu_of_calm h]

theorem adoption_of_seat {s t : State} (h : s.seat = t.seat) : s.ct.adoptionPending = t.ct.adoptionPending :=
  congrArg Prod.fst h

theorem station_of_seat {s t : State} (h : s.seat = t.seat) : s.mu.station = t.mu.station := congrArg Prod.snd h

theorem adoptionSound_of_seat {s t : State} (h : t.seat = s.seat) (sound : s.AdoptionSound) : t.AdoptionSound := by
  unfold State.AdoptionSound
  rw [adoption_of_seat h, station_of_seat h]
  exact sound

theorem adoptionSound_of_false {s : State} (none : s.ct.adoptionPending = false) : s.AdoptionSound := fun pending => by
  rw [none] at pending
  cases pending

theorem adoptionSound_of_resync {s : State} (station : s.mu.station = .resync) : s.AdoptionSound := fun _ => .inr station

theorem State.setOrphans_seat (s : State) (os : List Orphan) : (s.setOrphans os).seat = s.seat :=
  (seat_of_calm (s.setOrphans_calm os)).trans rfl

theorem State.dropOrphan_seat (s : State) (a : Addr) : (s.dropOrphan a).seat = s.seat := by
  unfold State.dropOrphan
  split
  · exact s.setOrphans_seat _
  · rfl

theorem State.refreshView_seat (s : State) : s.refreshView.seat = s.seat :=
  (seat_of_calm s.refreshView_calm).trans rfl

theorem State.removeMember_seat (s : State) (a : Addr) : (s.removeMember a).seat = s.seat := by
  by_cases member : s.isMember a = true
  · rw [s.removeMember_of_member member, seat_of_calm (State.tellHalt_calm _ a)]
    unfold State.without
    rw [seat_of_calm (State.raise_calm _ _), State.refreshView_seat]
    rfl
  · rw [s.removeMember_of_not_member (by simpa using member)]

theorem State.recompute_seat (s : State) : s.recompute.seat = s.seat := by
  unfold State.seat
  rw [s.recompute_ct, s.recompute_mu]

theorem State.enterHalted_seat (s : State) (r : BitVec 4) (f : HaltUnit → HaltUnit) : (s.enterHalted r f).seat = s.seat :=
  (seat_of_bare (s.enterHalted_bare r f)).trans (seat_of_calm (s.halting_calm r f))

theorem State.applyHalt_seat (s : State) (r : BitVec 4) : (s.applyHalt r).seat = s.seat := by
  unfold State.applyHalt
  split
  · rfl
  · split <;> exact s.enterHalted_seat _ _

theorem State.adoptHalt_seat (s : State) (k : HaltState) (r : BitVec 4) : (s.adoptHalt k r).seat = s.seat := by
  unfold State.adoptHalt
  split
  · exact seat_of_calm (State.raiseIf_calm _ _ _)
  · split
    · rfl
    · exact s.enterHalted_seat _ _
  · exact seat_of_calm (State.raiseIf_calm _ _ _)

theorem State.mergeHalt_seat (s : State) (k : HaltState) (r : BitVec 4) : (s.mergeHalt k r).seat = s.seat := by
  unfold State.mergeHalt
  split
  · rfl
  · split
    · rfl
    · exact s.enterHalted_seat _ _
  · rfl

theorem State.applyRelease_seat (s : State) : s.applyRelease.seat = s.seat := by
  by_cases halted : s.hu.halt = .halted
  · rw [s.applyRelease_eq halted]
    split
    · exact (seat_of_bare (State.enqueue_bare _ _)).trans (seat_of_calm s.turnToSettling_calm)
    · exact seat_of_calm s.turnToSettling_calm
  · rw [s.applyRelease_of_not_halted halted]

theorem State.applyClaim_seat (s : State) (a : Addr) (c l d p k : Byte) : (s.applyClaim a c l d p k).seat = s.seat := by
  unfold State.applyClaim
  split
  · split
    · split
      · dsimp only
        split <;> rfl
      · rfl
    · split <;> rfl
  · rfl

theorem State.dropMember_seat (s : State) (a : Addr) : (s.dropMember a).seat = s.seat := by
  unfold State.dropMember
  dsimp only
  rw [State.removeMember_seat]
  split
  · exact s.setOrphans_seat _
  · rfl

theorem State.withMember_seat (s : State) (a : Addr) (m : Member) : (s.withMember a m).seat = s.seat := by
  unfold State.withMember
  rw [State.dropOrphan_seat]
  rfl

theorem State.enterSynced_adoption (s : State) : s.enterSynced.ct.adoptionPending = false := by
  rw [ct_of_bare s.enterSynced_bare]
  rfl

theorem State.steppingOut_adoption (s : State) (st : StationState) (cause : IsolationCause) (e : SiteEvent) :
    (s.steppingOut st cause e).ct.adoptionPending = false := by
  unfold State.steppingOut State.setAdoption
  dsimp only
  rw [State.setCt_ct]

theorem State.enterIsolated_adoption (s : State) (cause : IsolationCause) :
    (s.enterIsolated cause).ct.adoptionPending = false := by
  rw [s.enterIsolated_eq, State.setBus_ct, State.setHu_ct, s.isolating_eq]
  unfold State.announceGone
  rw [State.setChans_ct, ct_of_bare (State.closeAll_bare _ _), State.steppingOut_adoption]

theorem State.clashed_adoption (s : State) : s.clashed.ct.adoptionPending = false := by
  unfold State.clashed
  rw [State.setBus_ct, State.setHu_ct, s.clashing_eq, ct_of_bare (State.closeAll_bare _ _), State.steppingOut_adoption]

theorem State.selfDrop_adoptionSound (s : State) (sound : s.AdoptionSound) : s.selfDrop.AdoptionSound := by
  unfold State.selfDrop
  split
  · exact adoptionSound_of_false (s.enterIsolated_adoption _)
  · exact sound

theorem State.beatStation_adoptionSound (s : State) (a : Addr) (seq : Seq) (b : BeatBody) (sound : s.AdoptionSound) :
    (s.beatStation a seq b).AdoptionSound := by
  unfold State.beatStation
  split
  · exact sound
  · rw [s.addMember_eq]
    split
    · exact adoptionSound_of_false (State.enterSynced_adoption _)
    · exact adoptionSound_of_seat (s.withMember_seat a _) sound

theorem State.beatView_adoptionSound (s : State) (a : Addr) (b : BeatBody) (adopt : Bool) (sound : s.AdoptionSound) :
    (s.beatView a b adopt).AdoptionSound := by
  unfold State.beatView
  split
  · exact sound
  · exact sound
  · exact sound
  · split
    · unfold State.adoptView
      dsimp only
      refine adoptionSound_of_seat ((State.adoptHalt_seat _ _ _).trans (State.setOrphans_seat _ _)) ?_
      exact adoptionSound_of_false rfl
    · unfold State.mergeView
      dsimp only
      refine adoptionSound_of_seat ((seat_of_calm (State.raiseIf_calm _ _ _)).trans
        ((State.mergeHalt_seat _ _ _).trans (State.setOrphans_seat _ _))) ?_
      exact adoptionSound_of_seat (by rfl) sound

theorem State.beatViewed_adoptionSound (s : State) (a : Addr) (seq : Seq) (b : BeatBody) (sound : s.AdoptionSound) :
    (s.beatViewed a seq b).AdoptionSound := by
  unfold State.beatViewed
  exact adoptionSound_of_seat (seat_of_calm (State.settleRemoval_calm _ a)) (State.beatView_adoptionSound _ a b _
    (adoptionSound_of_seat (by rfl) (s.beatStation_adoptionSound a seq b sound)))

theorem State.applyBody_adoptionSound (s : State) (f : Frame) (sound : s.AdoptionSound) : (s.applyBody f).AdoptionSound := by
  unfold State.applyBody
  split
  · rw [State.applyBeat_eq]
    exact adoptionSound_of_seat ((State.refreshView_seat _).trans rfl) (s.beatViewed_adoptionSound _ _ _ sound)
  · exact adoptionSound_of_seat (s.applyClaim_seat _ _ _ _ _ _) sound
  · exact sound
  · exact sound
  · unfold State.applyDrop
    split
    · exact sound
    · split
      · exact s.selfDrop_adoptionSound sound
      · split
        · exact adoptionSound_of_seat (s.dropMember_seat _) sound
        · exact sound
  · unfold State.applyPurge
    split
    · exact sound
    · split
      · exact s.selfDrop_adoptionSound sound
      · split
        · exact adoptionSound_of_seat (s.dropOrphan_seat _) sound
        · exact adoptionSound_of_seat (s.removeMember_seat _) sound
  · unfold State.applyLeave
    split
    · exact sound
    · exact adoptionSound_of_seat (s.removeMember_seat _) sound
  · exact adoptionSound_of_seat (s.applyHalt_seat _) sound
  · exact adoptionSound_of_seat (seat_of_calm (s.applyHaltAck_calm _ _)) sound
  · exact adoptionSound_of_seat s.applyRelease_seat sound

/-! ### Events that move the station -/

/-- An event that moves the station or the adoption condition. -/
inductive Shift : State → State → Prop
  | leave (s : State) (station : s.mu.station.takesSiteCommand = true) : Shift s s.startLeaving
  | loseSync (s : State) (station : s.mu.station = .synced) : Shift s s.loseSync
  | markStale (s : State) (station : s.mu.station = .resync) : Shift s (s.markStale.setAdoption true)
  | enterSynced (s : State) (station : s.mu.station = .resync) : Shift s s.enterSynced
  | turn (s t : State) (one : Turn s t) : Shift s t

theorem State.addFault_seat (s : State) (c : Chan) (f : Faults → Faults) : (s.addFault c f).seat = s.seat := by
  rw [State.addFault_parts]
  rfl

theorem State.count_seat (s : State) : s.count.seat = s.seat := by
  unfold State.seat
  simp only [State.count, State.setClock_ct, State.setBus_ct, State.setHu_ct, State.setMu_ct, State.setChans_ct,
    State.setClock_mu, State.setBus_mu, State.setHu_mu, State.setMu_mu]

theorem State.ackTest_seat (s : State) : s.ackTest.seat = s.seat := (seat_of_bare s.ackTest_bare).trans rfl

theorem State.admitted_seat (s : State) (c : Chan) (args : RunArgs) : (s.admitted c args).seat = s.seat :=
  (seat_of_bare (s.admitted_bare c args)).trans rfl

theorem State.clearFault_seat (s : State) (c : Chan) : ((s.takeStuckClosed c).clearFaults c).seat = s.seat := by
  have taken : (s.takeStuckClosed c).seat = s.seat := by
    unfold State.takeStuckClosed
    split
    · exact (seat_of_bare (State.announce_bare _ c)).trans rfl
    · rfl
  exact taken

theorem State.declareStuck_seat (s : State) (c : Chan) : (s.declareStuck c).seat = s.seat := by
  have stuck : ∀ ch f, ((s.setChan c ch).addFault c f).seat = s.seat := fun ch f => State.addFault_seat _ c f
  unfold State.declareStuck
  dsimp only
  split
  · split
    · exact (seat_of_bare (State.depart_bare _ _ _)).trans (stuck _ _)
    · exact (seat_of_bare (State.requeue_bare _ _ _)).trans (stuck _ _)
    · exact stuck _ _
  · exact stuck _ _

theorem State.runDry_seat (s : State) (c : Chan) : (s.runDry c).seat = s.seat := by
  have dry : ∀ ch f, ((s.setChan c ch).addFault c f).seat = s.seat := fun ch f => State.addFault_seat _ c f
  unfold State.runDry
  dsimp only
  split
  · exact (seat_of_bare (State.endRun_bare _ _ _)).trans (dry _ _)
  · exact dry _ _

theorem State.startFrame_seat (s : State) (f : OutFrame) : (s.startFrame f).seat = s.seat := by
  unfold State.startFrame
  rw [State.announceBeat_parts]
  rfl

/-- Every event leaves the station and the adoption condition, or is one that moves them. -/
theorem Event.seat_or_shift {s t : State} (one : Event s t) : t.seat = s.seat ∨ Shift s t := by
  cases one with
  | pending | port | pins | clock | events | site | halt | line | window | member | credit | chan | configure
  | releaseStuck | readLog | fail => exact .inl rfl
  | count => exact .inl s.count_seat
  | admission c args present room => exact .inl (s.admitted_seat c args)
  | endRun h e => exact .inl (seat_of_bare (s.endRun_bare h e))
  | clearFault c present => exact .inl (s.clearFault_seat c)
  | enqueue f other => exact .inl (seat_of_bare (s.enqueue_bare f))
  | announce c => exact .inl (seat_of_bare (s.announce_bare c))
  | ackTest => exact .inl s.ackTest_seat
  | leaveTest => exact .inl (seat_of_bare s.leaveTest_bare)
  | completeClose c closing => exact .inl (seat_of_bare (s.completeClose_bare c))
  | declareStuck c closing present => exact .inl (s.declareStuck_seat c)
  | runDry c opened => exact .inl (s.runDry_seat c)
  | leak c closed => exact .inl (s.addFault_seat c _)
  | evaluate => exact .inl (seat_of_bare s.evaluate_bare)
  | startFrame m f tx front => exact .inl (s.startFrame_seat f)
  | leave station => exact .inr (.leave s station)
  | loseSync station => exact .inr (.loseSync s station)
  | markStale station => exact .inr (.markStale s station)
  | enterSynced station => exact .inr (.enterSynced s station)
  | listen k n station => exact .inr (.turn s _ (.listen s k n station))
  | enterClash tx => exact .inr (.turn s _ (.clash s tx))
  | isolate tx => exact .inr (.turn s _ (.isolate s tx))
  | left x tx item => exact .inr (.turn s _ (.left s x tx item))
  | sent x tx item => exact .inr (.turn s _ (.sent s x tx item))
  | heard f tx other station known => exact .inr (.turn s _ (.heard s f tx other station known))

theorem State.heed_adoptionSound (s : State) (f : Frame) (sound : s.AdoptionSound) : (s.heed f).AdoptionSound := by
  unfold State.heed
  exact adoptionSound_of_seat (State.recompute_seat _)
    (State.applyBody_adoptionSound _ f (adoptionSound_of_seat (by rfl) sound))

theorem Turn.adoptionSound {s t : State} (one : Turn s t) (sound : s.AdoptionSound) : t.AdoptionSound := by
  cases one with
  | listen k n station =>
    unfold State.relisten
    rw [State.startListening_eq]
    refine adoptionSound_of_seat ((seat_of_bare (State.evaluateIf_bare _ _)).trans (State.recompute_seat _)) fun _ => .inl ?_
    rw [State.emptied_mu]
    rfl
  | clash tx =>
    rw [s.enterClash_eq]
    exact adoptionSound_of_seat ((seat_of_bare (State.evaluateIf_bare _ _)).trans (State.recompute_seat _))
      (adoptionSound_of_false s.clashed_adoption)
  | isolate tx => exact adoptionSound_of_seat (State.recompute_seat _) (adoptionSound_of_false (s.enterIsolated_adoption _))
  | left x tx item =>
    rw [State.enterConfig_eq]
    refine adoptionSound_of_seat ((seat_of_bare (State.evaluateIf_bare _ _)).trans (State.recompute_seat _))
      (adoptionSound_of_false ?_)
    rw [State.configured_ct]
  | sent x tx item => exact State.heed_adoptionSound _ _ (adoptionSound_of_seat (by rfl) sound)
  | heard f tx other station known => exact s.heed_adoptionSound f sound

theorem State.startLeaving_adoption (s : State) : s.startLeaving.ct.adoptionPending = false := by
  rw [ct_of_bare s.startLeaving_bare]
  rfl

theorem Event.adoptionSound {s t : State} (one : Event s t) (sound : s.AdoptionSound) : t.AdoptionSound := by
  rcases one.seat_or_shift with same | shift
  · exact adoptionSound_of_seat same sound
  · cases shift with
    | leave station => exact adoptionSound_of_false s.startLeaving_adoption
    | loseSync station => exact adoptionSound_of_resync s.loseSync_station
    | markStale station =>
      refine adoptionSound_of_resync ?_
      unfold State.setAdoption
      rw [State.setCt_mu, s.markStale_station]
      exact station
    | enterSynced station => exact adoptionSound_of_false s.enterSynced_adoption
    | turn t turn => exact turn.adoptionSound sound

/-! ### LEAVE -/

/-- No LEAVE is held or on the line. -/
def State.NoLeave (s : State) : Prop := OutFrame.leave ∉ s.bus.outbound ∧ ∀ x ∈ s.bus.tx, x.item ≠ .leave

theorem noLeave_of_bus {s t : State} (out : t.bus.outbound = s.bus.outbound) (tx : t.bus.tx = s.bus.tx) (law : s.NoLeave) :
    t.NoLeave := by
  unfold State.NoLeave
  rw [out, tx]
  exact law

theorem leave_not_mem_insertOut {f : OutFrame} {out : List OutFrame} (other : f ≠ .leave) (none : OutFrame.leave ∉ out) :
    OutFrame.leave ∉ insertOut f out := fun member => by
  rcases mem_insertOut member with old | new | ⟨h, old, same, combined⟩
  · exact none old
  · exact other new.symm
  · have key := OutFrame.combine_sameKey h f .leave same
    rw [← combined, OutFrame.sameKey_refl] at key
    cases h <;> first | exact none old | cases key

theorem State.enqueue_noLeave (s : State) (f : OutFrame) (other : f ≠ .leave) (law : s.NoLeave) : (s.enqueue f).NoLeave := by
  unfold State.enqueue
  split
  · exact ⟨leave_not_mem_insertOut other law.1, law.2⟩
  · exact law

theorem RunMove.noLeave {s t : State} (one : RunMove s t) (law : s.NoLeave) : t.NoLeave := by
  rcases one.outbound with same | ⟨-, c, k, queued⟩
  · exact noLeave_of_bus same (tx_of_bare one.bare) law
  · refine ⟨?_, ?_⟩
    · rw [queued]
      exact leave_not_mem_insertOut nofun law.1
    · rw [tx_of_bare one.bare]
      exact law.2

theorem noLeave_plantLaw : PlantLaw State.NoLeave where
  site _ _ same := noLeave_of_bus (congrArg BusUnit.outbound (bus_of_plant same)) (congrArg BusUnit.tx (bus_of_plant same))
  run _ _ chain := chain.keep (P := State.NoLeave) fun _ _ one => one.noLeave
  alloc _ _ law := law
  enqueue := State.enqueue_noLeave
  emptied _ _ _ law := ⟨List.not_mem_nil, law.2⟩
  forgotten _ law := law

theorem leave_not_mem_restoreOut {place : Nat} {f : OutFrame} {out : List OutFrame} (other : f ≠ .leave)
    (none : OutFrame.leave ∉ out) : OutFrame.leave ∉ restoreOut place f out := by
  unfold restoreOut
  dsimp only
  rw [List.mem_append, List.mem_cons]
  rintro (before | back | after)
  · exact none (List.mem_of_mem_filter (List.mem_of_mem_take before))
  · have key := restored_sameKey f .leave out
    rw [← back, OutFrame.sameKey_refl] at key
    cases f <;> first | exact other rfl | cases key
  · exact none (List.mem_of_mem_filter (List.mem_of_mem_drop after))

theorem State.addFault_noLeave (s : State) (c : Chan) (f : Faults → Faults) (law : s.NoLeave) : (s.addFault c f).NoLeave := by
  rw [State.addFault_parts]
  exact law

theorem State.admitted_noLeave (s : State) (c : Chan) (args : RunArgs) (law : s.NoLeave) : (s.admitted c args).NoLeave := by
  unfold State.admitted
  split
  · exact noLeave_plantLaw.run _ _ (RunSide.releaseWaiting _ _) law
  · exact noLeave_plantLaw.run _ _ (RunSide.headSelect _ _) law

/-- Outside LEAVING no event holds a LEAVE or sends one. -/
theorem Event.noLeave {s t : State} (one : Event s t) (station : s.mu.station ≠ .leaving) (law : s.NoLeave) : t.NoLeave := by
  have plant := noLeave_plantLaw
  cases one with
  | pending | port | pins | clock | events | site | halt | window | member | credit | chan | configure | releaseStuck
  | readLog => exact law
  | line b set tx => exact noLeave_of_bus set tx law
  | count => exact noLeave_of_bus (by rw [s.count_bus]) (by rw [s.count_bus]) law
  | listen k n station => exact plant.startListening n (plant.setMu _ law)
  | leave station => exact plant.startLeaving law
  | admission c args present room => exact s.admitted_noLeave c args law
  | endRun h e => exact plant.run _ _ (RunSide.endRun s h e) law
  | clearFault c present => exact plant.clearFault (fun _ _ _ kept => kept) c law
  | enqueue f other => exact plant.enqueue s f other law
  | announce c => exact plant.run _ _ (RunSide.announce s c) law
  | ackTest => exact plant.ackTest law
  | leaveTest =>
    have same : s.leaveTest = s := if_neg fun h => station h.1
    rw [same]
    exact law
  | completeClose c closing => exact plant.run _ _ (RunSide.completeClose s c) law
  | declareStuck c closing present => exact plant.declareStuck (fun _ _ _ kept => kept) State.addFault_noLeave c law
  | runDry c opened => exact plant.runDry (fun _ _ _ kept => kept) State.addFault_noLeave c law
  | leak c closed => exact s.addFault_noLeave c _ law
  | evaluate => exact plant.run _ _ (RunSide.evaluate s) law
  | loseSync station => exact plant.loseSync law
  | markStale station => exact plant.setAdoption true (plant.markStale law)
  | enterSynced station => exact plant.enterSynced law
  | enterClash tx => exact plant.enterClash law
  | startFrame m f tx front =>
    have held := State.mem_of_startable front
    refine ⟨fun member => law.1 (List.mem_of_mem_eraseIdx member), fun x sending => ?_⟩
    rw [s.startFrame_tx] at sending
    obtain rfl := Option.some.inj sending
    exact fun item => law.1 (item ▸ held)
  | fail x m tx => exact ⟨leave_not_mem_restoreOut (law.2 x tx) law.1, nofun⟩
  | isolate tx => exact plant.recompute (plant.enterIsolated .readback law)
  | left x tx item => exact absurd item (law.2 x tx)
  | sent x tx item =>
    have counted : (s.countSent x).NoLeave := ⟨law.1, nofun⟩
    exact plant.heed x.frame counted
  | heard f tx other station known => exact plant.heed f law

theorem leaveHeld_of_noLeave {s : State} (law : s.NoLeave) : s.LeaveHeld := by
  rintro (held | sending)
  · exact absurd held law.1
  · rw [Option.any_eq_true] at sending
    obtain ⟨x, tx, item⟩ := sending
    exact absurd (by simpa using item) (law.2 x tx)

theorem noLeave_of_leaveHeld {s : State} (law : s.LeaveHeld) (station : s.mu.station ≠ .leaving) : s.NoLeave := by
  refine ⟨fun held => station (law (.inl held)), fun x tx item => station (law (.inr ?_))⟩
  rw [Option.any_eq_true]
  exact ⟨x, tx, by simpa using item⟩

theorem noLeave_of_idle {s : State} (out : s.bus.outbound = []) (tx : s.bus.tx = none) : s.NoLeave := by
  unfold State.NoLeave
  rw [out, tx]
  exact ⟨List.not_mem_nil, nofun⟩

theorem State.enterIsolated_noLeave (s : State) (cause : IsolationCause) (tx : s.bus.tx = none) :
    (s.enterIsolated cause).NoLeave := noLeave_of_idle (s.enterIsolated_outbound cause) ((s.enterIsolated_tx cause).trans tx)

theorem State.selfDrop_noLeave (s : State) (tx : s.bus.tx = none) : s.selfDrop.NoLeave ∨ s.selfDrop.mu.station = s.mu.station := by
  unfold State.selfDrop
  split
  · exact .inl (s.enterIsolated_noLeave _ tx)
  · exact .inr rfl

theorem State.beatStation_station (s : State) (a : Addr) (seq : Seq) (b : BeatBody) (other : s.mu.station ≠ .listening) :
    (s.beatStation a seq b).mu.station = s.mu.station := by
  unfold State.beatStation
  split
  · rfl
  · rw [s.addMember_eq, if_neg fun h => other h.2, s.withMember_station]

theorem State.beatView_station (s : State) (a : Addr) (b : BeatBody) (adopt : Bool) :
    (s.beatView a b adopt).mu.station = s.mu.station := by
  unfold State.beatView
  split
  · rfl
  · rfl
  · rfl
  · split
    · unfold State.adoptView
      dsimp only
      rw [station_of_seat (State.adoptHalt_seat _ _ _), station_of_seat (State.setOrphans_seat _ _)]
      rfl
    · unfold State.mergeView
      dsimp only
      rw [State.raiseIf_mu, station_of_seat (State.mergeHalt_seat _ _ _), station_of_seat (State.setOrphans_seat _ _)]
      rfl

theorem State.beatViewed_station (s : State) (a : Addr) (seq : Seq) (b : BeatBody) (other : s.mu.station ≠ .listening) :
    (s.beatViewed a seq b).mu.station = s.mu.station := by
  unfold State.beatViewed
  rw [mu_of_calm (State.settleRemoval_calm _ a), State.beatView_station]
  exact s.beatStation_station a seq b other

/-- A frame that is applied leaves the station where it is, or takes it to ISOLATED with nothing held, or in LISTENING to
SYNCED. -/
theorem State.applyBody_station (s : State) (f : Frame) (other : s.mu.station ≠ .listening) (tx : s.bus.tx = none) :
    (s.applyBody f).NoLeave ∨ (s.applyBody f).mu.station = s.mu.station := by
  unfold State.applyBody
  split
  · refine .inr ?_
    rw [State.applyBeat_eq, State.refreshView_mu]
    exact s.beatViewed_station _ _ _ other
  · exact .inr (station_of_seat (s.applyClaim_seat _ _ _ _ _ _))
  · exact .inr rfl
  · exact .inr rfl
  · unfold State.applyDrop
    split
    · exact .inr rfl
    · split
      · exact s.selfDrop_noLeave tx
      · split
        · exact .inr (station_of_seat (s.dropMember_seat _))
        · exact .inr rfl
  · unfold State.applyPurge
    split
    · exact .inr rfl
    · split
      · exact s.selfDrop_noLeave tx
      · split
        · exact .inr (station_of_seat (s.dropOrphan_seat _))
        · exact .inr (station_of_seat (s.removeMember_seat _))
  · unfold State.applyLeave
    split
    · exact .inr rfl
    · exact .inr (station_of_seat (s.removeMember_seat _))
  · exact .inr (station_of_seat (s.applyHalt_seat _))
  · exact .inr (station_of_seat (seat_of_calm (s.applyHaltAck_calm _ _)))
  · exact .inr (station_of_seat s.applyRelease_seat)

theorem State.heed_leaving (s : State) (f : Frame) (tx : s.bus.tx = none) (leaving : s.mu.station = .leaving) :
    (s.heed f).NoLeave ∨ (s.heed f).mu.station = .leaving := by
  unfold State.heed
  have other : (s.hear f).mu.station ≠ .listening := fun e => by
    have here : (s.hear f).mu.station = .leaving := leaving
    rw [here] at e
    cases e
  rcases (s.hear f).applyBody_station f other tx with none | same
  · exact .inl (noLeave_plantLaw.recompute none)
  · refine .inr ?_
    rw [State.recompute_mu, same]
    exact leaving

/-- In LEAVING an event that writes the copy leaves the station there, or holds no LEAVE. -/
theorem Turn.leaving {s t : State} (one : Turn s t) (leaving : s.mu.station = .leaving) :
    t.NoLeave ∨ t.mu.station = .leaving := by
  have plant := noLeave_plantLaw
  cases one with
  | listen k n station => rw [leaving] at station; simp at station
  | clash tx =>
    rw [s.enterClash_eq]
    exact .inl (plant.evaluateIf _ (plant.recompute (noLeave_of_idle rfl (s.clashed_tx.trans tx))))
  | isolate tx => exact .inl (plant.recompute (s.enterIsolated_noLeave _ tx))
  | left x tx item =>
    rw [State.enterConfig_eq]
    refine .inl (plant.evaluateIf _ (plant.recompute (noLeave_of_idle ?_ ?_)))
    · rw [State.configured_bus]
    · rw [State.configured_bus]
      rfl
  | sent x tx item => exact (s.countSent x).heed_leaving x.frame rfl leaving
  | heard f tx other station known => exact s.heed_leaving f tx leaving

theorem Event.leaveHeld {s t : State} (one : Event s t) (law : s.LeaveHeld) : t.LeaveHeld := by
  by_cases leaving : s.mu.station = .leaving
  · rcases one.seat_or_shift with same | shift
    · exact fun _ => (station_of_seat same).trans leaving
    · cases shift with
      | leave station => exact fun _ => s.startLeaving_station
      | loseSync station => rw [leaving] at station; cases station
      | markStale station => rw [leaving] at station; cases station
      | enterSynced station => rw [leaving] at station; cases station
      | turn t turn => exact (turn.leaving leaving).elim leaveHeld_of_noLeave fun stays _ => stays
  · exact leaveHeld_of_noLeave (one.noLeave leaving (noLeave_of_leaveHeld law leaving))

/-! ### The pool -/

/-- R40: the pool holds at most 24 runs. -/
def State.PoolBound (s : State) : Prop := s.rm.pool.length ≤ 24

theorem RunMove.poolBound {s t : State} (one : RunMove s t) (law : s.PoolBound) : t.PoolBound := by
  unfold State.PoolBound at law ⊢
  cases one with
  | claim c k =>
    rw [State.queueClaim_rm]
    exact law
  | pool p same => exact (length_of_ident same).trans_le law
  | valve c ch bare announced => exact law
  | remove r b live =>
    have shorter := s.removeRun_length b live
    omega

theorem poolBound_of_rm {s t : State} (same : t.rm.pool = s.rm.pool) (law : s.PoolBound) : t.PoolBound := by
  unfold State.PoolBound
  rw [same]
  exact law

theorem State.leaveTest_rm (s : State) : s.leaveTest.rm = s.rm := by
  unfold State.leaveTest
  split
  · exact s.enqueue_rm .leave
  · rfl

theorem poolBound_plantLaw : PlantLaw State.PoolBound where
  site _ _ same := poolBound_of_rm (congrArg RunUnit.pool (rm_of_plant same))
  run _ _ chain := chain.keep (P := State.PoolBound) fun _ _ one => one.poolBound
  alloc _ _ law := law
  enqueue s f _ := poolBound_of_rm (congrArg RunUnit.pool (s.enqueue_rm f))
  emptied _ _ _ law := law
  forgotten _ law := law

theorem State.addFault_poolBound (s : State) (c : Chan) (f : Faults → Faults) (law : s.PoolBound) :
    (s.addFault c f).PoolBound := by
  rw [State.addFault_parts]
  exact law

theorem State.admitted_poolBound (s : State) (c : Chan) (args : RunArgs) (room : s.fullness c = none)
    (law : s.PoolBound) : (s.admitted c args).PoolBound := by
  obtain ⟨-, pool, -⟩ := State.room_of_fullness room
  unfold State.admitted
  split
  · exact poolBound_plantLaw.run _ _ (RunSide.releaseWaiting _ _) law
  · refine poolBound_plantLaw.run _ _ (RunSide.headSelect _ _) ?_
    show (s.rm.pool ++ [_]).length ≤ 24
    rw [List.length_append, List.length_singleton]
    exact pool

theorem State.count_rm (s : State) : s.count.rm = s.rm := by
  simp only [State.count, State.setClock_rm, State.setBus_rm, State.setHu_rm, State.setMu_rm, State.setChans_rm]

theorem Event.poolBound {s t : State} (one : Event s t) (law : s.PoolBound) : t.PoolBound := by
  have plant := poolBound_plantLaw
  cases one with
  | pending | port | pins | clock | events | site | halt | window | member | chan | configure | releaseStuck
  | readLog | line | fail => exact law
  | credit h f same =>
    unfold State.PoolBound
    rw [State.modRun_length]
    exact law
  | count => exact poolBound_of_rm (by rw [s.count_rm]) law
  | listen k n station => exact plant.startListening n (plant.setMu _ law)
  | leave station => exact plant.startLeaving law
  | admission c args present room => exact s.admitted_poolBound c args room law
  | endRun h e => exact plant.run _ _ (RunSide.endRun s h e) law
  | clearFault c present => exact plant.clearFault (fun _ _ _ kept => kept) c law
  | enqueue f other => exact plant.enqueue s f other law
  | announce c => exact plant.run _ _ (RunSide.announce s c) law
  | ackTest => exact plant.ackTest law
  | leaveTest => exact poolBound_of_rm (congrArg RunUnit.pool s.leaveTest_rm) law
  | completeClose c closing => exact plant.run _ _ (RunSide.completeClose s c) law
  | declareStuck c closing present => exact plant.declareStuck (fun _ _ _ kept => kept) State.addFault_poolBound c law
  | runDry c opened => exact plant.runDry (fun _ _ _ kept => kept) State.addFault_poolBound c law
  | leak c closed => exact s.addFault_poolBound c _ law
  | evaluate => exact plant.run _ _ (RunSide.evaluate s) law
  | loseSync station => exact plant.loseSync law
  | markStale station => exact plant.setAdoption true (plant.markStale law)
  | enterSynced station => exact plant.enterSynced law
  | enterClash tx => exact plant.enterClash law
  | startFrame m f tx front =>
    unfold State.startFrame
    rw [State.announceBeat_parts]
    exact law
  | isolate tx => exact plant.recompute (plant.enterIsolated .readback law)
  | left x tx item =>
    have counted : (s.countSent x).PoolBound := law
    exact plant.enterConfig counted
  | sent x tx item =>
    have counted : (s.countSent x).PoolBound := law
    exact plant.heed x.frame counted
  | heard f tx other station known => exact plant.heed f law

end Sys2Proof.Machine
end

section
/-!
SUPPORT. The next handle (R41): the walk passes over the handles of live runs, and a pool of 24 leaves one of 25 free.
-/

namespace Sys2Proof.Machine

/-- R41: the handle `k` places after the one that follows `h`. -/
def handleAt (h k : Nat) : Nat := (h % 255 + k) % 255 + 1

theorem handleAt_range (h k : Nat) : 1 ≤ handleAt h k ∧ handleAt h k ≤ 255 := by
  unfold handleAt
  omega

theorem handleAfter_eq {h : Nat} (bound : h ≤ 255) : handleAfter h = handleAt h 0 := by
  unfold handleAfter handleAt
  split <;> omega

theorem handleAt_handleAfter {h : Nat} (bound : h ≤ 255) (k : Nat) : handleAt (handleAfter h) k = handleAt h (k + 1) := by
  unfold handleAfter handleAt
  split <;> omega

theorem handleAt_injective {h j k : Nat} (hj : j < 255) (hk : k < 255) (same : handleAt h j = handleAt h k) : j = k := by
  unfold handleAt at same
  omega

/-- The walk stops at the first free handle, or after its last step. -/
theorem freeHandle_eq (pool : List Run) (fuel h : Nat) (bound : h ≤ 255) :
    ∃ k, k ≤ fuel ∧ freeHandle pool fuel h = handleAt h k ∧ (∀ j, j < k → (findRun pool (handleAt h j)).isSome = true) ∧
      (k < fuel → findRun pool (handleAt h k) = none) := by
  induction fuel generalizing h with
  | zero => exact ⟨0, le_refl 0, handleAfter_eq bound, nofun, nofun⟩
  | succ fuel ih =>
    unfold freeHandle
    split
    · next taken =>
      have next : handleAfter h ≤ 255 := by
        rw [handleAfter_eq bound]
        exact (handleAt_range h 0).2
      obtain ⟨k, within, reached, passed, free⟩ := ih (handleAfter h) next
      refine ⟨k + 1, by omega, by rw [reached, handleAt_handleAfter bound], fun j before => ?_, fun early => ?_⟩
      · cases j with
        | zero => rwa [handleAfter_eq bound] at taken
        | succ j =>
          rw [← handleAt_handleAfter bound]
          exact passed j (by omega)
      · rw [← handleAt_handleAfter bound]
        exact free (by omega)
    · next free =>
      rw [handleAfter_eq bound] at free
      exact ⟨0, Nat.zero_le _, handleAfter_eq bound, nofun, fun _ => by simpa using free⟩

theorem mem_handles_of_findRun {pool : List Run} {h : Nat} (taken : (findRun pool h).isSome = true) :
    h ∈ pool.map Run.handle := by
  obtain ⟨r, found⟩ := Option.isSome_iff_exists.1 taken
  have handle := List.find?_some found
  exact List.mem_map.2 ⟨r, List.mem_of_find?_eq_some found, by simpa using handle⟩

/-- R40, R41: a pool of at most 24 runs does not hold 25 handles. -/
theorem exists_free_handle {pool : List Run} (bound : pool.length ≤ 24) (h : Nat)
    (taken : ∀ j, j < 25 → (findRun pool (handleAt h j)).isSome = true) : False := by
  have distinct : ((List.range 25).map (handleAt h)).Nodup := by
    refine List.Nodup.map_on (fun j hj k hk same => ?_) List.nodup_range
    rw [List.mem_range] at hj hk
    exact handleAt_injective (by omega) (by omega) same
  have within : (List.range 25).map (handleAt h) ⊆ pool.map Run.handle := by
    intro x member
    obtain ⟨j, hj, rfl⟩ := List.mem_map.1 member
    exact mem_handles_of_findRun (taken j (List.mem_range.1 hj))
  have fewer := (List.Nodup.subperm distinct within).length_le
  simp only [List.length_map, List.length_range] at fewer
  omega

theorem nextHandle_eq (rm : RunUnit) (pool : rm.pool.length ≤ 24) (counter : rm.handleCounter ≤ 255) :
    ∃ k, k ≤ 24 ∧ rm.nextHandle = handleAt rm.handleCounter k ∧ findRun rm.pool (handleAt rm.handleCounter k) = none ∧
      ∀ j, j < k → (findRun rm.pool (handleAt rm.handleCounter j)).isSome = true := by
  obtain ⟨k, within, reached, passed, free⟩ := freeHandle_eq rm.pool 24 rm.handleCounter counter
  refine ⟨k, within, reached, ?_, passed⟩
  by_cases early : k < 24
  · exact free early
  · cases last : findRun rm.pool (handleAt rm.handleCounter k) with
    | none => rfl
    | some r =>
      refine (exists_free_handle pool rm.handleCounter fun j before => ?_).elim
      by_cases passedOver : j < k
      · exact passed j passedOver
      · obtain rfl : j = k := by omega
        rw [last]
        rfl

/-- R41: a counter past its range stands as at its end. -/
theorem freeHandle_min (pool : List Run) (fuel h : Nat) : freeHandle pool fuel h = freeHandle pool fuel (min 255 h) := by
  have same : handleAfter h = handleAfter (min 255 h) := by
    unfold handleAfter
    split <;> split <;> omega
  cases fuel with
  | zero => exact same
  | succ fuel =>
    unfold freeHandle
    rw [same]

theorem nextHandle_fresh (rm : RunUnit) (pool : rm.pool.length ≤ 24) :
    (1 ≤ rm.nextHandle ∧ rm.nextHandle ≤ 255) ∧ ∀ r ∈ rm.pool, r.handle ≠ rm.nextHandle := by
  have same : rm.nextHandle = RunUnit.nextHandle { rm with handleCounter := min 255 rm.handleCounter } :=
    freeHandle_min rm.pool 24 rm.handleCounter
  obtain ⟨k, -, reached, free, -⟩ :=
    nextHandle_eq { rm with handleCounter := min 255 rm.handleCounter } pool (Nat.min_le_left 255 rm.handleCounter)
  rw [same, reached]
  refine ⟨handleAt_range _ k, fun r live taken => ?_⟩
  have not := List.find?_eq_none.1 free r live
  simp [taken] at not

end Sys2Proof.Machine
end

section
/-!
SUPPORT. The next handle as stated.
-/

namespace Sys2Proof

open Sys2Proof.Machine

/-- Settles O14: the walk stops at a free handle, since the pool cannot hold all 25. -/
theorem nextHandleIsFree : Obligations.NextHandleIsFree := by
  intro rm pool counter
  obtain ⟨k, within, reached, free, passed⟩ := nextHandle_eq rm pool counter
  obtain ⟨low, high⟩ := handleAt_range rm.handleCounter k
  rw [← reached] at low high free
  exact ⟨low, high, free, k, within, reached, passed⟩

end Sys2Proof
end

section
/-!
SUPPORT. Where a valve may be driven (R70): SYNCED, halt state NONE, and no fault at the channel. A frame that is applied
leaves runs and valves as they are and takes no leave to drive away, or closes every valve.
-/

namespace Sys2Proof.Machine

/-! ### What leaves the gear -/

theorem gear_of_plant {s t : State} (h : s.plant = t.plant) : s.gear = t.gear := by
  unfold State.gear
  rw [rm_of_plant h, chans_of_plant h]

theorem gear_of_calm {s t : State} (h : s.calm = t.calm) : s.gear = t.gear := by
  have e := congrArg State.gear h
  exact e

theorem State.setMu_gear (s : State) (v : MemberUnit) : (s.setMu v).gear = s.gear := rfl
theorem State.setCt_gear (s : State) (v : ClaimUnit) : (s.setCt v).gear = s.gear := rfl
theorem State.setHu_gear (s : State) (v : HaltUnit) : (s.setHu v).gear = s.gear := rfl
theorem State.setBus_gear (s : State) (v : BusUnit) : (s.setBus v).gear = s.gear := rfl
theorem State.setAdoption_gear (s : State) (b : Bool) : (s.setAdoption b).gear = s.gear := rfl
theorem State.setStation_gear (s : State) (st : StationState) : (s.setStation st).gear = s.gear := rfl

theorem State.announceGone_gear (s : State) : s.announceGone.gear = s.gear := by
  unfold State.gear State.announceGone
  rw [State.setChans_chans, State.setChans_rm, mapVec_mapVec]
  rfl

theorem State.emptyCopy_gear (s : State) : s.emptyCopy.gear = s.gear := gear_of_plant s.emptyCopy_plant

theorem State.dropSilent_gear (s : State) : s.dropSilent.gear = s.gear := by
  unfold State.dropSilent
  refine fold_leaves State.gear _ _ s fun t a => ?_
  split
  · unfold State.queueDrop
    split
    · rfl
    · exact t.enqueue_gear _
  · rfl

theorem State.enterSynced_gear (s : State) : s.enterSynced.gear = s.gear := by
  have queued : ((((s.setStation .synced).raise .syncRegained).clearStale.setAdoption false).announceAll.dropSilent).gear =
      s.gear := by
    rw [State.dropSilent_gear, State.announceAll_gear]
    rfl
  unfold State.enterSynced
  dsimp only
  split
  · exact (State.enqueue_gear _ _).trans queued
  · exact queued

theorem State.steppingOut_gear (s : State) (st : StationState) (cause : IsolationCause) (e : SiteEvent) :
    (s.steppingOut st cause e).gear = s.gear := by
  refine gear_of_plant ?_
  unfold State.steppingOut
  rw [State.setAdoption_plant, State.clearStale_plant, State.settleOwn_plant, State.removeMember_plant]
  rfl

theorem State.emptied_gear (s : State) (n : Nat) : (s.emptied n).gear = s.gear := by
  unfold State.emptied
  dsimp only
  rw [State.setMu_gear, State.setHu_gear, State.setBus_gear, State.setAdoption_gear, State.announceGone_gear,
    State.emptyCopy_gear]

theorem State.configured_gear (s : State) : s.configured.gear = s.gear := by
  unfold State.configured
  dsimp only
  rw [State.setMu_gear, State.setHu_gear, State.setBus_gear, State.setAdoption_gear, State.announceGone_gear,
    State.emptyCopy_gear, State.setStation_gear]

theorem State.markStale_gear (s : State) : s.markStale.gear = s.gear := gear_of_plant s.markStale_plant

/-! ### The halt state -/

theorem State.testRound_halt (s : State) : s.testRound.hu.halt = s.hu.halt := by
  unfold State.testRound
  split
  · split <;> rfl
  · rfl

theorem State.roundRemoval_halt (s : State) (a : Addr) : (s.roundRemoval a).hu.halt = s.hu.halt := by
  unfold State.roundRemoval
  split
  · exact State.testRound_halt _
  · rfl

theorem State.applyClaim_hu (s : State) (a : Addr) (c l d p k : Byte) : (s.applyClaim a c l d p k).hu = s.hu := by
  unfold State.applyClaim
  split
  · split
    · split
      · dsimp only
        split <;> rfl
      · rfl
    · split <;> rfl
  · rfl

theorem State.applyHaltAck_halt (s : State) (a : Addr) (m : Byte) : (s.applyHaltAck a m).hu.halt = s.hu.halt := by
  unfold State.applyHaltAck
  split
  · exact State.testRound_halt _
  · rfl

theorem State.settleRemoval_none (s : State) (a : Addr) (none : s.hu.halt = .none) : (s.settleRemoval a).hu.halt = .none := by
  unfold State.settleRemoval State.testSettle
  split
  · rfl
  · exact none

theorem State.refreshView_hu (s : State) : s.refreshView.hu = s.hu := by
  have parts : ∀ (t : State) p e, (t.raiseIf p e).hu = t.hu := fun t p e => by unfold State.raiseIf; split <;> rfl
  unfold State.refreshView
  dsimp only
  rw [parts]
  rfl

theorem State.removeMember_none (s : State) (a : Addr) (none : s.hu.halt = .none) : (s.removeMember a).hu.halt = .none := by
  unfold State.removeMember
  split
  · unfold State.tellHalt
    refine State.settleRemoval_none _ a ?_
    rw [State.roundRemoval_halt]
    show (State.refreshView _).hu.halt = _
    rw [State.refreshView_hu]
    exact none
  · exact none

/-! ### Leave to drive -/

/-- SYNCED with halt state NONE. -/
def State.Driving (s : State) : Prop := s.mu.station = .synced ∧ s.hu.halt = .none

/-- From `s` to `t` runs and valves are as they were and no leave to drive is lost, or every valve has been closed. -/
def State.Eased (s t : State) : Prop :=
  (t.gear = s.gear ∧ (s.Driving → t.Driving)) ∨ ∀ may, s.Fit may → t.Fit fun _ => False

theorem driving_of_seat {s t : State} (seat : t.seat = s.seat) (halt : s.hu.halt = .none → t.hu.halt = .none)
    (drives : s.Driving) : t.Driving := ⟨(station_of_seat seat).trans drives.1, halt drives.2⟩

namespace State.Eased

variable {s t u v : State}

theorem refl (s : State) : s.Eased s := .inl ⟨rfl, id⟩

theorem next (sofar : s.Eased t) (gear : u.gear = t.gear) (keep : s.Driving → t.Driving → u.Driving) : s.Eased u := by
  rcases sofar with ⟨same, drives⟩ | shut
  · exact .inl ⟨gear.trans same, fun d => keep d (drives d)⟩
  · exact .inr fun may fits => .of_gear gear (shut may fits)

/-- Every valve is closed, whatever stands before and after the closes. -/
theorem shut (sofar : s.Eased t) {p : Purpose} (before : v.gear = t.gear) (other : p ≠ .ending)
    (after : u.gear = (v.closeAll p).gear) : s.Eased u := by
  refine .inr fun may fits => .of_gear after ?_
  rcases sofar with ⟨same, -⟩ | shut
  · exact (State.Fits.of_gear (before.trans same) fits).closeAll other
  · exact (State.Fits.of_gear before (shut may fits)).closeAll other

theorem enterHalted (sofar : s.Eased t) (r : BitVec 4) (f : HaltUnit → HaltUnit) : s.Eased (t.enterHalted r f) := by
  rw [State.enterHalted_eq]
  exact sofar.shut (p := .halt) (gear_of_calm (t.halting_calm r f)) (by decide) rfl

theorem enterIsolated (sofar : s.Eased t) (cause : IsolationCause) : s.Eased (t.enterIsolated cause) := by
  refine sofar.shut (t.steppingOut_gear .isolated cause .isolated) (p := .isolate) (by decide) ?_
  rw [State.enterIsolated_eq, State.setBus_gear, State.setHu_gear, State.isolating_eq, State.announceGone_gear]

theorem setOrphans (sofar : s.Eased t) (os : List Orphan) : s.Eased (t.setOrphans os) :=
  sofar.next (gear_of_plant (t.setOrphans_plant os)) fun _ =>
    driving_of_seat (t.setOrphans_seat os) fun none => by rwa [State.setOrphans_hu]

theorem dropOrphan (sofar : s.Eased t) (a : Addr) : s.Eased (t.dropOrphan a) :=
  sofar.next (gear_of_plant (t.dropOrphan_plant a)) fun _ =>
    driving_of_seat (t.dropOrphan_seat a) fun none => by rwa [State.dropOrphan_hu]

theorem removeMember (sofar : s.Eased t) (a : Addr) : s.Eased (t.removeMember a) :=
  sofar.next (gear_of_plant (t.removeMember_plant a)) fun _ =>
    driving_of_seat (t.removeMember_seat a) (t.removeMember_none a)

theorem settleRemoval (sofar : s.Eased t) (a : Addr) : s.Eased (t.settleRemoval a) :=
  sofar.next (gear_of_plant (t.settleRemoval_plant a)) fun _ =>
    driving_of_seat (seat_of_calm (t.settleRemoval_calm a)) (t.settleRemoval_none a)

theorem refreshView (sofar : s.Eased t) : s.Eased t.refreshView :=
  sofar.next (gear_of_plant t.refreshView_plant) fun _ =>
    driving_of_seat t.refreshView_seat fun none => by rwa [State.refreshView_hu]

theorem enterSynced (sofar : s.Eased t) (listening : t.mu.station ≠ .synced) : s.Eased t.enterSynced :=
  sofar.next t.enterSynced_gear fun _ drives => absurd drives.1 listening

theorem selfDrop (sofar : s.Eased t) : s.Eased t.selfDrop := by
  unfold State.selfDrop
  split
  · exact sofar.enterIsolated .selfDrop
  · exact sofar

theorem withMember (sofar : s.Eased t) (a : Addr) (m : Member) : s.Eased (t.withMember a m) := by
  unfold State.withMember
  have added : s.Eased ((t.setMember a (some m)).raise .rosterChanged) := sofar.next rfl fun _ => id
  exact added.dropOrphan a

theorem beatStation (sofar : s.Eased t) (a : Addr) (seq : Seq) (b : BeatBody) : s.Eased (t.beatStation a seq b) := by
  unfold State.beatStation
  split
  · exact sofar.next rfl fun _ => id
  · rw [t.addMember_eq]
    split
    · next first =>
      refine (sofar.withMember a _).enterSynced ?_
      rw [t.withMember_station, first.2]
      nofun
    · exact sofar.withMember a _

/-- R16: with adoption pending the station does not drive. -/
theorem adoptView (sofar : s.Eased t) (b : BeatBody) (idle : ¬ s.Driving) : s.Eased (t.adoptView b) := by
  have quiet : ∀ {u v : State}, s.Eased u → v.gear = u.gear → s.Eased v := fun h gear =>
    h.next gear fun drives => absurd drives idle
  have flagged := quiet sofar (v := t.setCt { t.ct with flags := b.flags, pointers := b.pointers, adoptionPending := false })
    rfl
  have listed := flagged.setOrphans (State.appendOrphans (t.setCt { t.ct with
    flags := b.flags, pointers := b.pointers, adoptionPending := false }) [] b.orphans)
  unfold State.adoptView
  dsimp only
  unfold State.adoptHalt
  split
  · exact quiet (quiet listed rfl) (gear_of_plant (State.raiseIf_plant _ _ _))
  · split
    · exact quiet listed rfl
    · exact listed.enterHalted _ _
  · exact quiet (quiet listed rfl) (gear_of_plant (State.raiseIf_plant _ _ _))

theorem mergeHalt (sofar : s.Eased t) (k : HaltState) (r : BitVec 4) : s.Eased (t.mergeHalt k r) := by
  unfold State.mergeHalt
  split
  · exact sofar.next rfl fun _ => id
  · split
    · exact sofar
    · exact sofar.enterHalted _ _
  · exact sofar

theorem raiseIf (sofar : s.Eased t) (p : Bool) (e : SiteEvent) : s.Eased (t.raiseIf p e) := by
  unfold State.raiseIf
  split
  · exact sofar.next rfl fun _ => id
  · exact sofar

theorem mergeView (sofar : s.Eased t) (a : Addr) (b : BeatBody) : s.Eased (t.mergeView a b) := by
  unfold State.mergeView
  dsimp only
  refine State.Eased.raiseIf (State.Eased.mergeHalt (State.Eased.setOrphans ?_ _) _ _) _ _
  exact sofar.next rfl fun _ => id

theorem beatView (sofar : s.Eased t) (a : Addr) (b : BeatBody) {adopt : Bool} (idle : adopt = true → ¬ s.Driving) :
    s.Eased (t.beatView a b adopt) := by
  unfold State.beatView
  split
  · exact sofar
  · exact sofar
  · exact sofar
  · split
    · next pending => exact sofar.adoptView b (idle pending)
    · exact sofar.mergeView a b

theorem applyBeat (a : Addr) (seq : Seq) (b : BeatBody) (idle : s.ct.adoptionPending = true → ¬ s.Driving) :
    s.Eased (s.applyBeat a seq b) := by
  have gauged : s.Eased ((s.beatStation a seq b).applyGauge a b.gauge) :=
    ((refl s).beatStation a seq b).next rfl fun _ => id
  have viewed : s.Eased (s.beatViewed a seq b) := (gauged.beatView a b idle).settleRemoval a
  rw [State.applyBeat_eq]
  exact State.Eased.refreshView (viewed.next rfl fun _ => id)

theorem applyHalt (sofar : s.Eased t) (r : BitVec 4) : s.Eased (t.applyHalt r) := by
  unfold State.applyHalt
  split
  · exact sofar.next rfl fun _ => id
  · split <;> exact sofar.enterHalted _ _

theorem applyRelease (sofar : s.Eased t) : s.Eased t.applyRelease := by
  by_cases halted : t.hu.halt = .halted
  · refine sofar.next ?_ fun _ drives => by rw [drives.2] at halted; cases halted
    rw [t.applyRelease_eq halted]
    split
    · exact (State.enqueue_gear _ _).trans (gear_of_calm t.turnToSettling_calm)
    · exact gear_of_calm t.turnToSettling_calm
  · rwa [t.applyRelease_of_not_halted halted]

theorem dropMember (sofar : s.Eased t) (a : Addr) : s.Eased (t.dropMember a) := by
  unfold State.dropMember
  dsimp only
  refine State.Eased.removeMember ?_ a
  split
  · exact sofar.setOrphans _
  · exact sofar

theorem applyBody (f : Frame) (idle : s.ct.adoptionPending = true → ¬ s.Driving) : s.Eased (s.applyBody f) := by
  have start := refl s
  unfold State.applyBody
  split
  · exact applyBeat _ _ _ idle
  · refine start.next (gear_of_plant (s.applyClaim_plant _ _ _ _ _ _)) fun _ => driving_of_seat (s.applyClaim_seat _ _ _ _ _ _) ?_
    rw [State.applyClaim_hu]
    exact id
  · exact start.next rfl fun _ => id
  · exact start.next rfl fun _ => id
  · unfold State.applyDrop
    split
    · exact start
    · split
      · exact start.selfDrop
      · split
        · exact start.dropMember _
        · exact start
  · unfold State.applyPurge
    split
    · exact start
    · split
      · exact start.selfDrop
      · split
        · exact start.dropOrphan _
        · exact start.removeMember _
  · unfold State.applyLeave
    split
    · exact start
    · exact start.removeMember _
  · exact start.applyHalt _
  · refine start.next (gear_of_plant (s.applyHaltAck_plant _ _)) fun _ =>
      driving_of_seat (seat_of_calm (s.applyHaltAck_calm _ _)) ?_
    rw [State.applyHaltAck_halt]
    exact id
  · exact start.applyRelease

end State.Eased

end Sys2Proof.Machine
end

section
/-!
SUPPORT. R70 through every event: runs and valves fit together, and a driven valve may be driven.
-/

namespace Sys2Proof.Machine

/-- Where a valve may be driven (R70). -/
def State.mayDrive (s : State) (c : Chan) : Prop := s.Driving ∧ (s.chan c).inFault = false

/-- Runs and valves fit together, and a driven valve may be driven. -/
def State.Works (s : State) : Prop := s.Fit s.mayDrive

/-- Runs and valves fit together, and no valve is driven. -/
abbrev State.Still (s : State) : Prop := s.Fit fun _ => False

section

variable {s t : State}

theorem still_of_works (works : s.Works) (idle : ¬ s.Driving) : s.Still := works.mono fun _ may => idle may.1

theorem works_of_still (still : s.Still) : s.Works := still.mono fun _ => False.elim

theorem works_of_gear (works : s.Works) (gear : t.gear = s.gear) (drives : s.Driving → t.Driving) : t.Works :=
  (State.Fits.of_gear gear works).mono fun c may => ⟨drives may.1, (inFault_of_standing (standing_of_gear gear c)).trans may.2⟩

theorem works_of_eased (works : s.Works) (eased : s.Eased t) : t.Works := by
  rcases eased with ⟨gear, drives⟩ | shut
  · exact works_of_gear works gear drives
  · exact works_of_still (shut _ works)

theorem mayDrive_of_bare (bare : t.bare = s.bare) (c : Chan) (may : s.mayDrive c) : t.mayDrive c := by
  obtain ⟨⟨station, halt⟩, healthy⟩ := may
  refine ⟨⟨?_, ?_⟩, (inFault_of_bare (chan_of_bare bare c)).trans healthy⟩
  · rwa [mu_of_bare bare]
  · rwa [hu_of_bare bare]

theorem works_of_bare (fits : t.Fit s.mayDrive) (bare : t.bare = s.bare) : t.Works := fits.mono (mayDrive_of_bare bare)

theorem State.Works.evaluateIf (works : s.Works) (p : Bool) : (s.evaluateIf p).Works :=
  works_of_bare (State.Fits.evaluateIf works p) (s.evaluateIf_bare p)

theorem State.recompute_inFault (s : State) (c : Chan) : (s.recompute.chan c).inFault = (s.chan c).inFault := by
  have written : ∀ t r, ((s.setTable t).setAlloc r).chan c = s.chan c := fun _ _ => rfl
  have same := chan_of_bare s.recompute_bare c
  rw [written] at same
  exact inFault_of_bare same

theorem State.Works.recompute (works : s.Works) : s.recompute.Works := by
  have fits : s.recompute.Fit s.mayDrive := State.Fits.recompute works fun _ station halt healthy => ⟨⟨station, halt⟩, healthy⟩
  refine fits.mono fun c may => ?_
  obtain ⟨⟨station, halt⟩, healthy⟩ := may
  refine ⟨⟨?_, ?_⟩, ?_⟩
  · rwa [s.recompute_mu]
  · rwa [s.recompute_hu]
  · rw [s.recompute_inFault]
    exact healthy

/-! ### The pool's runs -/

/-- The run with a handle is changed in what the laws do not read. -/
theorem State.Fits.relabel {may : Chan → Prop} (fits : s.Fit may) (h : Nat) (f : Run → Run)
    (same : ∀ r, (f r).handle = r.handle ∧ (f r).channel = r.channel ∧ (f r).state = r.state ∧
      (f r).endResult = r.endResult) : (s.modRun h f).Fit may := by
  have of : ∀ q ∈ (s.modRun h f).rm.pool, ∃ r ∈ s.rm.pool, q.handle = r.handle ∧ q.channel = r.channel ∧ q.state = r.state ∧
      q.endResult = r.endResult := fun q hq => by
    obtain ⟨r, hr, rfl⟩ := mem_updateRun.1 hq
    refine ⟨r, hr, ?_⟩
    split
    · exact same r
    · exact ⟨rfl, rfl, rfl, rfl⟩
  constructor
  · have handles : (s.modRun h f).rm.pool.map Run.handle = s.rm.pool.map Run.handle :=
      handles_of_roll (s.modRun_roll h f fun r => (same r).1)
    rw [handles]
    exact fits.handles
  · intro q hq
    obtain ⟨r, hr, handle, -⟩ := of q hq
    rw [handle]
    exact fits.range r hr
  · intro q hq _
    obtain ⟨r, hr, -, -, state, result⟩ := of q hq
    rw [state, result]
    exact fits.result r hr id
  · intro p hp q hq
    obtain ⟨r, hr, handle, channel, state, -⟩ := of p hp
    obtain ⟨r', hr', handle', channel', state', -⟩ := of q hq
    rw [handle, channel, state, handle', channel', state']
    exact fits.heads r hr r' hr'
  · intro q hq
    obtain ⟨r, hr, -, channel, state, -⟩ := of q hq
    rw [channel, state]
    exact fits.flowing r hr
  · intro q hq _
    obtain ⟨r, hr, -, channel, state, -⟩ := of q hq
    rw [channel, state]
    exact fits.closing r hr id
  · intro c drives
    obtain ⟨⟨r, hr, on, flows⟩, allowed⟩ := fits.driven c drives
    refine ⟨⟨if r.handle = h then f r else r, mem_updateRun.2 ⟨r, hr, rfl⟩, ?_⟩, allowed⟩
    obtain ⟨-, channel, state, -⟩ := same r
    split
    · exact ⟨channel.trans on, state.trans flows⟩
    · exact ⟨on, flows⟩
  · intro c gone
    obtain ⟨closed, noRun⟩ := fits.absent c gone
    refine ⟨closed, fun q hq => ?_⟩
    obtain ⟨r, hr, -, channel, -⟩ := of q hq
    rw [channel]
    exact noRun r hr

theorem mem_listOf_of_mem {pool : List Run} {r : Run} (live : r ∈ pool) : r ∈ listOf pool r.channel := by
  refine List.mem_flatMap.2 ⟨r.level, ?_, List.mem_filter.2 ⟨live, by simp⟩⟩
  generalize r.level = l
  revert l
  decide

/-! ### The channels -/

/-- A channel stands otherwise only in its faults. -/
theorem State.Fits.refault {may : Chan → Prop} (fits : s.Fit may) (pool : t.rm.pool = s.rm.pool)
    (same : ∀ c, (t.chan c).present = (s.chan c).present ∧ (t.chan c).valve = (s.chan c).valve) : t.Fit may where
  handles := by rw [pool]; exact fits.handles
  range := by rw [pool]; exact fits.range
  result := by rw [pool]; exact fits.result
  heads := by rw [pool]; exact fits.heads
  flowing r live flows := by
    rw [pool] at live
    rw [(same _).2]
    exact fits.flowing r live flows
  closing r live tight closes := by
    rw [pool] at live
    rw [(same _).2]
    exact fits.closing r live tight closes
  driven c drives := by
    rw [(same c).2] at drives
    rw [pool]
    exact fits.driven c drives
  absent c gone := by
    rw [(same c).1] at gone
    rw [(same c).2, pool]
    exact fits.absent c gone

theorem State.addFault_chan_same (s : State) (c : Chan) (f : Faults → Faults) :
    (s.addFault c f).chan c = { s.chan c with faults := f (s.chan c).faults } := by
  unfold State.addFault
  dsimp only
  rw [State.chan_setChan_same]

theorem State.addFault_chan_ne (s : State) (c : Chan) (f : Faults → Faults) {d : Chan} (other : d ≠ c) :
    (s.addFault c f).chan d = s.chan d := by
  unfold State.addFault
  dsimp only
  rw [State.chan_setChan_ne _ _ fun e => other e.symm]
  split <;> rfl

theorem State.addFault_fit {may : Chan → Prop} (fits : s.Fit may) (c : Chan) (f : Faults → Faults) :
    (s.addFault c f).Fit may := by
  refine fits.refault (by rw [State.addFault_parts]) fun d => ?_
  by_cases here : d = c
  · subst here
    rw [State.addFault_chan_same]
    exact ⟨rfl, rfl⟩
  · rw [State.addFault_chan_ne _ _ _ here]
    exact ⟨rfl, rfl⟩

/-- A valve that rests is moved to another rest that no head contradicts. -/
theorem State.Fits.rest {may : Chan → Prop} (fits : s.Fit may) (c : Chan) (ch : Channel) (present : ch.present = true)
    (stands : (s.chan c).valve.driven = false) (still : ch.valve.driven = false) (other : (s.chan c).valve ≠ .closing) :
    (s.setChan c ch).Fit may := by
  refine fits.moveValve c rfl (fun d there => ?_) ?_ stands ?_ (fun _ _ => id) fun _ r live on closes => ?_
  · rw [State.chan_setChan_ne _ _ fun e => there e.symm]
  · rw [State.chan_setChan_same, present]
    nofun
  · rw [State.chan_setChan_same]
    exact still
  · have closing := fits.closing r live id closes
    rw [on] at closing
    exact absurd closing other

/-- Leave to drive passes from one state to another at every channel that is not put aside. -/
theorem works_of_others {c : Chan} (fits : t.Fit fun d => d ≠ c ∧ s.mayDrive d)
    (keep : ∀ d, d ≠ c → s.mayDrive d → t.mayDrive d) : t.Works := fits.mono fun d may => keep d may.1 may.2

/-- Leave to drive reads the seat, the halt state and the channel. -/
theorem mayDrive_of_parts {d : Chan} (seat : t.seat = s.seat) (hu : t.hu = s.hu)
    (healthy : (t.chan d).inFault = (s.chan d).inFault) (may : s.mayDrive d) : t.mayDrive d :=
  ⟨driving_of_seat seat (fun none => by rwa [hu]) may.1, healthy.trans may.2⟩

end

section events

variable {s : State}

theorem State.Works.configure (works : s.Works) (c : Chan) (set : Option ChannelSettings)
    (may : s.mayConfigure c set = true) (station : s.mu.station = .config) :
    (s.setChan c ((s.chan c).configure set)).Works := by
  have still := still_of_works works fun drives => by rw [drives.1] at station; cases station
  unfold State.mayConfigure at may
  simp only [Bool.and_eq_true, bne_iff_ne] at may
  obtain ⟨⟨empty, notClosing⟩, -⟩ := may
  have rest : (s.chan c).valve.driven = false := by
    cases drives : (s.chan c).valve.driven with
    | false => rfl
    | true => exact (still.driven c drives).2.elim
  have rests : ((s.chan c).configure set).valve.driven = false := by
    unfold Channel.configure
    split
    · unfold Channel.makePresent
      dsimp only
      split <;> rfl
    · rfl
  refine works_of_still (still.moveValve c rfl (fun d there => ?_) ?_ rest ?_ (fun _ _ => id) fun _ r live on closes => ?_)
  · rw [State.chan_setChan_ne _ _ fun e => there e.symm]
  · rw [State.chan_setChan_same]
    intro gone
    cases set with
    | some v =>
      unfold Channel.configure Channel.makePresent at gone
      dsimp only at gone
      split at gone <;> cases gone
    | none =>
      refine ⟨rfl, fun r live on => ?_⟩
      have listed := mem_listOf_of_mem live
      rw [on] at listed
      simp only [Option.isSome_none, Bool.false_or, List.isEmpty_iff] at empty
      rw [empty] at listed
      cases listed
  · rw [State.chan_setChan_same]
    exact rests
  · have closing := still.closing r live id closes
    rw [on] at closing
    exact absurd closing notClosing

theorem State.newRun_waits (s : State) (c : Chan) (args : RunArgs) : (s.newRun c args).state.isHead = false := by
  show (if _ then RunState.queued else RunState.gated).isHead = false
  split <;> rfl

theorem State.Works.admitted (works : s.Works) (c : Chan) (args : RunArgs) (present : (s.chan c).present = true)
    (room : s.fullness c = none) : (s.admitted c args).Works := by
  obtain ⟨-, pool, -⟩ := State.room_of_fullness room
  obtain ⟨range, fresh⟩ := nextHandle_fresh s.rm (by omega)
  have fits : (s.admitted c args).Fit s.mayDrive := by
    unfold State.admitted
    split
    · exact State.Fits.releaseWaiting (State.Fits.of_gear (by rfl) works) _
    · have appended : (s.reserve.setPool (s.reserve.rm.pool ++ [s.newRun c args])).Fit s.mayDrive :=
        State.Fits.append works (n := s.newRun c args) rfl (fun _ => rfl) range fresh (s.newRun_waits c args) rfl present
      exact appended.headSelect _
  exact fits.mono fun d may => mayDrive_of_bare (s.admitted_bare c args) d may

theorem State.takeStuckClosed_fit {may : Chan → Prop} (fits : s.Fit may) (c : Chan) (present : (s.chan c).present = true) :
    (s.takeStuckClosed c).Fit may := by
  unfold State.takeStuckClosed
  split
  · next stuck =>
    exact .of_gear (State.announce_gear _ c) (fits.rest c _ present (Valve.not_driven_stuck stuck) rfl (by rw [stuck]; nofun))
  · exact fits

theorem State.Works.clearFault (works : s.Works) (c : Chan) (present : (s.chan c).present = true) :
    ((s.takeStuckClosed c).clearFaults c).Works := by
  have fits : ((s.takeStuckClosed c).clearFaults c).Fit s.mayDrive := by
    refine (State.takeStuckClosed_fit works c present).refault rfl fun d => ?_
    unfold State.clearFaults
    by_cases here : d = c
    · subst here
      rw [State.chan_setChan_same]
      exact ⟨rfl, rfl⟩
    · rw [State.chan_setChan_ne _ _ fun e => here e.symm]
      exact ⟨rfl, rfl⟩
  refine fits.mono fun d may => ⟨driving_of_seat (s.clearFault_seat c) (fun none => ?_) may.1, ?_⟩
  · have hu : (s.takeStuckClosed c).hu = s.hu := by
      unfold State.takeStuckClosed
      split
      · exact (hu_of_bare (State.announce_bare _ c)).trans rfl
      · rfl
    show (s.takeStuckClosed c).hu.halt = _
    rwa [hu]
  · unfold State.clearFaults
    by_cases here : d = c
    · subst here
      rw [State.chan_setChan_same]
      rfl
    · rw [State.chan_setChan_ne _ _ fun e => here e.symm]
      have taken : ((s.takeStuckClosed c).chan d).inFault = (s.chan d).inFault := by
        unfold State.takeStuckClosed
        split
        · rw [inFault_of_bare (chan_of_bare (State.announce_bare _ c) d), State.chan_setChan_ne _ _ fun e => here e.symm]
        · rfl
      exact taken.trans may.2

/-- R74: the channel of a valve that is declared STUCK, its head still to be dismissed. -/
def State.jammed (s : State) (c : Chan) : State :=
  (s.setChan c { s.chan c with
    valve := .stuck, closeTimer := none, stuckValues := some (stuckValuesOf (s.head c)) }).addFault c
      fun f => { f with stuck := true }

theorem State.jammed_head (s : State) (c : Chan) : (s.jammed c).head c = s.head c := by
  unfold State.jammed
  rw [State.addFault_parts]
  rfl

theorem State.declareStuck_eq (s : State) (c : Chan) : s.declareStuck c = (s.jammed c).dismissHead c true := by
  unfold State.dismissHead
  rw [s.jammed_head]
  rfl

theorem State.Works.declareStuck (works : s.Works) (c : Chan) (closing : (s.chan c).valve = .closing)
    (present : (s.chan c).present = true) : (s.declareStuck c).Works := by
  have stands := Valve.not_driven_closing closing
  have aside : s.Fit fun d => d ≠ c ∧ s.mayDrive d := by
    refine State.Fits.weaken works (fun d drives may => ⟨fun here => ?_, may⟩) (fun _ => id) fun _ => id
    rw [here, stands] at drives
    cases drives
  have moved : (s.jammed c).Fits (fun d => d ≠ c ∧ s.mayDrive d) (fun _ => False) (· = c) := by
    have pool : (s.jammed c).rm.pool = s.rm.pool := by
      unfold State.jammed
      rw [State.addFault_parts]
      rfl
    have here : ((s.jammed c).chan c).present = true ∧ ((s.jammed c).chan c).valve = .stuck := by
      unfold State.jammed
      rw [State.addFault_chan_same, State.chan_setChan_same]
      exact ⟨present, rfl⟩
    refine aside.moveValve c pool (fun d there => ?_) ?_ stands ?_ (fun _ _ => False.elim) fun tight => absurd rfl tight
    · unfold State.jammed
      rw [State.addFault_chan_ne _ c _ there, State.chan_setChan_ne _ _ fun e => there e.symm]
    · rw [here.1]
      nofun
    · rw [here.2]
      rfl
  have stuck : ((s.jammed c).chan c).valve.driven = false := by
    unfold State.jammed
    rw [State.addFault_chan_same, State.chan_setChan_same]
    rfl
  refine works_of_others (c := c) (s := s) ?_ fun d there => ?_
  · rw [s.declareStuck_eq]
    exact moved.dismissHead stuck true
  · have bare : (s.declareStuck c).bare = (s.jammed c).bare := by
      rw [s.declareStuck_eq]
      unfold State.dismissHead
      split
      · split
        · exact State.depart_bare _ _ _
        · exact State.requeue_bare _ _ _
        · rfl
      · rfl
    refine mayDrive_of_parts (s.declareStuck_seat c) ?_ ?_
    · rw [hu_of_bare bare]
      unfold State.jammed
      rw [State.addFault_parts]
      rfl
    · rw [inFault_of_bare (chan_of_bare bare d)]
      unfold State.jammed
      rw [State.addFault_chan_ne _ c _ there, State.chan_setChan_ne _ _ fun e => there e.symm]

/-- R79: the channel of a head that has run dry. -/
def State.parched (s : State) (c : Chan) : State :=
  (s.setChan c { s.chan c with noFlowTimer := none }).addFault c fun f => { f with dry := true }

theorem State.runDry_eq (s : State) (c : Chan) : s.runDry c =
    match (s.parched c).head c with
    | some r => (s.parched c).endRun r.handle .noFlow
    | none => s.parched c := rfl

theorem State.parched_chan_ne (s : State) {c d : Chan} (there : d ≠ c) : (s.parched c).chan d = s.chan d := by
  unfold State.parched
  rw [State.addFault_chan_ne _ c _ there, State.chan_setChan_ne _ _ fun e => there e.symm]

theorem State.parched_chan_same (s : State) (c : Chan) : ((s.parched c).chan c).valve = (s.chan c).valve := by
  unfold State.parched
  rw [State.addFault_chan_same, State.chan_setChan_same]

theorem State.Works.runDry (works : s.Works) (c : Chan) (opened : (s.chan c).valve = .opened) : (s.runDry c).Works := by
  have parched : (s.parched c).Fit s.mayDrive := by
    have stopped : (s.setChan c { s.chan c with noFlowTimer := none }).Fit s.mayDrive := .of_gear (s.setChan_gear c _ rfl) works
    exact State.addFault_fit stopped c _
  have drives : ((s.parched c).chan c).valve.driven = true := by
    rw [s.parched_chan_same, opened]
    rfl
  obtain ⟨⟨r, live, on, flows⟩, -⟩ := parched.driven c drives
  have head : (s.parched c).head c = some r := on ▸ parched.head_eq live (isHead_of_flowing flows)
  have ended : s.runDry c = (s.parched c).endRun r.handle .noFlow := by rw [s.runDry_eq, head]
  have bare := State.endRun_bare (s.parched c) r.handle .noFlow
  refine works_of_others (c := c) (s := s) ?_ fun d there => mayDrive_of_parts (s.runDry_seat c) ?_ ?_
  · rw [ended]
    exact on ▸ parched.endFlowing live flows .noFlow
  · rw [ended, hu_of_bare bare]
    unfold State.parched
    rw [State.addFault_parts]
    rfl
  · rw [ended, inFault_of_bare (chan_of_bare bare d), s.parched_chan_ne there]

theorem State.Works.leak (works : s.Works) (c : Chan) (closed : (s.chan c).valve = .closed) (f : Faults → Faults) :
    (s.addFault c f).Works := by
  have aside : s.Fit fun d => d ≠ c ∧ s.mayDrive d := by
    refine State.Fits.weaken works (fun d drives may => ⟨fun here => ?_, may⟩) (fun _ => id) fun _ => id
    rw [here, Valve.not_driven_closed closed] at drives
    cases drives
  refine works_of_others (State.addFault_fit aside c f) fun d there => mayDrive_of_parts (s.addFault_seat c f) ?_ ?_
  · rw [State.addFault_parts]
  · rw [State.addFault_chan_ne _ c f there]

theorem State.Works.releaseStuck (works : s.Works) (c : Chan) (stuck : (s.chan c).valve = .stuck)
    (present : (s.chan c).present = true) : (s.setChan c (s.chan c).releaseStuck).Works := by
  have fits : (s.setChan c (s.chan c).releaseStuck).Fit s.mayDrive :=
    State.Fits.rest works c _ present (Valve.not_driven_stuck stuck) rfl (by rw [stuck]; nofun)
  refine fits.mono fun d may => ⟨may.1, ?_⟩
  by_cases here : d = c
  · subst here
    rw [State.chan_setChan_same]
    exact may.2
  · rw [State.chan_setChan_ne _ _ fun e => here e.symm]
    exact may.2

theorem State.countChan_standing (s : State) (c : Chan) : (s.countChan c).standing = (s.chan c).standing := by
  unfold State.countChan
  dsimp only
  split <;> rfl

theorem State.count_gear (s : State) : s.count.gear = s.gear := by
  have chans : mapVec Channel.standing s.count.chans = mapVec Channel.standing s.chans := by
    simp only [State.count, State.setClock_chans, State.setBus_chans, State.setHu_chans, State.setMu_chans,
      State.setChans_chans]
    ext1 i hi
    rw [mapVec_get, mapVec_get, Vector.getElem_ofFn]
    exact s.countChan_standing ⟨i, hi⟩
  unfold State.gear
  rw [chans, s.count_rm]

/-- Every valve closes, and the station does not drive. -/
theorem State.Works.closed {t u : State} (works : s.Works) (gear : t.gear = s.gear) {p : Purpose} (other : p ≠ .ending)
    (after : u.gear = (t.closeAll p).gear) : u.Works :=
  works_of_eased works ((State.Eased.refl s).shut gear other after)

theorem State.Works.enterIsolated (works : s.Works) (cause : IsolationCause) : (s.enterIsolated cause).Works :=
  works_of_eased works ((State.Eased.refl s).enterIsolated cause)

theorem State.Works.heed (works : s.Works) (f : Frame) (adoption : s.AdoptionSound) : (s.heed f).Works := by
  have heard : (s.hear f).Works := works_of_gear works rfl id
  refine State.Works.recompute (works_of_eased heard (.applyBody f fun pending drives => ?_))
  rcases adoption pending with listening | resync
  · rw [show s.mu.station = .synced from drives.1] at listening
    cases listening
  · rw [show s.mu.station = .synced from drives.1] at resync
    cases resync

theorem State.startFrame_gear (s : State) (f : OutFrame) : (s.startFrame f).gear = s.gear := by
  have announced : (s.announceBeat f).gear = s.gear := by
    unfold State.announceBeat
    split
    · refine fold_leaves State.gear _ _ s fun t c => ?_
      unfold State.announceListed
      exact t.setChan_gear c _ rfl
    · rfl
  exact announced

theorem State.startFrame_hu (s : State) (f : OutFrame) : (s.startFrame f).hu = s.hu := by
  unfold State.startFrame
  rw [State.announceBeat_parts]
  rfl

end events

end Sys2Proof.Machine
end

section
/-!
SUPPORT. The laws of valves as a law of every event.
-/

namespace Sys2Proof.Machine

theorem Turn.works {s t : State} (one : Turn s t) (works : s.Works) (adoption : s.AdoptionSound) (leave : s.LeaveHeld) :
    t.Works := by
  cases one with
  | listen k n station =>
    have still := still_of_works works fun drives => by rw [drives.1] at station; simp at station
    have emptied : ((s.setMu { s.mu with station := .listening, cause := k }).emptied n).Still :=
      .of_gear (State.emptied_gear _ n) (.of_gear (State.setMu_gear s _) still)
    unfold State.relisten
    rw [State.startListening_eq]
    exact (works_of_still emptied).recompute.evaluateIf _
  | clash tx =>
    have clashed : s.clashed.gear = ((s.steppingOut .clash s.mu.cause .clash).closeAll .isolate).gear := by
      unfold State.clashed
      rw [State.setBus_gear, State.setHu_gear, s.clashing_eq]
    have closed : s.clashed.Works := works.closed (s.steppingOut_gear _ _ _) (by decide) clashed
    rw [s.enterClash_eq]
    exact closed.recompute.evaluateIf _
  | isolate tx => exact (works.enterIsolated .readback).recompute
  | left x tx item =>
    have station : s.mu.station = .leaving := leave (.inr (by rw [tx, Option.any_some, item]; rfl))
    have still := still_of_works works fun drives => by rw [drives.1] at station; cases station
    have counted : (s.countSent x).gear = s.gear := rfl
    have configured : (s.countSent x).configured.Still := .of_gear (State.configured_gear _) (.of_gear counted still)
    rw [State.enterConfig_eq]
    exact (works_of_still configured).recompute.evaluateIf _
  | sent x tx item =>
    have counted : (s.countSent x).Works := works_of_gear works rfl id
    exact counted.heed x.frame adoption
  | heard f tx other station known => exact works.heed f adoption

theorem Event.works {s t : State} (one : Event s t) (works : s.Works) (adoption : s.AdoptionSound) (leave : s.LeaveHeld) :
    t.Works := by
  cases one with
  | pending | port | pins | clock | events | site | line | window | member | readLog | fail =>
    exact works_of_gear works rfl id
  | halt v same => exact works_of_gear works rfl fun drives => ⟨drives.1, same.trans drives.2⟩
  | credit h f same => exact State.Fits.relabel works h f same
  | chan c ch same => exact works_of_gear works (s.setChan_gear c ch same) id
  | count =>
    exact works_of_gear works s.count_gear (driving_of_seat s.count_seat fun none => (s.count_alike.halt).trans none)
  | configure c set may station => exact works.configure c set may station
  | listen k n station => exact (Turn.listen s k n station).works works adoption leave
  | leave station => exact works.closed (t := s.parting) rfl (p := .leave) (by decide) rfl
  | admission c args present room => exact works.admitted c args present room
  | endRun h e => exact works_of_bare (State.Fits.endRun works h e) (s.endRun_bare h e)
  | clearFault c present => exact works.clearFault c present
  | enqueue f other => exact works_of_bare (.of_gear (s.enqueue_gear f) works) (s.enqueue_bare f)
  | announce c => exact works_of_bare (.of_gear (s.announce_gear c) works) (s.announce_bare c)
  | ackTest =>
    refine works_of_gear works ?_ (driving_of_seat s.ackTest_seat fun none => ((Alike.of_ackTest s).halt).trans none)
    unfold State.ackTest
    split
    · exact s.enqueue_gear _
    · rfl
  | leaveTest =>
    refine works_of_bare (.of_gear ?_ works) s.leaveTest_bare
    unfold State.leaveTest
    split
    · exact s.enqueue_gear _
    · rfl
  | completeClose c closing => exact works_of_bare (State.Fits.completeClose works c closing) (s.completeClose_bare c)
  | declareStuck c closing present => exact works.declareStuck c closing present
  | releaseStuck c stuck present => exact works.releaseStuck c stuck present
  | runDry c opened => exact works.runDry c opened
  | leak c closed => exact works.leak c closed _
  | evaluate => exact works_of_bare (State.Fits.evaluate works) s.evaluate_bare
  | loseSync station =>
    refine works.closed (t := s.losing) (p := .resync) ?_ (by decide) rfl
    unfold State.losing
    rw [State.setAdoption_gear, State.markStale_gear]
    rfl
  | markStale station =>
    refine works_of_gear works ?_ fun drives => by rw [drives.1] at station; cases station
    rw [State.setAdoption_gear, State.markStale_gear]
  | enterSynced station =>
    exact works_of_gear works s.enterSynced_gear fun drives => by rw [drives.1] at station; cases station
  | enterClash tx => exact (Turn.clash s tx).works works adoption leave
  | startFrame m f tx front =>
    refine works_of_gear works (s.startFrame_gear f) (driving_of_seat (s.startFrame_seat f) fun none => ?_)
    rwa [s.startFrame_hu f]
  | isolate tx => exact (Turn.isolate s tx).works works adoption leave
  | left x tx item => exact (Turn.left s x tx item).works works adoption leave
  | sent x tx item => exact (Turn.sent s x tx item).works works adoption leave
  | heard f tx other station known => exact (Turn.heard s f tx other station known).works works adoption leave

/-- `State.ValvesSound` by its parts. -/
structure State.Geared (s : State) : Prop where
  works : s.Works
  adoption : s.AdoptionSound
  leave : s.LeaveHeld
  pool : s.PoolBound

theorem Event.geared {s t : State} (one : Event s t) (law : s.Geared) : t.Geared where
  works := one.works law.works law.adoption law.leave
  adoption := one.adoptionSound law.adoption
  leave := one.leaveHeld law.leave
  pool := one.poolBound law.pool

theorem heads_of_oneHead {s : State} (one : s.OneHead) : ∀ r ∈ s.rm.pool, ∀ q ∈ s.rm.pool, r.channel = q.channel →
    r.state.isHead = true → q.state.isHead = true → r.handle = q.handle := by
  have symmetric : Std.Symm fun r q : Run => (r.channel == q.channel && r.state.isHead && q.state.isHead) = false :=
    ⟨fun r q apart => by
      rw [← apart, Bool.and_right_comm, Bool.beq_comm]⟩
  intro r hr q hq channel head head'
  by_contra other
  have apart := one.forall hr hq fun same => other (congrArg Run.handle same)
  simp [channel, head, head'] at apart

theorem oneHead_of_fits {s : State} {may : Chan → Prop} (fits : s.Fit may) : s.OneHead := by
  have distinct : s.rm.pool.Pairwise fun r q => r.handle ≠ q.handle := List.pairwise_map.1 fits.handles
  refine (List.pairwise_iff_getElem.2 fun i j hi hj before => ?_)
  have other := List.pairwise_iff_getElem.1 distinct i j hi hj before
  have law := fits.heads _ (List.getElem_mem hi) _ (List.getElem_mem hj)
  by_contra both
  simp only [Bool.not_eq_false, Bool.and_eq_true, beq_iff_eq] at both
  exact other (law both.1.1 both.1.2 both.2)

theorem State.geared_iff (s : State) : s.Geared ↔ s.ValvesSound := by
  constructor
  · rintro ⟨works, adoption, leave, pool⟩
    have fits : s.Fit s.mayDrive := works
    refine ⟨fun c drives => ?_, fun r live => ⟨fits.flowing r live, fits.closing r live id⟩, oneHead_of_fits fits,
      ⟨fits.handles, fun r live => ?_⟩, fits.absent, adoption, leave, pool⟩
    · obtain ⟨flows, ⟨station, halt⟩, healthy⟩ := fits.driven c drives
      exact ⟨flows, station, halt, healthy⟩
    · obtain ⟨low, high⟩ := fits.range r live
      exact ⟨low, high, fits.result r live id⟩
  · rintro ⟨valves, matching, one, ⟨handles, runs⟩, absent, adoption, leave, pool⟩
    refine ⟨?_, adoption, leave, pool⟩
    exact {
      handles := handles
      range := fun r live => by
        obtain ⟨low, high, -⟩ := runs r live
        exact ⟨low, high⟩
      result := fun r live _ => by
        obtain ⟨-, -, result⟩ := runs r live
        exact result
      heads := heads_of_oneHead one
      flowing := fun r live => (matching r live).1
      closing := fun r live _ => (matching r live).2
      driven := fun c drives => by
        obtain ⟨flows, station, halt, healthy⟩ := valves c drives
        exact ⟨flows, ⟨station, halt⟩, healthy⟩
      absent := absent }

/-- Nothing runs, and every valve is CLOSED. -/
theorem works_of_empty {s : State} (pool : s.rm.pool = []) (closed : ∀ c, (s.chan c).valve = .closed) : s.Works := by
  have none : ∀ r ∈ s.rm.pool, False := fun r live => by
    rw [pool] at live
    cases live
  have rests : ∀ c, (s.chan c).valve.driven = true → False := fun c drives => by
    rw [Valve.not_driven_closed (closed c)] at drives
    cases drives
  constructor
  · rw [pool]
    exact List.nodup_nil
  · exact fun r live => (none r live).elim
  · exact fun r live => (none r live).elim
  · exact fun r live => (none r live).elim
  · exact fun r live => (none r live).elim
  · exact fun r live => (none r live).elim
  · exact fun c drives => (rests c drives).elim
  · exact fun c _ => ⟨closed c, fun r live => (none r live).elim⟩

theorem State.cleared_geared (s : State) : s.cleared.Geared where
  works := works_of_empty rfl fun c => by
    have initial : ∀ c : Chan, (State.reset.chan c).valve = .closed := by decide
    exact initial c
  adoption := nofun
  leave := leaveHeld_of_noLeave (noLeave_of_idle rfl rfl)
  pool := by
    show ([] : List Run).length ≤ 24
    exact Nat.zero_le _

end Sys2Proof.Machine
end

section
/-!
SUPPORT. R70 as a law of every step.
-/

namespace Sys2Proof

open Sys2Proof.Machine

/-- Settles O59: every event keeps runs, heads and valves together, and a driven valve where it may be driven. -/
theorem stepKeepsValveLaw : Obligations.StepKeepsValveLaw := by
  intro s t law done
  rw [← State.geared_iff] at law ⊢
  refine step_keeps (P := State.Geared) (fun _ _ high one law => ⟨one.geared law, one.inReset high⟩)
    (fun u _ => u.cleared_geared) (fun u p _ law => ?_) (fun u p _ law => ?_) (fun u q law => ?_) law done
  · exact ⟨works_of_gear law.works rfl id, law.adoption, law.leave, law.pool⟩
  · exact ⟨works_of_gear law.works rfl id, law.adoption, law.leave, law.pool⟩
  · exact ⟨works_of_gear law.works rfl id, law.adoption, law.leave, law.pool⟩

end Sys2Proof
end

section
/-!
SUPPORT. The machine as reset leaves it, and a step with a command in front of the queue.
-/

namespace Sys2Proof

open Sys2Proof.Machine

/-- Settles O1: the command is taken from the queue before it executes. -/
theorem stepTakesFrontCommand : Obligations.StepTakesFrontCommand := by
  intro c rest s front
  unfold step
  rw [front]

/-- Settles O60: nothing is held, runs or stands open, and the station is in CONFIG. -/
theorem resetIsSound : Obligations.ResetIsSound := by
  obtain ⟨table, marks⟩ := State.reset.cleared_tableLaws
  have valves := State.reset.cleared.geared_iff.1 State.reset.cleared_geared
  have seated : State.reset.Seated := seated_of_empty rfl rfl rfl (sendingSound_of_idle rfl rfl)
  exact ⟨⟨rfl, by decide, by decide, by decide⟩, table, marks,
    ⟨seated.own, seated.entries, seated.sending, fun _ => ⟨rfl, isMember_of_empty rfl, rfl⟩⟩, orphansSound_of_empty rfl,
    List.Pairwise.nil, valves, viewFormed_of_empty rfl rfl rfl⟩

end Sys2Proof
end

section
/-!
SUPPORT. The controller port (chapter 11): byte cycles, pins, and the host commands that touch nothing but the port.
-/

namespace Sys2Proof.Machine

/-! ### Host commands -/

/-- R184: the row of a host command is the command's effect while the port waits for it. -/
theorem exec_hostRow (k : HostCommand) :
    ∃ f : State → State, ∀ s, exec (hostRow k) s = .next (s.whenReleased fun s => s.onCommand k f) := by
  cases k <;> exact ⟨_, fun _ => rfl⟩

theorem exec_hostRow_of_not_awaits {s : State} {k : HostCommand} (released : s.inReset = false)
    (other : s.port.awaits k = false) : exec (hostRow k) s = .next s := by
  obtain ⟨f, effect⟩ := exec_hostRow k
  rw [effect, State.whenReleased_of_released _ released]
  simp [State.onCommand, other]

theorem commandTable_decoded : ∀ x ∈ commandTable, decodeCommand x.1 = some x.2.1 ∧ argCountOf x.1 = x.2.2 := by decide

theorem decodeCommand_of_not_listed (b : Byte) (other : b ∉ commandTable.map Prod.fst) : decodeCommand b = none := by
  revert b
  decide +kernel

theorem argCountOf_of_unknown {b : Byte} (unknown : decodeCommand b = none) : argCountOf b = 0 := by
  unfold argCountOf
  rw [unknown]

theorem Port.awaits_iff (p : Port) (k : HostCommand) :
    p.awaits k = true ↔ p.state = .executing ∧ ∃ x ∈ p.command, decodeCommand x = some k := by
  simp [Port.awaits, Option.bind_eq_some_iff]

theorem Port.awaitsUnknown_iff (p : Port) :
    p.awaitsUnknown = true ↔ p.state = .executing ∧ ∀ x ∈ p.command, decodeCommand x = none := by
  simp [Port.awaitsUnknown, Option.bind_eq_none_iff]

/-! ### Byte cycles -/

section cycles

variable {s : State} (released : s.inReset = false)
include released

theorem exec_argumentByteWrite (b : Byte) : exec (.argumentByteWrite b) s = .next (s.takeArgumentByte b) :=
  congrArg Host.Outcome.next (State.whenReleased_of_released (fun s => s.takeArgumentByte b) released)

theorem exec_writeWhileExecuting (cd : Bool) (b : Byte) (executing : s.port.state = .executing) :
    exec (.writeWhileExecuting cd b) s = .next s.setSequence :=
  congrArg Host.Outcome.next ((State.whenReleased_of_released _ released).trans (if_pos executing))

theorem exec_responseByteRead : exec .responseByteRead s = .next s.readResponse :=
  congrArg Host.Outcome.next (State.whenReleased_of_released State.readResponse released)

theorem exec_badCommand (unknown : s.port.awaitsUnknown = true) : exec .badCommand s = .next (s.finish .badCommand []) :=
  congrArg Host.Outcome.next ((State.whenReleased_of_released State.runBadCommand released).trans (if_pos unknown))

end cycles

theorem State.takeArgumentByte_of_collecting {s : State} (b : Byte) (collecting : s.port.state = .collecting) :
    s.takeArgumentByte b = s.setPort
      { s.port with
        args := s.port.args ++ [b]
        state := if s.port.argsWanted ≤ s.port.args.length + 1 then .executing else .collecting } :=
  if_pos collecting

theorem State.takeArgumentByte_of_other {s : State} (b : Byte) (other : s.port.state ≠ .collecting) :
    s.takeArgumentByte b = s.setSequence := if_neg other

theorem State.readResponse_of_byte {s : State} {r : Byte} {rest : List Byte} (finished : s.port.state = .done)
    (more : s.port.response = r :: rest) : s.readResponse = s.setPort { s.port with response := rest, lastRead := r } := by
  unfold State.readResponse Port.frontByte
  rw [finished, more]
  rfl

theorem State.readResponse_of_empty {s : State} (none : s.port.state ≠ .done ∨ s.port.response = []) :
    s.readResponse = s.setPort { s.port with lastRead := 0, sequence := true } := by
  have front : s.port.frontByte = 0 := by
    unfold Port.frontByte
    split
    · next finished =>
      rcases none with other | empty
      · exact absurd (by simpa using finished) other
      · rw [empty]
        rfl
    · rfl
  unfold State.readResponse
  rw [front]
  split
  · next finished more =>
    rcases none with other | empty
    · exact absurd finished other
    · rw [more] at empty
      cases empty
  · rfl

/-! ### Pins -/

theorem spoils_iff (spoiled : Bool) (p : PortPins) : spoils spoiled p = true ↔
    p.cs = true ∧ (p.rd = true ∧ p.wr = true ∨ spoiled = true ∧ (p.rd = true ∨ p.wr = true)) := by
  simp [spoils]

theorem State.dataOut_eq (s : State) (spoiled : Bool) (p : PortPins) : s.dataOut spoiled p =
    if s.inReset = false ∧ p.cs = true ∧ p.rd = true ∧ p.wr = false ∧ spoiled = false then
      some (if p.cd = true then s.statusByte else if s.port.state = .done then s.port.response.headD 0 else 0)
    else none := by
  have front : s.port.frontByte = if s.port.state = .done then s.port.response.headD 0 else 0 := by
    simp [Port.frontByte]
  unfold State.dataOut spoils
  rw [front]
  cases s.inReset <;> cases p.cs <;> cases p.rd <;> cases p.wr <;> cases spoiled <;> rfl

theorem cyclesTaken_single (spoiled : Bool) (p q : PortPins) :
    cyclesTaken spoiled p [q] = (cycleTaken (spoils spoiled p) p q).toList := by simp [cyclesTaken]

theorem cycleTaken_of_spoiled (p q : PortPins) : cycleTaken true p q = none := rfl

theorem cycleTaken_of_deselected {spoiled : Bool} {p q : PortPins} (off : p.cs = false ∨ q.cs = false) :
    cycleTaken spoiled p q = none := by
  rcases off with off | off <;> simp [cycleTaken, off]

theorem cycleTaken_of_same {spoiled : Bool} {p q : PortPins} (wr : q.wr = p.wr) (rd : q.rd = p.rd) :
    cycleTaken spoiled p q = none := by
  unfold cycleTaken
  rw [wr, rd]
  cases p.wr <;> cases p.rd <;> simp

theorem spoils_of_deselected {spoiled : Bool} {p : PortPins} (off : p.cs = false) : spoils spoiled p = false := by
  simp [spoils, off]

/-- R182: a cycle of both strobes stays spoiled until both, or CS#, are deasserted. -/
theorem cyclesTaken_of_both {spoiled : Bool} {p q r : PortPins} (cs : p.cs = true) (rd : p.rd = true) (wr : p.wr = true) :
    cyclesTaken spoiled p [q, r] = [] := by
  have first : spoils spoiled p = true := (spoils_iff _ _).2 ⟨cs, .inl ⟨rd, wr⟩⟩
  have second : cycleTaken (spoils true q) q r = none := by
    cases on : q.cs with
    | false => exact cycleTaken_of_deselected (.inl on)
    | true =>
      by_cases strobe : q.rd = true ∨ q.wr = true
      · rw [(spoils_iff true q).2 ⟨on, .inr ⟨rfl, strobe⟩⟩]
        exact cycleTaken_of_spoiled q r
      · simp only [not_or, Bool.not_eq_true] at strobe
        simp [cycleTaken, strobe.1, strobe.2]
  simp [cyclesTaken, first, cycleTaken_of_spoiled, second]

theorem cyclesTaken_of_selected {p q : PortPins} (on : p.cs = true) (on' : q.cs = true) :
    (p.wr = true → p.rd = false → q.wr = false → q.cd = true →
      cyclesTaken false p [q] = [.commandByteWrite q.data]) ∧
    (p.wr = true → p.rd = false → q.wr = false → q.cd = false →
      cyclesTaken false p [q] = [.argumentByteWrite q.data]) ∧
    (p.rd = true → p.wr = false → q.rd = false → q.cd = false → cyclesTaken false p [q] = [.responseByteRead]) ∧
    (p.rd = true → p.wr = false → q.rd = false → q.cd = true → cyclesTaken false p [q] = []) := by
  refine ⟨fun wr rd wr' cd => ?_, fun wr rd wr' cd => ?_, fun rd wr rd' cd => ?_, fun rd wr rd' cd => ?_⟩ <;>
    simp [cyclesTaken_single, spoils, cycleTaken, *]

/-! ### Outputs -/

theorem State.logNonempty_iff (s : State) : s.logNonempty = true ↔ s.log.records ≠ [] := by
  simp [State.logNonempty]

theorem State.runClass_iff (s : State) : s.runClass = true ↔ s.events.faultCh ≠ 0 ∨ s.log.records ≠ [] := by
  simp [State.runClass, State.logNonempty]

theorem State.siteClass_iff (s : State) : s.siteClass = true ↔ s.events.site ≠ 0 := by
  simp [State.siteClass]

theorem getLsbD_four_bits (a b c d : Bool) (w : BitVec 4) :
    let x := BitVec.ofBool a ++ BitVec.ofBool b ++ BitVec.ofBool c ++ BitVec.ofBool d ++ w
    x.getLsbD 7 = a ∧ x.getLsbD 6 = b ∧ x.getLsbD 5 = c ∧ x.getLsbD 4 = d ∧ x.extractLsb' 0 4 = w := by
  revert a b c d w
  decide

theorem ResultCode.code_lt (r : ResultCode) : r.code < 16 := by cases r <;> decide

theorem State.statusByte_bits (s : State) :
    s.statusByte.getLsbD 7 = decide (s.port.state ≠ .executing) ∧
    s.statusByte.getLsbD 6 = decide (s.port.state = .done ∧ s.port.response ≠ []) ∧
    s.statusByte.getLsbD 5 = decide (s.events.faultCh ≠ 0 ∨ s.events.site ≠ 0 ∨ s.log.records ≠ []) ∧
    s.statusByte.getLsbD 4 = s.port.sequence ∧
    (s.statusByte.extractLsb' 0 4).toNat = (if s.port.state = .done then s.port.result.code else 0) := by
  obtain ⟨ready, more, attn, sequence, result⟩ := getLsbD_four_bits s.port.ready s.port.more (s.runClass || s.siteClass)
    s.port.sequence (BitVec.ofNat 4 s.port.resultField.code)
  refine ⟨ready.trans ?_, more.trans ?_, attn.trans ?_, sequence, (congrArg BitVec.toNat result).trans ?_⟩
  · rw [Bool.eq_iff_iff]
    simp [Port.ready]
  · rw [Bool.eq_iff_iff]
    simp [Port.more]
  · rw [Bool.eq_iff_iff, Bool.or_eq_true, s.runClass_iff, s.siteClass_iff, decide_eq_true_iff]
    tauto
  · rw [BitVec.toNat_ofNat, Nat.mod_eq_of_lt (ResultCode.code_lt _)]
    unfold Port.resultField
    cases s.port.state <;> rfl

theorem State.attention (s : State) (released : s.inReset = false) :
    (s.straps.atm = true → (s.attn0Low = true ↔ s.events.faultCh ≠ 0 ∨ s.log.records ≠ []) ∧
      (s.attn1Low = true ↔ s.events.site ≠ 0)) ∧
    (s.straps.atm = false →
      (s.attn0Low = true ↔ s.events.faultCh ≠ 0 ∨ s.log.records ≠ [] ∨ s.events.site ≠ 0) ∧ s.attn1Low = false) := by
  refine ⟨fun split => ⟨?_, ?_⟩, fun single => ⟨?_, ?_⟩⟩
  · simp [State.attn0Low, released, split, s.runClass_iff]
  · simp [State.attn1Low, released, split, s.siteClass_iff]
  · simp [State.attn0Low, released, single, s.runClass_iff, s.siteClass_iff, or_assoc]
  · simp [State.attn1Low, single]

theorem Valve.driven_iff (v : Valve) : v.driven = true ↔ v = .opening ∨ v = .opened := by cases v <;> decide

theorem State.vdrv_iff {s : State} (released : s.inReset = false) (c : Chan) :
    s.vdrv c = true ↔ (s.chan c).valve = .opening ∨ (s.chan c).valve = .opened := by
  simp [State.vdrv, released, Valve.driven_iff]

theorem State.sbtx_of_idle {s : State} (idle : s.bus.tx = none) (n : Nat) : s.sbtx n = true := by
  simp [State.sbtx, idle]

theorem State.sbtx_of_sending {s : State} (released : s.inReset = false) {x : Transmission} (tx : s.bus.tx = some x) (n : Nat) :
    s.sbtx n = (((frameChars x.frame).flatMap charLevels)[n]?).getD true := by
  simp [State.sbtx, released, tx, frameLevels, List.getD_eq_getElem?_getD]

end Sys2Proof.Machine
end

section
/-!
SUPPORT. The statements on the controller port.
-/

namespace Sys2Proof

open Sys2Proof.Machine

/-- Settles O6, by the port's state and the cycle. -/
theorem argumentAndResponseBytes : Obligations.ArgumentAndResponseBytes := by
  intro s b cd k released
  refine ⟨commandTable_decoded,
    fun other => ⟨decodeCommand_of_not_listed b other, argCountOf_of_unknown (decodeCommand_of_not_listed b other)⟩,
    s.port.awaits_iff k, s.port.awaitsUnknown_iff, fun x held => by simp [Port.argsWanted, held],
    fun collecting => ?_, fun other => ?_, fun executing => ⟨exec_writeWhileExecuting released cd b executing, ?_⟩,
    fun r rest finished more => ?_, fun none => ?_, fun unknown => exec_badCommand released unknown,
    exec_hostRow_of_not_awaits released⟩
  · rw [exec_argumentByteWrite released, State.takeArgumentByte_of_collecting b collecting]
    rfl
  · rw [exec_argumentByteWrite released, State.takeArgumentByte_of_other b (by rcases other with e | e <;> rw [e] <;> decide)]
    rfl
  · rw [exec_argumentByteWrite released, State.takeArgumentByte_of_other b (by rw [executing]; decide)]
    rfl
  · rw [exec_responseByteRead released, State.readResponse_of_byte finished more]
    rfl
  · rw [exec_responseByteRead released, State.readResponse_of_empty none]
    rfl

/-- Settles O7: the cycles by the strobes, the status byte bit by bit, and the outputs. -/
theorem portPinsAndOutputs : Obligations.PortPinsAndOutputs := by
  refine ⟨State.dataOut_eq, fun p q => cyclesTaken_of_selected, fun spoiled p q r => ⟨spoils_iff spoiled p,
    fun off qs => ?_, fun off => ?_, fun wr rd => ?_, cyclesTaken_of_both⟩, State.statusByte_bits, by decide,
    fun s released => ⟨(s.attention released).1, (s.attention released).2, State.vdrv_iff released,
      fun n => ⟨fun idle => State.sbtx_of_idle idle n, fun x tx => State.sbtx_of_sending released tx n⟩⟩, fun b => rfl⟩
  · simp [cyclesTaken, spoils_of_deselected off, cycleTaken_of_deselected (.inl off)]
  · rw [cyclesTaken_single, cycleTaken_of_deselected off]
    rfl
  · rw [cyclesTaken_single, cycleTaken_of_same wr rd]
    rfl

end Sys2Proof
end

section
/-!
SUPPORT. Decimal arithmetic (chapter 5), and numbers in bytes (chapter 12).
-/

namespace Sys2Proof.Machine

/-! ### The value of a row of digits -/

theorem digitsValue_append (as bs : List Digit) :
    digitsValue (as ++ bs) = digitsValue as + 10 ^ as.length * digitsValue bs := by
  induction as with
  | nil => simp [digitsValue]
  | cons a as ih =>
    simp only [List.cons_append, digitsValue, ih, List.length_cons, Nat.pow_succ]
    ring

theorem digitsValue_singleton (d : Digit) : digitsValue [d] = d.val := by simp [digitsValue]

theorem digitsValue_lt (ds : List Digit) : digitsValue ds < 10 ^ ds.length := by
  induction ds with
  | nil => simp [digitsValue]
  | cons d ds ih =>
    simp only [digitsValue, List.length_cons, Nat.pow_succ]
    have := d.isLt
    omega

theorem digitsValue_nines (n : Nat) : digitsValue (List.replicate n 9) = 10 ^ n - 1 := by
  induction n with
  | zero => rfl
  | succ n ih =>
    have nine : ((9 : Digit) : Nat) = 9 := rfl
    simp only [List.replicate_succ, digitsValue, ih, Nat.pow_succ, nine]
    have := Nat.pow_pos (n := n) (show 0 < 10 by omega)
    omega

theorem digitsValue_zeros (n : Nat) : digitsValue (List.replicate n 0) = 0 := by
  induction n with
  | zero => rfl
  | succ n ih =>
    simp only [List.replicate_succ, digitsValue, ih]
    rfl

theorem digitsValue_tail (ds : List Digit) : digitsValue ds.tail = digitsValue ds / 10 := by
  cases ds with
  | nil => rfl
  | cons d ds =>
    simp only [List.tail_cons, digitsValue]
    have := d.isLt
    omega

theorem digitsValue_headD_tail (qs : List Digit) : (qs.headD 0).val + 10 * digitsValue qs.tail = digitsValue qs := by
  cases qs with
  | nil => rfl
  | cons q qs => rfl

/-- R90: digit by digit, with the carry, the sum is exact. -/
theorem addDigits_value (ds qs : List Digit) (carry : Bool) (short : qs.length ≤ ds.length) :
    digitsValue (addDigits ds qs carry).1 + (if (addDigits ds qs carry).2 then 10 ^ ds.length else 0) =
      digitsValue ds + digitsValue qs + carry.toNat := by
  induction ds generalizing qs carry with
  | nil =>
    obtain rfl : qs = [] := List.eq_nil_of_length_eq_zero (by simpa using short)
    cases carry <;> rfl
  | cons d ds ih =>
    have rest := ih qs.tail (decide (10 ≤ d.val + (qs.headD 0).val + carry.toNat)) (by
      simp only [List.length_tail, List.length_cons] at short ⊢
      omega)
    have split := digitsValue_headD_tail qs
    have scaled : (if (addDigits (d :: ds) qs carry).2 then 10 ^ (d :: ds).length else 0) =
        10 * if (addDigits (d :: ds) qs carry).2 then 10 ^ ds.length else 0 := by
      rw [List.length_cons, Nat.pow_succ]
      split <;> omega
    rw [scaled]
    simp only [addDigits, digitsValue, Fin.val_ofNat]
    by_cases carries : 10 ≤ d.val + (qs.headD 0).val + carry.toNat
    · simp only [carries, decide_true, Bool.toNat_true] at rest ⊢
      have below := Bool.toNat_lt carry
      omega
    · simp only [carries, decide_false, Bool.toNat_false] at rest ⊢
      omega

/-- R93: from the highest digit down, rows of one length compare as their values do. -/
theorem digitsGe_iff (as bs : List Digit) (same : as.length = bs.length) :
    digitsGe as bs = true ↔ digitsValue bs.reverse ≤ digitsValue as.reverse := by
  induction as generalizing bs with
  | nil =>
    obtain rfl : bs = [] := List.eq_nil_of_length_eq_zero same.symm
    simp [digitsGe]
  | cons a as ih =>
    cases bs with
    | nil => simp at same
    | cons b bs =>
      have lengths : as.length = bs.length := by simpa using same
      have lowA := digitsValue_lt as.reverse
      have lowB := digitsValue_lt bs.reverse
      have law := ih bs lengths
      simp only [List.length_reverse, lengths] at lowA lowB
      simp only [digitsGe, Bool.or_eq_true, decide_eq_true_eq, Bool.and_eq_true, beq_iff_eq, law, List.reverse_cons,
        digitsValue_append, digitsValue_singleton, List.length_reverse, lengths, Fin.lt_def, Fin.ext_iff]
      generalize digitsValue as.reverse = x at *
      generalize digitsValue bs.reverse = y at *
      generalize 10 ^ bs.length = p at *
      constructor
      · rintro (below | ⟨equal, le⟩)
        · have : p * (b.val + 1) ≤ p * a.val := Nat.mul_le_mul_left p below
          rw [Nat.mul_succ] at this
          omega
        · rw [equal]
          omega
      · intro le
        rcases Nat.lt_trichotomy b.val a.val with below | equal | above
        · exact .inl below
        · refine .inr ⟨equal.symm, ?_⟩
          rw [equal] at le
          omega
        · have : p * (a.val + 1) ≤ p * b.val := Nat.mul_le_mul_left p above
          rw [Nat.mul_succ] at this
          omega

theorem reaches_iff {n m : Nat} (volume : Decimal n) (limit : Decimal m) (short : m < n) :
    reaches volume limit = true ↔ digitsValue limit.digits ≤ digitsValue volume.digits / 10 := by
  have lengths : volume.digits.tail.reverse.length =
      (List.replicate (volume.digits.tail.length - m) 0 ++ limit.digits.reverse).length := by
    simp only [List.length_reverse, List.length_tail, volume.len, List.length_append, List.length_replicate, limit.len]
    omega
  unfold reaches
  rw [digitsGe_iff _ _ lengths, List.reverse_reverse, digitsValue_tail, List.reverse_append, List.reverse_reverse,
    digitsValue_append, List.reverse_replicate, digitsValue_zeros, Nat.mul_zero, Nat.add_zero]

theorem addDecimal_value {n m : Nat} (field : Decimal n) (quantum : Decimal m) (short : m ≤ n) :
    digitsValue (addDecimal field quantum).1.digits + (if (addDecimal field quantum).2 then 10 ^ n else 0) =
      digitsValue field.digits + digitsValue quantum.digits := by
  have sum := addDigits_value field.digits quantum.digits false (by rw [field.len, quantum.len]; exact short)
  rw [field.len] at sum
  exact sum

theorem addSaturating_of_fits {n m : Nat} {field : Decimal n} {quantum : Decimal m}
    (fits : (addDecimal field quantum).2 = false) : addSaturating field quantum = (addDecimal field quantum).1 := by
  simp [addSaturating, fits]

theorem addSaturating_of_overflow {n m : Nat} {field : Decimal n} {quantum : Decimal m}
    (carries : (addDecimal field quantum).2 = true) : addSaturating field quantum = Decimal.nines n := by
  simp [addSaturating, carries]

theorem addSaturating_value {n m : Nat} (field : Decimal n) (quantum : Decimal m) (short : m ≤ n) :
    digitsValue (addSaturating field quantum).digits =
      min (10 ^ n - 1) (digitsValue field.digits + digitsValue quantum.digits) := by
  have sum := addDecimal_value field quantum short
  cases carries : (addDecimal field quantum).2 with
  | false =>
    have below := digitsValue_lt (addDecimal field quantum).1.digits
    rw [(addDecimal field quantum).1.len] at below
    rw [addSaturating_of_fits carries]
    simp only [carries, Bool.false_eq_true, if_false] at sum
    omega
  | true =>
    have nines : digitsValue (Decimal.nines n).digits = 10 ^ n - 1 := digitsValue_nines n
    rw [addSaturating_of_overflow carries, nines]
    simp only [carries, if_true] at sum
    omega

/-! ### Packed decimal -/

theorem toDigit_eq_some {n : BitVec 4} {d : Digit} : toDigit n = some d ↔ n.toNat = d.val := by
  unfold toDigit
  split
  · simp [Fin.ext_iff]
  · next high =>
    have := d.isLt
    simp only [reduceCtorEq, false_iff]
    omega

theorem toNat_lowNibble (b : Byte) : (b.extractLsb' 0 4).toNat = b.toNat % 16 := by simp

theorem toNat_highNibble (b : Byte) : (b.extractLsb' 4 4).toNat = b.toNat / 16 := by
  have := b.isLt
  rw [BitVec.extractLsb'_toNat, Nat.shiftRight_eq_div_pow]
  omega

theorem toNat_digitPair (high low : Digit) : (digitPair high low).toNat = 16 * high.val + low.val := by
  have := high.isLt
  have := low.isLt
  unfold digitPair
  rw [BitVec.toNat_ofNat]
  omega

/-- A byte of two decimal digits. -/
theorem eq_digitPair_iff (b : Byte) (high low : Digit) : b = digitPair high low ↔
    toDigit (b.extractLsb' 0 4) = some low ∧ toDigit (b.extractLsb' 4 4) = some high := by
  rw [toDigit_eq_some, toDigit_eq_some, toNat_lowNibble, toNat_highNibble, ← BitVec.toNat_inj, toNat_digitPair]
  have := low.isLt
  omega

/-- Digits that fill their bytes are what the nibbles of the bytes spell. -/
theorem mapM_nibbles_eq_some (xs : List Byte) (ds : List Digit) :
    (xs.flatMap fun b => [b.extractLsb' 0 4, b.extractLsb' 4 4]).mapM toDigit = some ds ↔
      ds.length = 2 * xs.length ∧ packLow ds = xs := by
  induction xs generalizing ds with
  | nil =>
    simp only [List.flatMap_nil, List.mapM_nil, Option.pure_def, Option.some.injEq, List.length_nil, Nat.mul_zero,
      List.length_eq_zero_iff]
    constructor
    · rintro rfl
      exact ⟨rfl, rfl⟩
    · exact fun h => h.1.symm
  | cons x xs ih =>
    simp only [List.flatMap_cons, List.cons_append, List.nil_append, List.mapM_cons, Option.bind_eq_bind,
      Option.bind_eq_some_iff, Option.pure_def, Option.some.injEq]
    constructor
    · rintro ⟨low, hl, rest, ⟨high, hh, more, spelled, rfl⟩, rfl⟩
      obtain ⟨length, packed⟩ := (ih more).1 spelled
      refine ⟨by simp only [List.length_cons, length]; omega, ?_⟩
      rw [packLow, packed, ← (eq_digitPair_iff x high low).2 ⟨hl, hh⟩]
    · rintro ⟨length, packed⟩
      match ds with
      | [] => simp at length
      | [d] =>
        simp only [List.length_cons, List.length_nil] at length
        omega
      | low :: high :: more =>
        rw [packLow, List.cons.injEq] at packed
        obtain ⟨hl, hh⟩ := (eq_digitPair_iff x high low).1 packed.1.symm
        refine ⟨low, hl, high :: more, ⟨high, hh, more, (ih more).2 ⟨?_, packed.2⟩, rfl⟩, rfl⟩
        simp only [List.length_cons] at length
        omega

theorem packLow_length (ds : List Digit) : (packLow ds).length = (ds.length + 1) / 2 := by
  induction ds using packLow.induct with
  | case1 low high ds ih =>
    simp only [packLow, List.length_cons, ih]
    omega
  | case2 low => simp [packLow]
  | case3 => rfl

/-- The pad nibble of an odd row is a zero digit. -/
theorem packLow_pad (ds : List Digit) (odd : ds.length % 2 = 1) : packLow (ds ++ [0]) = packLow ds := by
  induction ds using packLow.induct with
  | case1 low high ds ih =>
    simp only [List.cons_append, packLow]
    rw [ih (by simp only [List.length_cons] at odd; omega)]
  | case2 low => rfl
  | case3 => simp at odd

/-- A row with its pad digit. -/
def paddedDigits {n : Nat} (d : Decimal n) : List Digit := d.digits ++ List.replicate (n % 2) 0

theorem paddedDigits_length {n : Nat} (d : Decimal n) : (paddedDigits d).length = 2 * ((n + 1) / 2) := by
  simp only [paddedDigits, List.length_append, d.len, List.length_replicate]
  omega

theorem packLow_paddedDigits {n : Nat} (d : Decimal n) : packLow (paddedDigits d) = packLow d.digits := by
  unfold paddedDigits
  rcases Nat.mod_two_eq_zero_or_one n with even | odd
  · rw [even, List.replicate_zero, List.append_nil]
  · rw [odd]
    exact packLow_pad d.digits (by rw [d.len]; exact odd)

theorem decimalBytes_length {n : Nat} (d : Decimal n) : (decimalBytes d).length = (n + 1) / 2 := by
  unfold decimalBytes
  rw [List.length_reverse, packLow_length, d.len]

theorem decimal_ext {n : Nat} {d e : Decimal n} (same : d.digits = e.digits) : d = e := by
  cases d
  cases e
  cases same
  rfl

theorem mapM_nibblesLow_decimalBytes {n : Nat} (d : Decimal n) :
    (nibblesLow (decimalBytes d)).mapM toDigit = some (paddedDigits d) := by
  unfold nibblesLow decimalBytes
  rw [List.reverse_reverse, mapM_nibbles_eq_some, packLow_length, paddedDigits_length, d.len]
  exact ⟨rfl, packLow_paddedDigits d⟩

/-- R201: a field reads back from its bytes and from no others. -/
theorem readDecimal_eq_some {n : Nat} {bytes : List Byte} (length : bytes.length = (n + 1) / 2) (d : Decimal n) :
    readDecimal n bytes = some d ↔ bytes = decimalBytes d := by
  constructor
  · intro read
    unfold readDecimal at read
    obtain ⟨ds, spelled, read⟩ := Option.bind_eq_some_iff.1 read
    unfold nibblesLow at spelled
    obtain ⟨count, packed⟩ := (mapM_nibbles_eq_some _ _).1 spelled
    split at read
    · next enough =>
      split at read
      · next pad =>
        obtain rfl := Option.some.inj read
        have rest : ds.drop n = List.replicate (n % 2) 0 := by
          refine List.eq_replicate_iff.2 ⟨?_, fun x member => by simpa using List.all_eq_true.1 pad x member⟩
          rw [List.length_drop, count, List.length_reverse, length]
          omega
        have padded : paddedDigits (Decimal.mk (ds.take n) enough) = ds := by
          show ds.take n ++ List.replicate (n % 2) 0 = ds
          rw [← rest, List.take_append_drop]
        unfold decimalBytes
        rw [← packLow_paddedDigits, padded, packed, List.reverse_reverse]
      · cases read
    · cases read
  · rintro rfl
    have short : (paddedDigits d).take n = d.digits := List.take_left' d.len
    have pad : ((paddedDigits d).drop n).all (· == 0) = true := by
      unfold paddedDigits
      rw [List.drop_left' d.len]
      simp
    unfold readDecimal
    rw [mapM_nibblesLow_decimalBytes, Option.bind_some, dif_pos (by rw [short]; exact d.len), if_pos pad]
    exact congrArg some (decimal_ext short)

/-! ### Whole numbers -/

theorem toNat_byteOf {n : Nat} (small : n < 256) : (byteOf n).toNat = n := by
  unfold byteOf
  rw [BitVec.toNat_ofNat]
  omega

theorem byteOf_toNat (b : Byte) : byteOf b.toNat = b := by
  rw [← BitVec.toNat_inj, toNat_byteOf b.isLt]

theorem byteOf_eq_iff {n : Nat} (small : n < 256) (b : Byte) : byteOf n = b ↔ b.toNat = n := by
  rw [← BitVec.toNat_inj, toNat_byteOf small]
  exact eq_comm

theorem extractLsb'_eq_byteOf {w : Nat} (x : BitVec w) (k : Nat) : x.extractLsb' k 8 = byteOf (x.toNat / 2 ^ k) := by
  rw [← BitVec.toNat_inj, BitVec.extractLsb'_toNat, Nat.shiftRight_eq_div_pow]
  unfold byteOf
  rw [BitVec.toNat_ofNat]

theorem bytes16_eq (w : BitVec 16) : bytes16 w = [byteOf (w.toNat / 256), byteOf w.toNat] := by
  unfold bytes16
  rw [extractLsb'_eq_byteOf, extractLsb'_eq_byteOf, Nat.pow_zero, Nat.div_one]
  norm_num

theorem bytes32_eq (w : BitVec 32) : bytes32 w =
    [byteOf (w.toNat / 16777216), byteOf (w.toNat / 65536), byteOf (w.toNat / 256), byteOf w.toNat] := by
  unfold bytes32
  rw [extractLsb'_eq_byteOf, extractLsb'_eq_byteOf, extractLsb'_eq_byteOf, extractLsb'_eq_byteOf, Nat.pow_zero, Nat.div_one]
  norm_num

end Sys2Proof.Machine
end

section
/-!
SUPPORT. The statement on decimal sums.
-/

namespace Sys2Proof

open Sys2Proof.Machine

/-- Settles O48, by the value of a row of digits. -/
theorem decimalSumIsExact : Obligations.DecimalSumIsExact := by
  intro n m field quantum short
  refine ⟨addDecimal_value field quantum short, addSaturating_of_fits, fun carries => ?_, addSaturating_value field quantum short,
    reaches_iff field quantum⟩
  rw [addSaturating_of_overflow carries]
  rfl

end Sys2Proof
end

section
/-!
SUPPORT. Host commands: the effect of each row while the port waits for it, and the commands that read, and those that
queue a frame.
-/

namespace Sys2Proof.Machine

/-! ### The effect of a host command -/

theorem exec_host (s : State) (k : HostCommand) :
    exec (hostRow k) s = .next (s.whenReleased fun s => s.onCommand k fun s => s.runCommand (some k)) := by
  cases k <;> rfl

theorem exec_host_of_awaits {s : State} {k : HostCommand} (released : s.inReset = false) (awaits : s.port.awaits k = true) :
    exec (hostRow k) s = .next (s.runCommand (some k)) := by
  rw [exec_host, State.onCommand_of_awaits _ released awaits]

/-! ### Values in argument bytes -/

theorem toChan_eq_some {b : Byte} {c : Chan} : toChan b = some c ↔ b.toNat = c.val := by
  unfold toChan
  split
  · simp [Fin.ext_iff]
  · next high =>
    have := c.isLt
    simp only [reduceCtorEq, false_iff]
    omega

theorem toChan_eq_none {b : Byte} : toChan b = none ↔ 8 ≤ b.toNat := by
  unfold toChan
  split <;> simp <;> omega

theorem toAddr_eq_some {b : Byte} {a : Addr} : toAddr b = some a ↔ b.toNat = a.val := by
  unfold toAddr
  split
  · simp [Fin.ext_iff]
  · next high =>
    have := a.isLt
    simp only [reduceCtorEq, false_iff]
    omega

theorem toAddr_eq_none {b : Byte} : toAddr b = none ↔ 16 ≤ b.toNat := by
  unfold toAddr
  split <;> simp <;> omega

theorem byteOf_bitOf (b : Bool) : byteOf (bitOf b) = if b then 1 else 0 := by cases b <;> rfl

/-! ### Lengths of responses -/

theorem settingsBytes_length (v : Option ChannelSettings) : (settingsBytes v).length = 10 := by
  cases v with
  | none => rfl
  | some v => simp [settingsBytes, decimalBytes_length]

theorem stuckBytes_length (ch : Channel) : (stuckBytes ch).length = 2 := by
  unfold stuckBytes
  split <;> rfl

theorem announcedBytes_length (a : Announced) : (announcedBytes a).length = 3 := by cases a <;> rfl

theorem gateBytes_length (g : Option Gate) : (gateBytes g).length = 4 := by
  unfold gateBytes
  split <;> rfl

theorem bytes16_length (w : BitVec 16) : (bytes16 w).length = 2 := rfl
theorem bytes32_length (w : BitVec 32) : (bytes32 w).length = 4 := rfl

theorem conditionBytes_length (r : Run) : (conditionBytes r).length = 3 := rfl

theorem State.channelBytes_length (s : State) (c : Chan) : (s.channelBytes c).length = 29 := by
  simp [State.channelBytes, settingsBytes_length, stuckBytes_length, announcedBytes_length, decimalBytes_length]

theorem runBytes_length (r : Run) : (runBytes r).length = 31 := by
  simp [runBytes, decimalBytes_length, gateBytes_length, bytes16_length, bytes32_length, conditionBytes_length]

theorem recordBytes_length (r : LogRecord) : (recordBytes r).length = 25 := by
  simp [recordBytes, decimalBytes_length, bytes16_length, bytes32_length]

/-! ### Reads -/

section reads

variable {s : State}

theorem State.runReadChannel_of_chan {c : Chan} (named : toChan (s.port.arg 0) = some c) :
    s.runReadChannel = (s.clearWrapped c (s.port.arg 1)).finish .ok (s.channelBytes c) := by
  simp only [State.runReadChannel, named]
  rfl

theorem State.runReadChannel_of_none (none : toChan (s.port.arg 0) = none) : s.runReadChannel = s.finish .badArg [] := by
  simp only [State.runReadChannel, none]
  rfl

theorem State.clearWrapped_of_set {c : Chan} {b : Byte} (set : b.getLsbD 0 = true) :
    s.clearWrapped c b = s.setChan c { s.chan c with wrapped := false } := if_pos set

theorem State.clearWrapped_of_clear {c : Chan} {b : Byte} (clear : b.getLsbD 0 = false) : s.clearWrapped c b = s :=
  if_neg (by rw [clear]; exact Bool.false_ne_true)

theorem LogUnit.dropOldest_eq {l : LogUnit} {r : LogRecord} {rest : List LogRecord} (oldest : l.records = r :: rest)
    (place : l.readPos < 48) : l.dropOldest = ⟨rest, (l.readPos + 1) % 48, l.reservations⟩ := by
  unfold LogUnit.dropOldest
  rw [oldest]
  have next : (if l.readPos = 47 then 0 else l.readPos + 1) = (l.readPos + 1) % 48 := by
    split <;> omega
  rw [next]
  rfl

theorem State.runReadLog_of_cons {r : LogRecord} {rest : List LogRecord} (oldest : s.log.records = r :: rest)
    (place : s.log.readPos < 48) :
    s.runReadLog = (s.setLog ⟨rest, (s.log.readPos + 1) % 48, s.log.reservations⟩).finish .ok (recordBytes r) := by
  rw [← LogUnit.dropOldest_eq oldest place]
  simp only [State.runReadLog, oldest]
  rfl

theorem State.runReadLog_of_nil (empty : s.log.records = []) : s.runReadLog = s.finish .empty [] := by
  simp only [State.runReadLog, empty]
  rfl

theorem State.runPeekLog_of_some {r : LogRecord} (held : s.log.records[(s.port.arg 0).toNat]? = some r) :
    s.runPeekLog = s.finish .ok (recordBytes r) := by
  simp only [State.runPeekLog, held]
  rfl

theorem State.runPeekLog_of_none (none : s.log.records[(s.port.arg 0).toNat]? = none) :
    s.runPeekLog = s.finish .badArg [] := by
  simp only [State.runPeekLog, none]
  rfl

theorem State.runReadEntry_of_key {a : Addr} {c : Chan} (owner : toAddr (s.port.arg 0) = some a)
    (chan : toChan (s.port.arg 1) = some c) :
    s.runReadEntry = s.finish .ok (entryBytes a c (slot s.ct.table a c)) := by
  simp only [State.runReadEntry, owner, chan]
  rfl

theorem State.runReadEntry_of_none (none : toAddr (s.port.arg 0) = none ∨ toChan (s.port.arg 1) = none) :
    s.runReadEntry = s.finish .badArg [] := by
  unfold State.runReadEntry
  split
  · next owner chan => rcases none with e | e <;> simp_all
  · rfl

theorem State.runQueryRun_of_some {r : Run} (live : findRun s.rm.pool (s.port.arg 0).toNat = some r) :
    s.runQueryRun = s.finish .ok (runBytes r) := by
  simp only [State.runQueryRun, live]
  rfl

theorem State.runQueryRun_of_none (none : findRun s.rm.pool (s.port.arg 0).toNat = none) :
    s.runQueryRun = s.finish .noSuchRun [] := by
  simp only [State.runQueryRun, none]
  rfl

end reads

/-! ### Site commands -/

section commands

variable {s : State}

theorem StationState.takesSiteCommand_iff (st : StationState) : st.takesSiteCommand = true ↔ st = .synced ∨ st = .resync := by
  cases st <;> decide

theorem State.siteCommand_of_other (f : State → State) (synced : s.mu.station ≠ .synced) (resync : s.mu.station ≠ .resync) :
    s.siteCommand f = s.finish .wrongState [] :=
  if_neg fun takes => (StationState.takesSiteCommand_iff _).1 takes |>.elim synced resync

theorem State.siteCommand_of_taken (f : State → State) (station : s.mu.station = .synced ∨ s.mu.station = .resync) :
    s.siteCommand f = f s := if_pos ((StationState.takesSiteCommand_iff _).2 station)

theorem State.enqueue_of_takes {f : OutFrame} (takes : s.mu.station.takes f = true) : s.enqueue f = s.queued f := if_pos takes

theorem State.enqueue_of_active {f : OutFrame} (active : s.mu.station.active = true) : s.enqueue f = s.queued f := by
  refine State.enqueue_of_takes ?_
  generalize s.mu.station = st at active ⊢
  cases st <;> first | rfl | cases active

theorem State.enqueue_of_taken (f : OutFrame) (station : s.mu.station = .synced ∨ s.mu.station = .resync) :
    s.enqueue f = s.queued f := State.enqueue_of_active (by rcases station with e | e <;> rw [e] <;> rfl)

/-- R189: the first check of every site command. -/
theorem State.runCommand_of_wrongState {k : HostCommand}
    (site : k ∈ [HostCommand.setFlags, .setGauge, .halt, .release, .purge, .leave])
    (synced : s.mu.station ≠ .synced) (resync : s.mu.station ≠ .resync) : s.runCommand (some k) = s.finish .wrongState [] := by
  have leave : s.runLeave = s.finish .wrongState [] := by
    have no : s.mu.station.takesSiteCommand = false := by
      rw [← Bool.not_eq_true, StationState.takesSiteCommand_iff]
      exact fun h => h.elim synced resync
    unfold State.runLeave
    rw [no]
    rfl
  have refused := fun f => State.siteCommand_of_other f synced resync
  simp only [List.mem_cons, List.not_mem_nil, or_false] at site
  rcases site with rfl | rfl | rfl | rfl | rfl | rfl
  · show s.runSetFlags = _
    unfold State.runSetFlags
    exact refused _
  · show s.runSetGauge = _
    unfold State.runSetGauge
    exact refused _
  · show s.runHalt = _
    unfold State.runHalt
    exact refused _
  · show s.runRelease = _
    unfold State.runRelease
    exact refused _
  · show s.runPurge = _
    unfold State.runPurge
    exact refused _
  · exact leave

theorem State.pressureLost_iff (s : State) : s.pressureLost = true ↔ s.straps.ple = true ∧ s.hu.ploss = true := by
  simp [State.pressureLost]

end commands

section accepted

variable {s : State} (station : s.mu.station = .synced ∨ s.mu.station = .resync)
include station

theorem State.runSetFlags_of_taken : s.runSetFlags = (s.queued (.flag
    (word16 (s.port.arg 0) (s.port.arg 1) &&& ~~~(word16 (s.port.arg 2) (s.port.arg 3)))
    (word16 (s.port.arg 2) (s.port.arg 3)))).finish .ok [] := by
  unfold State.runSetFlags
  rw [State.siteCommand_of_taken _ station, State.enqueue_of_taken _ station]
  rfl

theorem State.runSetGauge_of_taken : s.runSetGauge = match readGauge (gaugeFieldOf (s.port.arg 0) (s.port.arg 1)) with
    | some g => (s.queued (.gauge g)).finish .ok []
    | none => s.finish .badArg [] := by
  unfold State.runSetGauge
  rw [State.siteCommand_of_taken _ station]
  cases readGauge (gaugeFieldOf (s.port.arg 0) (s.port.arg 1)) with
  | some g =>
    dsimp only
    rw [State.enqueue_of_taken _ station]
    rfl
  | none => rfl

theorem State.runHalt_of_taken : s.runHalt = (s.queued (.halt reasonCommand)).finish .ok [] := by
  unfold State.runHalt
  rw [State.siteCommand_of_taken _ station, State.enqueue_of_taken _ station]
  rfl

theorem State.runRelease_of_taken : s.runRelease =
    if s.hu.halt ≠ .halted then s.finish .wrongState []
    else if s.pressureLost then s.finish .inputAsserted []
    else (s.queued .release).finish .ok [] := by
  unfold State.runRelease
  rw [State.siteCommand_of_taken _ station, State.enqueue_of_taken _ station]
  rfl

theorem State.runPurge_of_taken {a : Addr} (named : toAddr (s.port.arg 0) = some a) : s.runPurge =
    if s.hasOrphan a ∧ ¬ s.isMember a then (s.queued (.purge a)).finish .ok [] else s.finish .notOrphan [] := by
  unfold State.runPurge
  rw [State.siteCommand_of_taken _ station, named]
  dsimp only
  rw [State.enqueue_of_taken _ station]
  rfl

theorem State.runPurge_of_none (none : toAddr (s.port.arg 0) = none) : s.runPurge = s.finish .badArg [] := by
  unfold State.runPurge
  rw [State.siteCommand_of_taken _ station, none]
  rfl

end accepted

end Sys2Proof.Machine
end

section
/-!
SUPPORT. The statements on commands that read, and on those that queue a frame.
-/

namespace Sys2Proof

open Sys2Proof.Machine

/-- Settles O17: the lengths of the responses, and each command by what it is asked for. -/
theorem readChannelAndLogCommands : Obligations.ReadChannelAndLogCommands := by
  intro s c released
  refine ⟨fun awaits => ?_, fun awaits => ?_, fun awaits => ?_, fun awaits => exec_host_of_awaits released awaits⟩
  · rw [show exec .readChannel s = .next s.runReadChannel from exec_host_of_awaits released awaits]
    refine ⟨fun high => ?_, fun named => ⟨s.channelBytes_length c, fun clear => ?_, fun set => ?_⟩⟩
    · rw [State.runReadChannel_of_none (toChan_eq_none.2 high)]
    · rw [State.runReadChannel_of_chan named, State.clearWrapped_of_clear clear]
    · rw [State.runReadChannel_of_chan named, State.clearWrapped_of_set set]
  · rw [show exec .readLog s = .next s.runReadLog from exec_host_of_awaits released awaits]
    refine ⟨fun empty => ?_, fun r rest oldest place => ⟨?_, recordBytes_length r⟩⟩
    · rw [State.runReadLog_of_nil empty]
    · rw [State.runReadLog_of_cons oldest place]
  · rw [show exec .peekLog s = .next s.runPeekLog from exec_host_of_awaits released awaits]
    refine ⟨fun r held => ?_, fun few => ?_⟩
    · rw [State.runPeekLog_of_some held]
    · rw [State.runPeekLog_of_none (List.getElem?_eq_none few)]

/-- Settles O19: the first check refuses; past it each command by its own checks. -/
theorem siteCommandsQueueFrames : Obligations.SiteCommandsQueueFrames := by
  intro s k released
  refine ⟨fun site awaits synced resync => ?_, fun station => ⟨fun awaits => ?_, fun awaits => ?_, fun awaits => ?_,
    fun awaits => ?_, fun awaits => ?_⟩⟩
  · rw [exec_host_of_awaits released awaits, State.runCommand_of_wrongState site synced resync]
  · rw [← State.runSetFlags_of_taken station]
    exact exec_host_of_awaits released awaits
  · rw [show exec .setGauge s = .next s.runSetGauge from exec_host_of_awaits released awaits,
      State.runSetGauge_of_taken station]
    refine ⟨fun none => ?_, fun g read => ?_⟩
    · rw [none]
    · rw [read]
  · rw [← State.runHalt_of_taken station]
    exact exec_host_of_awaits released awaits
  · rw [show exec .releaseCommand s = .next s.runRelease from exec_host_of_awaits released awaits,
      State.runRelease_of_taken station]
    refine ⟨fun other => ?_, fun halted ple ploss => ?_, fun halted off => ?_⟩
    · rw [if_pos other]
    · rw [if_neg (not_not.2 halted), if_pos (s.pressureLost_iff.2 ⟨ple, ploss⟩)]
    · rw [if_neg (not_not.2 halted), if_neg]
      rw [s.pressureLost_iff]
      rcases off with e | e <;> simp [e]
  · rw [show exec .purgeCommand s = .next s.runPurge from exec_host_of_awaits released awaits]
    refine ⟨fun high => ?_, fun a named not => ?_, fun a named orphan member => ?_⟩
    · rw [State.runPurge_of_none station (toAddr_eq_none.2 high)]
    · rw [State.runPurge_of_taken station named, if_neg]
      rcases not with e | e <;> simp [e]
    · rw [State.runPurge_of_taken station named, if_pos ⟨orphan, by simp [member]⟩]

/-- Settles O20: each read answers with its bytes. -/
theorem readsReportAndChangeNothing : Obligations.ReadsReportAndChangeNothing := by
  intro s released
  refine ⟨fun awaits => exec_host_of_awaits released awaits, fun awaits => exec_host_of_awaits released awaits,
    fun awaits => exec_host_of_awaits released awaits, fun awaits => ?_, fun awaits => ?_⟩
  · rw [show exec .readEntry s = .next s.runReadEntry from exec_host_of_awaits released awaits]
    refine ⟨fun high => ?_, fun a c owner chan => ⟨fun empty => ?_, fun e held => ?_⟩⟩
    · rw [State.runReadEntry_of_none (high.imp toAddr_eq_none.2 toChan_eq_none.2)]
    · rw [State.runReadEntry_of_key owner chan, empty]
      rfl
    · rw [State.runReadEntry_of_key owner chan, held]
      rw [← byteOf_bitOf e.latched]
      rfl
  · rw [show exec .queryRun s = .next s.runQueryRun from exec_host_of_awaits released awaits]
    refine ⟨fun r live => ⟨?_, runBytes_length r⟩, fun none => ?_⟩
    · rw [State.runQueryRun_of_some live]
    · rw [State.runQueryRun_of_none none]

end Sys2Proof
end

section
/-!
SUPPORT. Events, the outbound set, the timers, the field pins and reset: rows that leave runs and heads alone.
-/

namespace Sys2Proof.Machine

/-! ### Events -/

theorem SiteEvent.bit_injective {e f : SiteEvent} (same : e.bit = f.bit) : e = f := by
  cases e <;> cases f <;> first | rfl | cases same

theorem State.hasEvent_raise (s : State) (e f : SiteEvent) : (s.raise e).hasEvent f = (s.hasEvent f || decide (f = e)) := by
  have bit : (BitVec.twoPow 12 e.bit).getLsbD f.bit = decide (f = e) := by
    rw [BitVec.getLsbD_twoPow, decide_eq_true e.bit_lt, Bool.true_and, decide_eq_decide]
    exact ⟨fun same => (SiteEvent.bit_injective same).symm, fun same => by rw [same]⟩
  unfold State.hasEvent State.raise
  rw [State.setEvents_events, BitVec.getLsbD_or, bit]

theorem State.hasEvent_raise_same (s : State) (e : SiteEvent) : (s.raise e).hasEvent e = true := by
  simp [State.hasEvent_raise]

theorem State.hasEvent_raise_ne (s : State) {e f : SiteEvent} (other : f ≠ e) : (s.raise e).hasEvent f = s.hasEvent f := by
  simp [State.hasEvent_raise, other]

theorem State.hasEvent_raiseIf (s : State) (p : Bool) (e f : SiteEvent) :
    (s.raiseIf p e).hasEvent f = (s.hasEvent f || (p && decide (f = e))) := by
  cases p
  · exact (Bool.or_false _).symm
  · exact s.hasEvent_raise e f

theorem State.faultBit_raiseFault (s : State) (c d : Chan) :
    (s.raiseFault c).events.faultCh.getLsbD d.val = (s.events.faultCh.getLsbD d.val || decide (d = c)) := by
  have bit : (BitVec.twoPow 8 c.val).getLsbD d.val = decide (d = c) := by
    rw [BitVec.getLsbD_twoPow, decide_eq_true c.isLt, Bool.true_and, decide_eq_decide]
    exact ⟨fun same => Fin.ext same.symm, fun same => by rw [same]⟩
  unfold State.raiseFault
  rw [State.setEvents_events, BitVec.getLsbD_or, bit]

/-! ### The outbound set -/

theorem OutFrame.key_of_sameKey {f g : OutFrame} (same : f.sameKey g = true) : f.key = g.key := by
  cases f <;> cases g <;> try first | rfl | cases same
  case claim.claim c k d l => exact congrArg Fin.val (eq_of_beq (α := Chan) same)
  case drop.drop a b => exact congrArg (fun t : Addr => 11 + t.val) (eq_of_beq (α := Addr) same)

theorem OutFrame.sameKey_of_key {f g : OutFrame} (same : f.key = g.key) : f.sameKey g = true := by
  unfold OutFrame.key at same
  cases f <;> cases g <;> dsimp only at same <;> try first | rfl | omega
  case claim.claim c k d l => exact (beq_iff_eq (α := Chan)).2 (Fin.ext same)
  case drop.drop a b => exact (beq_iff_eq (α := Addr)).2 (Fin.ext (Nat.add_left_cancel same))

theorem OutFrame.sameKey_iff (f g : OutFrame) : f.sameKey g = true ↔ f.key = g.key :=
  ⟨OutFrame.key_of_sameKey, OutFrame.sameKey_of_key⟩
theorem insertOut_of_new {f : OutFrame} {older : List OutFrame} (new : ∀ h ∈ older, h.sameKey f = false) :
    insertOut f older = older ++ [f] := by
  induction older with
  | nil => rfl
  | cons h older ih =>
    rw [insertOut, if_neg (by rw [new h List.mem_cons_self]; exact Bool.false_ne_true),
      ih fun g member => new g (List.mem_cons_of_mem _ member), List.cons_append]

theorem insertOut_of_pending {f g : OutFrame} {older newer : List OutFrame} (new : ∀ h ∈ older, h.sameKey f = false)
    (same : g.sameKey f = true) : insertOut f (older ++ g :: newer) = older ++ g.combine f :: newer := by
  induction older with
  | nil => rw [List.nil_append, insertOut, if_pos same, List.nil_append]
  | cons h older ih =>
    rw [List.cons_append, insertOut, if_neg (by rw [new h List.mem_cons_self]; exact Bool.false_ne_true),
      ih fun g member => new g (List.mem_cons_of_mem _ member), List.cons_append]

theorem StationState.takes_eq_false {st : StationState} {f : OutFrame} (active : st.active = false)
    (other : st ≠ .listening ∨ f ≠ .beat) : st.takes f = false := by
  cases st with
  | synced | resync | leaving => cases active
  | config | isolated | clash => rfl
  | listening =>
    have beat : f ≠ .beat := other.elim (absurd rfl) id
    simp [StationState.takes, beat]

theorem State.enqueue_of_not_takes {s : State} {f : OutFrame} (active : s.mu.station.active = false)
    (other : s.mu.station ≠ .listening ∨ f ≠ .beat) : s.enqueue f = s :=
  if_neg (by rw [StationState.takes_eq_false active other]; exact Bool.false_ne_true)

theorem State.enqueue_beat_of_listening {s : State} (listening : s.mu.station = .listening) :
    s.enqueue .beat = s.queued .beat := State.enqueue_of_takes (by rw [listening]; rfl)

/-- R129: the combined request leaves every flag as the two requests one after another. -/
theorem combine_flags (flags ps pc ns nc : BitVec 16) :
    (flags ||| ((ps &&& ~~~nc) ||| ns)) &&& ~~~((pc &&& ~~~ns) ||| nc) =
      (((flags ||| ps) &&& ~~~pc) ||| ns) &&& ~~~nc := by
  ext i hi
  simp only [BitVec.getElem_and, BitVec.getElem_or, BitVec.getElem_not]
  cases flags[i] <;> cases ps[i] <;> cases pc[i] <;> cases ns[i] <;> cases nc[i] <;> rfl

theorem combine_flags_disjoint {ps pc ns nc : BitVec 16} (pending : ps &&& pc = 0) (newer : ns &&& nc = 0) :
    ((ps &&& ~~~nc) ||| ns) &&& ((pc &&& ~~~ns) ||| nc) = 0 := by
  ext i hi
  have p := congrArg (fun w : BitVec 16 => w[i]) pending
  have n := congrArg (fun w : BitVec 16 => w[i]) newer
  simp only [BitVec.getElem_and, BitVec.ofNat_eq_ofNat, BitVec.getElem_zero] at p n
  simp only [BitVec.getElem_and, BitVec.getElem_or, BitVec.getElem_not, BitVec.ofNat_eq_ofNat, BitVec.getElem_zero]
  revert p n
  cases ps[i] <;> cases pc[i] <;> cases ns[i] <;> cases nc[i] <;> decide

/-! ### Bus and site timers -/

theorem ranOut_iff (t : Option Nat) : ranOut t = true ↔ t = some 0 := by simp [ranOut]

section timers

variable {s : State}

theorem State.expireBeat_of_due (due : s.bus.beatTimer = some 0) :
    s.expireBeat = if s.mu.station.active then
      { s with bus := { s.bus with beatTimer := none, outbound := insertOut .beat s.bus.outbound } }
    else { s with bus := { s.bus with beatTimer := none } } := by
  unfold State.expireBeat
  rw [if_pos ((ranOut_iff _).2 due)]
  dsimp only
  rw [State.setBus_mu]
  split
  · next active => exact State.enqueue_of_active active
  · rfl

theorem State.expireBeat_of_not_due (other : s.bus.beatTimer ≠ some 0) : s.expireBeat = s :=
  if_neg ((ranOut_iff _).not.2 other)

theorem State.expireSilence_of_due {a : Addr} {m : Member} (held : s.member a = some m) (due : m.silence = some 0) :
    s.expireSilence a = if s.mu.station.active = true ∧ a ≠ s.own then
      (s.modMember a fun m => { m with silence := none, silent := true }).queued (.drop a)
    else s.modMember a fun m => { m with silence := none, silent := true } := by
  have ran : (s.member a).any (fun m => ranOut m.silence) = true := by
    rw [held, Option.any_some, ranOut_iff]
    exact due
  unfold State.expireSilence
  rw [if_pos ran]
  dsimp only
  split
  · next active =>
    unfold State.queueDrop
    split
    · next own => rw [if_neg fun h => h.2 own]
    · next other => rw [if_pos ⟨active, other⟩, State.enqueue_of_active active]
  · next idle => rw [if_neg fun h => idle h.1]

theorem State.expireSilence_of_not_due {a : Addr} (none : ∀ m ∈ s.member a, m.silence ≠ some 0) : s.expireSilence a = s := by
  refine if_neg fun due => ?_
  obtain ⟨m, held, ran⟩ := (Option.any_eq_true _ _).1 due
  exact none m held ((ranOut_iff _).1 ran)

theorem State.expireListen_of_due (due : s.mu.listenWindow = some 0) (listening : s.mu.station = .listening) :
    s.expireListen = { s with
      mu := { s.mu with listenWindow := none }
      bus := { s.bus with outbound := insertOut .beat s.bus.outbound } } := by
  unfold State.expireListen
  rw [if_pos ((ranOut_iff _).2 due), State.enqueue_beat_of_listening]
  · rfl
  · exact listening

theorem State.expireListen_of_not_due (other : s.mu.listenWindow ≠ some 0) : s.expireListen = s :=
  if_neg ((ranOut_iff _).not.2 other)

theorem State.expireRoundTimer_of_due (due : s.hu.roundTimer = some 0) (opened : s.hu.round = .opened) :
    s.expireRoundTimer = (s.setHu { s.hu with
      round := .unconfirmed
      missing := s.hu.missing ||| (s.hu.ackSet &&& ~~~s.hu.ackedSet)
      roundTimer := none }).raise .haltUnconfirmed := by
  unfold State.expireRoundTimer State.expireRound
  rw [if_pos ((ranOut_iff _).2 due)]
  exact if_pos opened

theorem State.expireRoundTimer_of_not_due (other : s.hu.roundTimer ≠ some 0) : s.expireRoundTimer = s :=
  if_neg ((ranOut_iff _).not.2 other)

/-! ### Open timer and seconds -/

variable {c : Chan}

theorem State.expireOpen_of_due {set : ChannelSettings} (settings : (s.chan c).settings = some set)
    (due : (s.chan c).openTimer = some 0) (opening : (s.chan c).valve = .opening) :
    s.expireOpen c = s.setChan c { s.chan c with
      valve := .opened, openTimer := none, noFlowTimer := some (1000 * set.noFlowTime) } := by
  have load : (s.chan c).noFlowLoad = 1000 * set.noFlowTime := by
    unfold Channel.noFlowLoad
    rw [settings]
    rfl
  unfold State.expireOpen
  dsimp only
  rw [if_pos ⟨(ranOut_iff _).2 due, opening⟩, load]

theorem State.expireOpen_of_not_due (other : (s.chan c).openTimer ≠ some 0) : s.expireOpen c = s :=
  if_neg fun h => other ((ranOut_iff _).1 h.1)

theorem Channel.secondDue_iff (ch : Channel) : ch.secondDue = true ↔ 1000 ≤ ch.accumulator := decide_eq_true_iff

theorem State.riseOpenSeconds_of_not_due (not : (s.chan c).valve.driven = false ∨ (s.chan c).accumulator < 1000) :
    s.riseOpenSeconds c = s := by
  refine if_neg fun h => ?_
  obtain ⟨drives, due⟩ := h
  rw [Channel.secondDue_iff] at due
  rcases not with still | below
  · rw [still] at drives
    cases drives
  · omega

/-- R109: the rise of the head's open seconds, before the test of its limit. -/
def State.secondTaken (s : State) (c : Chan) (h : Nat) : State :=
  (s.setChan c { s.chan c with accumulator := 0 }).modRun h creditSecond

theorem State.head_setChan (s : State) (c d : Chan) (ch : Channel) : (s.setChan d ch).head c = s.head c := rfl

theorem State.riseOpenSeconds_of_due {r : Run} (drives : (s.chan c).valve.driven = true)
    (due : 1000 ≤ (s.chan c).accumulator) (head : s.head c = some r) :
    s.riseOpenSeconds c = if (creditSecond r).limitReached then
        ((s.secondTaken c r.handle).endRun r.handle .timeLimit).conclude
      else s.secondTaken c r.handle := by
  unfold State.riseOpenSeconds
  dsimp only
  rw [if_pos ⟨drives, (Channel.secondDue_iff _).2 due⟩, State.head_setChan, head]
  rfl

theorem Run.limitReached_iff (r : Run) : r.limitReached = true ↔ ∃ m ∈ r.timeLimit, m * 60 ≤ r.openSeconds := by
  simp [Run.limitReached, Option.any_eq_true]

theorem State.riseStationSeconds_of_due (due : 1000 ≤ s.clock.millis) :
    s.riseStationSeconds = s.setClock ⟨s.clock.seconds + 1, 0⟩ := if_pos due

theorem State.riseStationSeconds_of_not_due (below : s.clock.millis < 1000) : s.riseStationSeconds = s :=
  if_neg (Nat.not_le.2 below)

end timers

/-! ### Field pins -/

theorem getLsbD_withBit (m : BitVec 8) (c d : Chan) (level : Bool) :
    (withBit m c level).getLsbD d.val = if d = c then level else m.getLsbD d.val := by
  have here := d.isLt
  by_cases same : d = c
  · subst same
    cases level <;> simp [withBit, here]
  · have apart : ¬ d.val = c.val := fun e => same (Fin.ext e)
    cases level <;> simp [withBit, here, same, apart]

section pins

variable {s : State}

theorem State.whenReleased_of_low {s : State} (f : State → State) (low : s.inReset = true) : s.whenReleased f = s :=
  if_pos low

theorem State.moveMtr_of_same {c : Chan} {high : Bool} (same : s.mtrPin c = high) : s.moveMtr c high = s := if_pos same

theorem State.moveMtr_of_other {c : Chan} {high : Bool} (other : s.mtrPin c ≠ high) : s.moveMtr c high =
    { s with
      pins := { s.pins with mtr := withBit s.pins.mtr c high }
      chans := if s.inReset then s.chans else s.chans.set c.val { s.chan c with mtrHeld := 0 } } := by
  unfold State.moveMtr State.whenReleased
  rw [if_neg other, State.setPins_inReset]
  split <;> rfl

theorem State.moveVsw_of_same {c : Chan} {asserted : Bool} (same : s.vswPin c = asserted) : s.moveVsw c asserted = s :=
  if_pos same

theorem State.moveVsw_of_other {c : Chan} {asserted : Bool} (other : s.vswPin c ≠ asserted) : s.moveVsw c asserted =
    { s with
      pins := { s.pins with vsw := withBit s.pins.vsw c asserted }
      chans := if s.inReset then s.chans else s.chans.set c.val { s.chan c with vswHeld := 0 } } := by
  unfold State.moveVsw State.whenReleased
  rw [if_neg other, State.setPins_inReset]
  split <;> rfl

theorem State.movePloss_of_same {asserted : Bool} (same : s.pins.ploss = asserted) : s.movePloss asserted = s := if_pos same

theorem State.movePloss_of_other {asserted : Bool} (other : s.pins.ploss ≠ asserted) : s.movePloss asserted =
    { s with
      pins := { s.pins with ploss := asserted }
      hu := { s.hu with plossHeld := if s.inReset then s.hu.plossHeld else 0 } } := by
  unfold State.movePloss State.whenReleased
  rw [if_neg other, State.setPins_inReset]
  split <;> rfl

theorem exec_endSwitch_of_not_due {c : Chan} {level : Bool} (other : s.switchDue c level = false) :
    exec (if level then .endSwitchAssertion c else .endSwitchDeassertion c) s = .next (s.moveVsw c level) := by
  cases level <;> exact congrArg Host.Outcome.next (if_neg (by rw [other]; exact Bool.false_ne_true))

theorem State.plossEdgeDue_eq_false {level : Bool}
    (not : s.plossReady level = false ∨ s.hu.plossTaken = false ∨ s.hu.ploss = level) : s.plossEdgeDue level = false := by
  unfold State.plossEdgeDue
  rcases not with e | e | e <;> simp [e]

theorem exec_plossEdge_of_not_due {level : Bool} (other : s.plossEdgeDue level = false) :
    exec (if level then .plossFallingEdge else .plossRisingEdge) s = .next (s.movePloss level) := by
  cases level <;> exact congrArg Host.Outcome.next (if_neg (by rw [other]; exact Bool.false_ne_true))

theorem State.plossReady_iff (asserted : Bool) :
    s.plossReady asserted = true ↔ s.straps.ple = true ∧ s.hu.plossDue = some asserted := by
  simp [State.plossReady]

theorem State.plossEdgeDue_of {level : Bool} (ready : s.plossReady level = true) (taken : s.hu.plossTaken = true)
    (other : s.hu.ploss = !level) : s.plossEdgeDue level = true := by
  simp [State.plossEdgeDue, ready, taken, other]

theorem State.plossAtRelease_of_not {asserted : Bool} (not : s.plossReady asserted = false ∨ s.hu.plossTaken = true) :
    s.plossAtRelease asserted = s := by
  refine if_neg ?_
  rcases not with e | e <;> simp [e]

theorem State.meterPulse_of_not_due {c : Chan} (other : s.pulseDue c = false) : s.meterPulse c = s := by
  unfold State.meterPulse
  split
  · exact if_neg (by rw [other]; exact Bool.false_ne_true)
  · rfl

end pins

/-! ### Reset -/

section reset

variable {s : State} (low : s.inReset = true)
include low

/-- R202: while RST# is low nothing but a movement of a pin is recorded. -/
theorem exec_of_low (i : Instr) (reset : i ≠ .reset) (release : ∀ q, i ≠ .resetRelease q) (pin : i.movesPin = false) :
    exec i s = .next s := by
  have still : ∀ f, (Host.Outcome.next (s.whenReleased f) : Host.Outcome State Fault Refusal) = .next s :=
    fun f => congrArg _ (State.whenReleased_of_low f low)
  cases i with
  | reset => exact absurd rfl reset
  | resetRelease p => exact absurd rfl (release p)
  | meterPulse e =>
    cases e with
    | falls c => cases pin
    | rises c => cases pin
    | taken c => exact still _
  | endSwitchAssertion c => cases pin
  | endSwitchDeassertion c => cases pin
  | plossFallingEdge => cases pin
  | plossRisingEdge => cases pin
  | _ => exact still _

theorem State.moveMtr_of_low (c : Chan) (high : Bool) : ∃ q, s.moveMtr c high = { s with pins := q } := by
  by_cases same : s.mtrPin c = high
  · exact ⟨s.pins, State.moveMtr_of_same same⟩
  · refine ⟨{ s.pins with mtr := withBit s.pins.mtr c high }, (State.moveMtr_of_other same).trans ?_⟩
    rw [low]
    rfl

theorem State.moveVsw_of_low (c : Chan) (asserted : Bool) : ∃ q, s.moveVsw c asserted = { s with pins := q } := by
  by_cases same : s.vswPin c = asserted
  · exact ⟨s.pins, State.moveVsw_of_same same⟩
  · refine ⟨{ s.pins with vsw := withBit s.pins.vsw c asserted }, (State.moveVsw_of_other same).trans ?_⟩
    rw [low]
    rfl

theorem State.movePloss_of_low (asserted : Bool) : ∃ q, s.movePloss asserted = { s with pins := q } := by
  by_cases same : s.pins.ploss = asserted
  · exact ⟨s.pins, State.movePloss_of_same same⟩
  · refine ⟨{ s.pins with ploss := asserted }, (State.movePloss_of_other same).trans ?_⟩
    rw [low]
    rfl

/-- A row that takes a level or moves a pin, while RST# is low. -/
theorem takes_or_moves_of_low (due : Bool) (f : State → State) {t : State} (moves : ∃ q, t = { s with pins := q }) :
    ∃ q, (Host.Outcome.next (if due then s.whenReleased f else t) : Host.Outcome State Fault Refusal) =
      .next { s with pins := q } := by
  obtain ⟨q, moved⟩ := moves
  cases due
  · exact ⟨q, congrArg _ moved⟩
  · exact ⟨s.pins, congrArg _ (State.whenReleased_of_low f low)⟩

theorem exec_of_low_of_movesPin (i : Instr) (pin : i.movesPin = true) : ∃ q, exec i s = .next { s with pins := q } := by
  cases i with
  | meterPulse e =>
    cases e with
    | falls c =>
      obtain ⟨q, moved⟩ := State.moveMtr_of_low low c false
      exact ⟨q, congrArg _ moved⟩
    | rises c =>
      obtain ⟨q, moved⟩ := State.moveMtr_of_low low c true
      exact ⟨q, congrArg _ moved⟩
    | taken c => cases pin
  | endSwitchAssertion c => exact takes_or_moves_of_low low _ _ (State.moveVsw_of_low low c true)
  | endSwitchDeassertion c => exact takes_or_moves_of_low low _ _ (State.moveVsw_of_low low c false)
  | plossFallingEdge => exact takes_or_moves_of_low low _ _ (State.movePloss_of_low low true)
  | plossRisingEdge => exact takes_or_moves_of_low low _ _ (State.movePloss_of_low low false)
  | _ => cases pin

theorem State.vdrv_of_low (c : Chan) : s.vdrv c = false := by simp [State.vdrv, low]
theorem State.attn0Low_of_low : s.attn0Low = false := by simp [State.attn0Low, low]
theorem State.attn1Low_of_low : s.attn1Low = false := by simp [State.attn1Low, low]
theorem State.sbtx_of_low (n : Nat) : s.sbtx n = true := by simp [State.sbtx, low]
theorem State.dataOut_of_low (b : Bool) (q : PortPins) : s.dataOut b q = none := by simp [State.dataOut, low]

theorem step_of_low (empty : s.pending = []) : step s = .next s := by
  unfold step
  rw [empty]
  exact congrArg _ (State.whenReleased_of_low _ low)

end reset

end Sys2Proof.Machine
end

section
/-!
SUPPORT. The statements on reset, the outbound set, timers and pins.
-/

namespace Sys2Proof

open Sys2Proof.Machine

/-- Settles O3: what RESET leaves, and what each row does while RST# is low. -/
theorem resetHoldsAndReleases : Obligations.ResetHoldsAndReleases := by
  intro s i p
  refine ⟨⟨_, rfl, rfl, rfl, rfl, rfl, rfl, rfl, rfl, rfl, rfl, rfl, fun c => ?_, rfl, rfl, rfl, rfl⟩, fun low => ?_,
    fun high => congrArg _ (if_neg (by rw [high]; exact Bool.false_ne_true))⟩
  · exact Vector.getElem_replicate c.isLt
  · exact ⟨congrArg _ (if_pos low), exec_of_low low i, exec_of_low_of_movesPin low i, step_of_low low,
      State.vdrv_of_low low, State.attn0Low_of_low low, State.attn1Low_of_low low, State.sbtx_of_low low,
      State.dataOut_of_low low⟩

/-- Settles O50: the key, the states that take a frame, the place and the combination. -/
theorem outboundSetCombines : Obligations.OutboundSetCombines := by
  intro s f g older newer
  refine ⟨f.sameKey_iff g, fun takes => ?_, State.enqueue_of_not_takes,
    fun new => ⟨insertOut_of_new new, insertOut_of_pending new⟩, fun _ _ _ => rfl, fun _ _ => rfl, fun _ _ => rfl,
    fun _ _ => rfl, fun _ _ => rfl, rfl, fun _ => rfl, rfl, rfl, fun flags ps pc ns nc pending newer => ?_⟩
  · rcases takes with active | ⟨listening, rfl⟩
    · exact State.enqueue_of_active active
    · exact State.enqueue_beat_of_listening listening
  · exact ⟨_, _, rfl, combine_flags_disjoint pending newer, combine_flags flags ps pc ns nc⟩

/-- Settles O37: each timer, due or not. -/
theorem busAndRoundTimersExpire : Obligations.BusAndRoundTimersExpire := by
  intro s a m released
  have beat : exec .beatTimerExpiry s = .next s.expireBeat := congrArg _ (State.whenReleased_of_released _ released)
  have silence : exec (.silenceExpiry a) s = .next (s.expireSilence a) :=
    congrArg _ (State.whenReleased_of_released (fun s => s.expireSilence a) released)
  have listen : exec .listenWindowExpiry s = .next s.expireListen := congrArg _ (State.whenReleased_of_released _ released)
  have round : exec .roundTimerExpiry s = .next s.expireRoundTimer := congrArg _ (State.whenReleased_of_released _ released)
  rw [beat, silence, listen, round]
  refine ⟨fun due => ?_, fun other => congrArg _ (State.expireBeat_of_not_due other), fun held due => ⟨_, rfl, ?_⟩,
    fun none => congrArg _ (State.expireSilence_of_not_due none),
    fun due listening => congrArg _ (State.expireListen_of_due due listening),
    fun other => congrArg _ (State.expireListen_of_not_due other), fun due opened => ⟨_, rfl, ?_⟩,
    fun other => congrArg _ (State.expireRoundTimer_of_not_due other)⟩
  · rw [State.expireBeat_of_due due]
    exact ⟨fun active => by rw [if_pos active], fun idle => by rw [if_neg (by rw [idle]; exact Bool.false_ne_true)]⟩
  · have here : (s.modMember a fun m => { m with silence := none, silent := true }).member a =
        some { m with silence := none, silent := true } := by
      rw [State.member_modMember, if_pos rfl, held]
      rfl
    have elsewhere : ∀ b : Addr, b ≠ a →
        (s.modMember a fun m => { m with silence := none, silent := true }).member b = s.member b :=
      fun b other => by rw [State.member_modMember, if_neg fun e => other e.symm]
    rw [State.expireSilence_of_due held due]
    split
    · exact ⟨here, rfl, rfl, rfl, rfl, rfl, elsewhere⟩
    · exact ⟨here, rfl, rfl, rfl, rfl, rfl, elsewhere⟩
  · rw [State.expireRoundTimer_of_due due opened]
    exact ⟨State.hasEvent_raise_same _ _, rfl, rfl, rfl, rfl, rfl, rfl, rfl⟩

/-- Settles O38: each row, due or not. -/
theorem openTimerAndSeconds : Obligations.OpenTimerAndSeconds := by
  intro s c set r released
  have opens : exec (.openTimerExpiry c) s = .next (s.expireOpen c) :=
    congrArg _ (State.whenReleased_of_released (fun s => s.expireOpen c) released)
  have second : exec (.openSecondsTick c) s = .next (s.riseOpenSeconds c) :=
    congrArg _ (State.whenReleased_of_released (fun s => s.riseOpenSeconds c) released)
  have station : exec .stationSecondsTick s = .next s.riseStationSeconds :=
    congrArg _ (State.whenReleased_of_released _ released)
  rw [opens, second, station]
  refine ⟨fun settings due opening => congrArg _ (State.expireOpen_of_due settings due opening),
    fun other => congrArg _ (State.expireOpen_of_not_due other), fun drives due head below => ?_,
    fun not => congrArg _ (State.riseOpenSeconds_of_not_due not), fun due => congrArg _ (State.riseStationSeconds_of_due due),
    fun below => congrArg _ (State.riseStationSeconds_of_not_due below)⟩
  have limit : ¬ (creditSecond r).limitReached = true := by
    rw [Run.limitReached_iff]
    rintro ⟨m, held, reached⟩
    have := below m held
    have seconds : (creditSecond r).openSeconds = min 65535 (r.openSeconds + 1) := rfl
    omega
  rw [State.riseOpenSeconds_of_due drives due head, if_neg limit]
  rfl

/-- Settles O41: a movement of a pin, and a row that is not due. -/
theorem pinsMoveAndHold : Obligations.PinsMoveAndHold := by
  intro s c level
  refine ⟨?_, fun other moved => ?_, fun other same => ?_, fun not => ?_, fun other => ?_, fun not => ?_⟩
  · have moves : exec (.meterPulse (if level then .rises c else .falls c)) s = .next (s.moveMtr c level) := by
      cases level <;> rfl
    rw [moves]
    refine ⟨_, rfl, ?_⟩
    by_cases same : s.mtrPin c = level
    · rw [State.moveMtr_of_same same]
      exact ⟨same, fun d _ => ⟨rfl, rfl⟩, rfl, rfl, rfl, by simp [same]⟩
    · rw [State.moveMtr_of_other same]
      refine ⟨?_, fun d other => ⟨?_, ?_⟩, rfl, rfl, rfl, ?_⟩
      · exact (getLsbD_withBit _ _ _ _).trans (if_pos rfl)
      · exact (getLsbD_withBit _ _ _ _).trans (if_neg other)
      · cases s.inReset
        · exact State.chan_setChan_ne s _ fun e => other e.symm
        · rfl
      · cases s.inReset
        · exact (State.chan_setChan_same s c _).trans (by simp [same])
        · exact Eq.symm (by simp; rfl)
  · rw [exec_endSwitch_of_not_due other, State.moveVsw_of_other moved]
    refine ⟨_, rfl, ?_, fun d there => ⟨?_, ?_⟩, rfl, rfl, rfl, ?_⟩
    · exact (getLsbD_withBit _ _ _ _).trans (if_pos rfl)
    · exact (getLsbD_withBit _ _ _ _).trans (if_neg there)
    · cases s.inReset
      · exact State.chan_setChan_ne s _ fun e => there e.symm
      · rfl
    · cases s.inReset
      · exact State.chan_setChan_same s c _
      · rfl
  · rw [exec_endSwitch_of_not_due other, State.moveVsw_of_same same]
  · rw [exec_plossEdge_of_not_due (State.plossEdgeDue_eq_false not)]
    exact ⟨fun moved => congrArg _ (State.movePloss_of_other moved), fun same => congrArg _ (State.movePloss_of_same same)⟩
  · refine congrArg Host.Outcome.next ?_
    cases low : s.inReset
    · exact (State.whenReleased_of_released _ low).trans (State.meterPulse_of_not_due other)
    · exact State.whenReleased_of_low _ low
  · refine congrArg Host.Outcome.next ?_
    cases low : s.inReset
    · exact (State.whenReleased_of_released _ low).trans (State.plossAtRelease_of_not not)
    · exact State.whenReleased_of_low _ low

/-- Settles O44: a level that is due is taken, as the first one or as an edge. -/
theorem pressureLossTaken : Obligations.PressureLossTaken := by
  intro s asserted released
  have falls : s.plossEdgeDue true = true → exec .plossFallingEdge s = .next s.plossFalls := fun due =>
    congrArg _ ((if_pos due).trans (State.whenReleased_of_released _ released))
  have rises : s.plossEdgeDue false = true → exec .plossRisingEdge s = .next s.plossRises := fun due =>
    congrArg _ ((if_pos due).trans (State.whenReleased_of_released _ released))
  have release : exec (.plossLevelAtResetRelease asserted) s = .next (s.plossAtRelease asserted) :=
    congrArg _ (State.whenReleased_of_released (fun s => s.plossAtRelease asserted) released)
  refine ⟨s.plossReady_iff asserted, s.pressureLost_iff, fun ready taken off active => ?_, fun ready taken off idle => ?_,
    fun ready taken on => ?_, fun ready taken => ?_, fun ple pin => ?_⟩
  · have due := State.plossEdgeDue_of ready taken off
    have took : s.takePloss true = { s with hu := { s.hu with ploss := true, plossDue := none } } := by
      rw [State.takePloss, taken.symm]
      rfl
    rw [falls due, State.plossFalls, if_pos due]
    dsimp only
    rw [took, if_pos active]
    exact congrArg _ (State.enqueue_of_active active)
  · have due := State.plossEdgeDue_of ready taken off
    have took : s.takePloss true = { s with hu := { s.hu with ploss := true, plossDue := none } } := by
      rw [State.takePloss, taken.symm]
      rfl
    rw [falls due, State.plossFalls, if_pos due]
    dsimp only
    rw [took, if_neg (by rw [idle]; exact Bool.false_ne_true)]
  · have due := State.plossEdgeDue_of ready taken on
    rw [rises due, State.plossRises, if_pos due, State.takePloss, taken.symm]
    rfl
  · rw [release, State.plossAtRelease, if_pos (by simp [ready, taken])]
    rfl
  · have off : ∀ b, s.plossReady b = false := fun b => by simp [State.plossReady, ple]
    rw [exec_plossEdge_of_not_due (State.plossEdgeDue_eq_false (.inl (off asserted))), State.movePloss_of_same pin, release,
      State.plossAtRelease_of_not (.inl (off asserted))]
    exact ⟨rfl, rfl⟩

end Sys2Proof
end

section
/-!
SUPPORT. One millisecond (log 4): with nothing due, a step on an empty queue only counts.
-/

namespace Sys2Proof.Machine

section quiet

variable {s : State}

theorem State.assertSwitch_of_not_due {c : Chan} (other : s.switchDue c true = false) : s.assertSwitch c = s :=
  if_neg (by rw [other]; exact Bool.false_ne_true)

theorem State.deassertSwitch_of_not_due {c : Chan} (other : s.switchDue c false = false) : s.deassertSwitch c = s :=
  if_neg (by rw [other]; exact Bool.false_ne_true)

theorem State.expireClose_of_not_due {c : Chan} (other : (s.chan c).closeTimer ≠ some 0) : s.expireClose c = s :=
  if_neg fun h => other ((ranOut_iff _).1 h.1)

theorem State.expireNoFlow_of_not_due {c : Chan} (other : (s.chan c).noFlowTimer ≠ some 0) : s.expireNoFlow c = s :=
  if_neg fun h => other ((ranOut_iff _).1 h.1)

theorem State.runWaiting_of_idle (idle : s.port.state ≠ .executing) : s.runWaiting = s := if_neg idle

/-- What is due at a channel that has nothing due. -/
structure State.ChanQuiet (s : State) (c : Chan) : Prop where
  accumulator : (s.chan c).valve.driven = true → (s.chan c).accumulator < 1000
  timers : ∀ t ∈ [(s.chan c).openTimer, (s.chan c).closeTimer, (s.chan c).noFlowTimer], t ≠ some 0
  inputs : (s.chan c).present = true → s.pulseDue c = false ∧ s.switchDue c true = false ∧ s.switchDue c false = false

theorem State.inputs_of_absent {c : Chan} (absent : (s.chan c).present = false) :
    s.pulseDue c = false ∧ s.switchDue c true = false ∧ s.switchDue c false = false := by
  simp [State.pulseDue, State.switchDue, absent]

theorem State.channelDue_of_quiet {c : Chan} (quiet : s.ChanQuiet c) : s.channelDue c = s := by
  obtain ⟨pulse, asserted, deasserted⟩ : s.pulseDue c = false ∧ s.switchDue c true = false ∧ s.switchDue c false = false := by
    cases present : (s.chan c).present with
    | true => exact quiet.inputs present
    | false => exact State.inputs_of_absent present
  have second : (s.chan c).valve.driven = false ∨ (s.chan c).accumulator < 1000 := by
    cases drives : (s.chan c).valve.driven with
    | true => exact .inr (quiet.accumulator drives)
    | false => exact .inl rfl
  unfold State.channelDue
  rw [State.assertSwitch_of_not_due asserted, State.deassertSwitch_of_not_due deasserted, State.meterPulse_of_not_due pulse,
    State.riseOpenSeconds_of_not_due second, State.expireOpen_of_not_due (quiet.timers _ (by simp)),
    State.expireClose_of_not_due (quiet.timers _ (by simp)), State.expireNoFlow_of_not_due (quiet.timers _ (by simp))]

theorem State.takePlossDue_of_quiet (quiet : ∀ b : Bool, s.plossReady b = false) : s.takePlossDue = s := by
  have falls : s.plossFalls = s := if_neg (by rw [State.plossEdgeDue_eq_false (.inl (quiet true))]; exact Bool.false_ne_true)
  have rises : s.plossRises = s := if_neg (by rw [State.plossEdgeDue_eq_false (.inl (quiet false))]; exact Bool.false_ne_true)
  unfold State.takePlossDue
  rw [State.plossAtRelease_of_not (.inl (quiet true)), State.plossAtRelease_of_not (.inl (quiet false)), falls, rises]

/-- A fold of steps that change nothing. -/
theorem foldl_of_still {α β : Type} (op : β → α → β) (b : β) (xs : List α) (still : ∀ x, op b x = b) : xs.foldl op b = b := by
  induction xs with
  | nil => rfl
  | cons x xs ih => rw [List.foldl_cons, still x, ih]

theorem State.takeDue_of_quiet (seconds : s.clock.millis < 1000) (channels : ∀ c, s.ChanQuiet c)
    (timers : ∀ t ∈ [s.bus.beatTimer, s.mu.listenWindow, s.hu.roundTimer], t ≠ some 0)
    (silences : ∀ a : Addr, ∀ m ∈ s.member a, m.silence ≠ some 0) (ploss : ∀ b : Bool, s.plossReady b = false) :
    s.takeDue = s := by
  unfold State.takeDue
  dsimp only
  rw [State.riseStationSeconds_of_not_due seconds, State.takePlossDue_of_quiet ploss,
    foldl_of_still _ _ _ fun c => State.channelDue_of_quiet (channels c),
    State.expireBeat_of_not_due (timers _ (by simp)),
    foldl_of_still _ _ _ fun a => State.expireSilence_of_not_due (silences a),
    State.expireListen_of_not_due (timers _ (by simp)), State.expireRoundTimer_of_not_due (timers _ (by simp))]

end quiet

/-! ### The count -/

theorem State.countHalt_eq (s : State) : s.countHalt = { s.hu with
    roundTimer := s.hu.roundTimer.map fun n => n - 1
    plossHeld := if s.straps.ple then min 20 (s.hu.plossHeld + 1) else s.hu.plossHeld
    plossDue :=
      if s.straps.ple = true ∧ 19 ≤ s.hu.plossHeld ∧ (s.hu.plossTaken = false ∨ s.hu.ploss ≠ s.pins.ploss) then
        some s.pins.ploss
      else s.hu.plossDue } := by
  have full : min 20 (s.hu.plossHeld + 1) = 20 ↔ 19 ≤ s.hu.plossHeld := by omega
  unfold State.countHalt
  dsimp only
  cases s.straps.ple with
  | false =>
    simp
    rfl
  | true =>
    simp only [HaltUnit.samplePloss, if_true, full, true_and]
    rfl

theorem Channel.sampleMtr_eq (ch : Channel) (high : Bool) : ch.sampleMtr high = { ch with
    mtrHeld := min 2 (ch.mtrHeld + 1)
    mtrLow := if 1 ≤ ch.mtrHeld then !high else ch.mtrLow
    mtrDue := ch.mtrDue || (decide (1 ≤ ch.mtrHeld) && high && ch.mtrLow) } := by
  have full : min 2 (ch.mtrHeld + 1) = 2 ↔ 1 ≤ ch.mtrHeld := by omega
  unfold Channel.sampleMtr
  dsimp only
  simp only [full, decide_eq_true_eq]

theorem Channel.sampleVsw_eq (ch : Channel) (asserted : Bool) : ch.sampleVsw asserted = { ch with
    vswHeld := min 20 (ch.vswHeld + 1)
    vswDue := if 19 ≤ ch.vswHeld ∧ ch.vsw ≠ some asserted then some asserted else ch.vswDue } := by
  have full : min 20 (ch.vswHeld + 1) = 20 ↔ 19 ≤ ch.vswHeld := by omega
  unfold Channel.sampleVsw
  dsimp only
  simp only [full]

theorem State.countChan_eq (s : State) (c : Chan) : s.countChan c = { s.chan c with
    openTimer := (s.chan c).openTimer.map fun n => n - 1
    closeTimer := (s.chan c).closeTimer.map fun n => n - 1
    noFlowTimer := (s.chan c).noFlowTimer.map fun n => n - 1
    accumulator := if (s.chan c).valve.driven then (s.chan c).accumulator + 1 else (s.chan c).accumulator
    mtrHeld := if (s.chan c).present then min 2 ((s.chan c).mtrHeld + 1) else (s.chan c).mtrHeld
    mtrLow :=
      if (s.chan c).present = true ∧ 1 ≤ (s.chan c).mtrHeld then !s.pins.mtr.getLsbD c.val else (s.chan c).mtrLow
    mtrDue := (s.chan c).mtrDue || ((s.chan c).present && decide (1 ≤ (s.chan c).mtrHeld) &&
      s.pins.mtr.getLsbD c.val && (s.chan c).mtrLow)
    vswHeld := if (s.chan c).present then min 20 ((s.chan c).vswHeld + 1) else (s.chan c).vswHeld
    vswDue :=
      if (s.chan c).present = true ∧ 19 ≤ (s.chan c).vswHeld ∧
          (s.chan c).vsw ≠ some (s.pins.vsw.getLsbD c.val) then
        some (s.pins.vsw.getLsbD c.val)
      else (s.chan c).vswDue } := by
  unfold State.countChan
  dsimp only
  have same : (s.chan c).count.present = (s.chan c).present := rfl
  rw [same]
  cases present : (s.chan c).present with
  | false =>
    simp
    rfl
  | true =>
    rw [if_pos rfl, Channel.sampleMtr_eq, Channel.sampleVsw_eq]
    simp only [true_and, if_true, Bool.true_and]
    rfl

theorem State.count_chan (s : State) (c : Chan) : s.count.chan c = s.countChan c := by
  unfold State.chan
  simp only [State.count, State.setClock_chans, State.setBus_chans, State.setHu_chans, State.setMu_chans,
    State.setChans_chans, Vector.getElem_ofFn]

theorem State.count_member (s : State) (a : Addr) : s.count.member a = (s.member a).map Member.count := by
  unfold State.member
  rw [s.count_mu]
  exact mapVec_get _ _ _ _

theorem State.count_hu (s : State) : s.count.hu = s.countHalt := by
  simp only [State.count, State.setClock_hu, State.setBus_hu, State.setHu_hu]

theorem State.count_parts (s : State) : s.count =
    { s with chans := s.count.chans, mu := s.count.mu, hu := s.count.hu, bus := s.count.bus, clock := s.count.clock } := by
  unfold State.count
  generalize Vector.ofFn s.countChan = chans
  generalize s.countHalt = hu
  rfl

theorem State.tick_of_quiet {s : State} (released : s.inReset = false) (idle : s.port.state ≠ .executing)
    (quiet : s.takeDue = s) : s.tick = s.count := by
  unfold State.tick
  rw [State.whenReleased_of_released _ released, State.runWaiting_of_idle idle, quiet]

end Sys2Proof.Machine
end

section
/-!
SUPPORT. The statement on a step with an empty queue.
-/

namespace Sys2Proof

open Sys2Proof.Machine

/-- Settles O2: nothing is taken, and the count is read off part by part. -/
theorem emptyQueueIsOneMillisecond : Obligations.EmptyQueueIsOneMillisecond := by
  intro s empty released idle seconds channels timers silences ploss
  have quiet := State.takeDue_of_quiet seconds (fun c => ⟨(channels c).1, (channels c).2.1, (channels c).2.2⟩) timers
    silences ploss
  refine ⟨s.count, ?_, ?_⟩
  · unfold step
    rw [empty]
    exact congrArg _ (State.tick_of_quiet released idle quiet)
  · have parts := s.count_parts
    have members : ∀ a : Addr, s.count.member a = (s.member a).map fun m => { m with silence := m.silence.map fun n => n - 1 } :=
      s.count_member
    have chans : ∀ c : Chan, s.count.chan c = _ := fun c => (s.count_chan c).trans (s.countChan_eq c)
    refine ⟨?_, s.count_bus, s.count_hu.trans s.countHalt_eq, ?_, members, chans, ?_, ?_, ?_, ?_⟩
    · simp only [State.count, State.setClock_clock]
    · rw [s.count_mu]
      rfl
    · rw [s.count_mu]
    · rw [s.count_mu]
    · rw [s.count_mu]
    · rw [parts]
      exact ⟨rfl, rfl, rfl, rfl, rfl, rfl, rfl, rfl, rfl, rfl, empty, released⟩

end Sys2Proof
end

section
/-!
SUPPORT. The responses byte by byte: decimal fields, numbers of sixteen bits, gauges, and the lists of READ_ROSTER and
READ_SITE (12.3–12.5).
-/

namespace Sys2Proof.Machine

/-! ### Numbers -/

theorem toNat_of_mapM_toDigit {xs : List (BitVec 4)} {ds : List Digit} (read : xs.mapM toDigit = some ds) :
    xs.map BitVec.toNat = ds.map Fin.val := by
  induction xs generalizing ds with
  | nil =>
    cases read
    rfl
  | cons x xs ih =>
    rw [List.mapM_cons, Option.bind_eq_bind, Option.bind_eq_some_iff] at read
    obtain ⟨d, digit, rest⟩ := read
    rw [Option.bind_eq_bind, Option.bind_eq_some_iff] at rest
    obtain ⟨es, more, whole⟩ := rest
    obtain rfl : d :: es = ds := Option.some.inj whole
    rw [List.map_cons, List.map_cons, ih more, toDigit_eq_some.1 digit]

theorem nibblesLow_decimalBytes {n : Nat} (d : Decimal n) : (nibblesLow (decimalBytes d)).map BitVec.toNat =
    d.digits.map Fin.val ++ (if n % 2 = 1 then [0] else []) := by
  rw [toNat_of_mapM_toDigit (mapM_nibblesLow_decimalBytes d)]
  unfold paddedDigits
  split
  · next odd => simp [odd]
  · next even => simp [Nat.mod_two_ne_one.1 even]

theorem byteOf_mod {n m k : Nat} (same : n % 256 = m % 256) (k_eq : k = n) : byteOf k = byteOf m := by
  subst k_eq
  refine BitVec.eq_of_toNat_eq ?_
  simpa [byteOf] using same

theorem bytes16_ofNat (n : Nat) : bytes16 (BitVec.ofNat 16 n) = [byteOf (n / 256), byteOf n] := by
  rw [bytes16_eq, BitVec.toNat_ofNat]
  refine congrArg₂ (fun a b => [a, b]) (byteOf_mod ?_ rfl) (byteOf_mod ?_ rfl) <;> omega

theorem toNat_append_nibble {w : Nat} (x : BitVec w) (y : BitVec 4) : (x ++ y).toNat = 16 * x.toNat + y.toNat := by
  rw [BitVec.toNat_append, ← Nat.shiftLeft_add_eq_or_of_lt y.isLt, Nat.shiftLeft_eq]
  omega

theorem toNat_digitNibble (d : Digit) : (BitVec.ofNat 4 d.val).toNat = d.val := by
  rw [BitVec.toNat_ofNat]
  omega

theorem Gauge.toNat_nibbles (g : Gauge) : g.nibbles.toNat = 256 * g.hundreds.val + 16 * g.tens.val + g.units.val := by
  unfold Gauge.nibbles
  rw [toNat_append_nibble, toNat_append_nibble, toNat_digitNibble, toNat_digitNibble, toNat_digitNibble]
  omega

/-- A nibble above the three digits of a gauge, in its two bytes. -/
theorem bytes16_gauge (p : BitVec 4) (g : Gauge) : bytes16 (p ++ g.nibbles : BitVec 16) =
    [byteOf (16 * p.toNat + g.hundreds.val), byteOf (16 * g.tens.val + g.units.val)] := by
  have value : (p ++ g.nibbles : BitVec 16).toNat = 4096 * p.toNat + g.nibbles.toNat := by
    rw [BitVec.toNat_append, ← Nat.shiftLeft_add_eq_or_of_lt g.nibbles.isLt, Nat.shiftLeft_eq]
    omega
  rw [bytes16_eq, value, g.toNat_nibbles]
  refine congrArg₂ (fun a b => [a, b]) (byteOf_mod ?_ rfl) (byteOf_mod ?_ rfl) <;> omega

theorem bitOf_eq (b : Bool) : bitOf b = if b then 1 else 0 := rfl

theorem setWidth_reasons (r : BitVec 4) : r.setWidth 8 = byteOf r.toNat := by
  refine BitVec.eq_of_toNat_eq ?_
  rw [BitVec.toNat_setWidth, byteOf, BitVec.toNat_ofNat]

theorem pointerBytes_eq (p : Vector Addr 4) :
    pointerBytes p = [byteOf (16 * p[0].val + p[1].val), byteOf (16 * p[2].val + p[3].val)] := by
  have pair : ∀ a b : Addr, (BitVec.ofNat 4 a.val ++ BitVec.ofNat 4 b.val : BitVec 8) = byteOf (16 * a.val + b.val) := by
    intro a b
    refine BitVec.eq_of_toNat_eq ?_
    rw [toNat_append_nibble, byteOf, BitVec.toNat_ofNat, BitVec.toNat_ofNat, BitVec.toNat_ofNat]
    omega
  unfold pointerBytes
  rw [pair, pair]

/-! ### The records -/

theorem recordBytes_eq (r : LogRecord) : recordBytes r =
    [byteOf r.handle, byteOf (r.tag.toNat / 256), byteOf r.tag.toNat, byteOf r.channel.val, byteOf r.level.val,
      byteOf r.result.code] ++ decimalBytes r.target ++ decimalBytes r.delivered ++
    [byteOf ((if r.saturated then 1 else 0) + if r.closeNotConfirmed then 2 else 0), byteOf r.preemptions,
      byteOf (r.openSeconds / 256), byteOf r.openSeconds] ++ bytes32 r.submitTime ++ bytes32 r.endTime := by
  unfold recordBytes
  rw [bytes16_eq r.tag, bytes16_ofNat, bitOf_eq, bitOf_eq, mul_ite]
  simp only [List.append_assoc, List.cons_append, List.nil_append, Nat.mul_one, Nat.mul_zero]

theorem gateBytes_eq (g : Option Gate) : gateBytes g =
    match g with
    | none => [0, 0, 0, 0]
    | some (.flagSet n) => [0x10, byteOf n.val, 0, 0]
    | some (.flagClear n) => [0x20, byteOf n.val, 0, 0]
    | some (.gauge a cmp v) => [byteOf (0x30 + cmp.code), byteOf a.val, byteOf v.hundreds.val,
        byteOf (16 * v.tens.val + v.units.val)]
    | some (.after h) => [0x40, byteOf h, 0, 0] := by
  match g with
  | none => rfl
  | some (.flagSet n) => rfl
  | some (.flagClear n) => rfl
  | some (.gauge a cmp v) =>
    show [byteOf (0x30 + cmp.code), byteOf a.val] ++ bytes16 (0#4 ++ v.nibbles : BitVec 16) = _
    rw [bytes16_gauge]
    simp
  | some (.after h) => rfl

theorem memberBytes_eq (a : Addr) (m : Member) : memberBytes a m =
    [byteOf a.val, byteOf m.weight, byteOf m.cap, byteOf m.capacity] ++
      (match m.gauge with
        | none => [0, 0]
        | some g => [byteOf (16 + g.hundreds.val), byteOf (16 * g.tens.val + g.units.val)]) ++
      [byteOf m.lastSeq.val] ++ bytes32 m.heard ++ [if m.stale then 1 else 0] := by
  have gauge : gaugeBytes m.gauge = (match m.gauge with
        | none => [0, 0]
        | some g => [byteOf (16 + g.hundreds.val), byteOf (16 * g.tens.val + g.units.val)]) := by
    cases m.gauge with
    | none => rfl
    | some g => exact bytes16_gauge 1#4 g
  unfold memberBytes
  rw [gauge, byteOf_bitOf]

theorem runBytes_eq (r : Run) : runBytes r =
    [byteOf (r.tag.toNat / 256), byteOf r.tag.toNat, byteOf r.channel.val, byteOf r.level.val, byteOf r.demand] ++
    decimalBytes r.target ++ decimalBytes r.delivered ++
    [byteOf r.preemptions, byteOf (r.openSeconds / 256), byteOf r.openSeconds] ++ bytes32 r.submitTime ++
    gateBytes r.gate ++
    [(r.stopFlag.elim 0xFF fun n => byteOf n.val), byteOf (r.timeLimit.getD 0 / 256), byteOf (r.timeLimit.getD 0),
      byteOf r.handle, byteOf r.state.code, byteOf r.state.purposeCode, byteOf (endResultCode r.endResult),
      byteOf ((if r.saturated then 1 else 0) + if r.gateSatisfied then 2 else 0)] := by
  unfold runBytes conditionBytes
  rw [bytes16_eq r.tag, bytes16_ofNat, bytes16_ofNat, bitOf_eq, bitOf_eq, mul_ite]
  simp only [List.append_assoc, List.cons_append, List.nil_append, Nat.mul_one, Nat.mul_zero]

theorem settingsBytes_eq (settings : Option ChannelSettings) : settingsBytes settings =
    match settings with
    | none => [0, 0, 0, 0, 0, 0, 0, 0, 0, 0]
    | some v => [1] ++ decimalBytes v.quantum ++ [byteOf v.openTime, byteOf v.closeTime,
        if v.endSwitch then 1 else 0] ++ decimalBytes v.leakLimit ++ [byteOf v.noFlowTime] := by
  cases settings with
  | none => rfl
  | some v =>
    show [1] ++ decimalBytes v.quantum ++ [byteOf v.openTime, byteOf v.closeTime, byteOf (bitOf v.endSwitch)] ++
      decimalBytes v.leakLimit ++ [byteOf v.noFlowTime] = _
    rw [byteOf_bitOf]

theorem announcedBytes_eq (a : Announced) : announcedBytes a =
    match a with
    | .live k => [byteOf k.phase.code, byteOf k.level.val, byteOf k.demand]
    | .gone (some l) => [0, byteOf l.val, 0]
    | .gone none => [0, 0, 0] := by
  match a with
  | .live k => rfl
  | .gone (some l) => rfl
  | .gone none => rfl

theorem Channel.drive_bits (ch : Channel) : bitOf ch.valve.driven + 2 * bitOf (ch.vsw == some true) + 4 * bitOf ch.wrapped =
    (if ch.valve = .opening ∨ ch.valve = .opened then 1 else 0) + (if ch.vsw = some true then 2 else 0) +
      if ch.wrapped then 4 else 0 := by
  simp only [bitOf_eq, Valve.driven_iff, beq_iff_eq, mul_ite, Nat.mul_one, Nat.mul_zero]

theorem Faults.code_eq (f : Faults) :
    f.code = (if f.leak then 1 else 0) + (if f.dry then 2 else 0) + if f.stuck then 4 else 0 := by
  simp only [Faults.code, bitOf_eq, mul_ite, Nat.mul_one, Nat.mul_zero]

theorem State.channelBytes_eq (s : State) (c : Chan) : s.channelBytes c =
    settingsBytes (s.chan c).settings ++
    [byteOf (s.chan c).valve.code,
      byteOf ((if (s.chan c).valve = .opening ∨ (s.chan c).valve = .opened then 1 else 0) +
        (if (s.chan c).vsw = some true then 2 else 0) + if (s.chan c).wrapped then 4 else 0),
      byteOf ((if (s.chan c).faults.leak then 1 else 0) + (if (s.chan c).faults.dry then 2 else 0) +
        if (s.chan c).faults.stuck then 4 else 0)] ++ stuckBytes (s.chan c) ++
    [((if (s.chan c).present then s.head c else none).elim 0 fun r => byteOf r.handle),
      ((s.attributed c).elim 0 fun r => byteOf r.handle)] ++ announcedBytes (s.chan c).announced ++
    decimalBytes (s.chan c).totalizer ++ decimalBytes (s.chan c).unattributed := by
  unfold State.channelBytes
  dsimp only
  rw [Channel.drive_bits, Faults.code_eq]
  rfl

/-! ### Sets of addresses -/

theorem inSet_insertAddr (m : BitVec 16) (a b : Addr) : inSet (insertAddr m a) b = (inSet m b || decide (b = a)) := by
  unfold inSet insertAddr
  rw [BitVec.getLsbD_or, BitVec.getLsbD_twoPow]
  refine congrArg _ (Bool.eq_iff_iff.2 ?_)
  simp only [decide_eq_true_eq, Bool.and_eq_true]
  exact ⟨fun ⟨_, same⟩ => Fin.ext same.symm, fun same => ⟨a.isLt, congrArg Fin.val same.symm⟩⟩

theorem inSet_removeAddr (m : BitVec 16) (a b : Addr) : inSet (removeAddr m a) b = (inSet m b && decide (b ≠ a)) := by
  unfold inSet removeAddr
  rw [BitVec.getLsbD_and, BitVec.getLsbD_not, BitVec.getLsbD_twoPow]
  refine congrArg _ (Bool.eq_iff_iff.2 ?_)
  simp only [a.isLt, b.isLt, decide_true, Bool.true_and, Bool.not_eq_true', decide_eq_false_iff_not, decide_eq_true_eq]
  exact ⟨fun other same => other (congrArg Fin.val same.symm), fun other same => other (Fin.ext same.symm)⟩

theorem inSet_collect (p : Addr → Bool) (xs : List Addr) (m : BitVec 16) (b : Addr) :
    inSet (xs.foldl (fun m a => if p a then insertAddr m a else m) m) b = (inSet m b || decide (b ∈ xs ∧ p b = true)) := by
  induction xs generalizing m with
  | nil => simp
  | cons a xs ih =>
    rw [List.foldl_cons, ih]
    by_cases here : b = a
    · subst here
      cases holds : p b <;> simp [inSet_insertAddr]
    · cases holds : p a <;> simp [inSet_insertAddr, here]

theorem inSet_addrsWhere (p : Addr → Bool) (a : Addr) : inSet (addrsWhere p) a = p a := by
  have none : inSet 0 a = false := BitVec.getLsbD_zero
  unfold addrsWhere
  rw [inSet_collect, none]
  simp [mem_allAddrs]

theorem inSet_rosterSet (s : State) (a : Addr) : inSet s.rosterSet a = s.isMember a := inSet_addrsWhere _ a

/-! ### READ_ROSTER and READ_SITE -/

theorem length_filterMap_map {α β : Type} (f : α → Option β) (xs : List α) :
    (xs.filterMap f).length = (xs.filter fun x => (f x).isSome).length := by
  induction xs with
  | nil => rfl
  | cons x xs ih => cases h : f x <;> simp [h, ih]

theorem flatMap_filterMap {α β γ : Type} (f : α → Option β) (g : β → List γ) (xs : List α) :
    (xs.filterMap f).flatMap g = xs.flatMap fun x => (f x).elim [] g := by
  induction xs with
  | nil => rfl
  | cons x xs ih => cases h : f x <;> simp [h, ih]

theorem State.rosterBytes_eq (s : State) : s.rosterBytes =
    byteOf (allAddrs.filter fun a => s.isMember a).length :: allAddrs.flatMap fun a =>
      (s.member a).elim [] (memberBytes a) := by
  have count : s.members.length = (allAddrs.filter fun a => s.isMember a).length := by
    unfold State.members
    rw [length_filterMap_map]
    simp only [Option.isSome_map]
    rfl
  unfold State.rosterBytes
  rw [count]
  unfold State.members
  rw [flatMap_filterMap]
  refine congrArg _ (congrArg (fun f => List.flatMap f allAddrs) (funext fun a => ?_))
  cases s.member a <;> rfl

theorem inSet_ackedSet (h : HaltUnit) (a : Addr) : inSet h.ackedSet a = (h.acked[a.val]).isSome :=
  inSet_addrsWhere _ a

theorem filterMap_eq_flatMap {α β : Type} (f : α → Option β) (xs : List α) :
    xs.filterMap f = xs.flatMap fun x => (f x).toList := by
  induction xs with
  | nil => rfl
  | cons x xs ih => cases h : f x <;> simp [h, ih]

theorem State.siteBytes_eq (s : State) : s.siteBytes =
    bytes16 s.ct.flags ++ [byteOf (16 * s.ct.pointers[0].val + s.ct.pointers[1].val),
      byteOf (16 * s.ct.pointers[2].val + s.ct.pointers[3].val), byteOf s.ct.capacityView, byteOf s.alloc.effective,
      byteOf s.alloc.placedDemand, byteOf (s.alloc.effective - s.alloc.placedDemand), byteOf (s.alloc.transient / 256),
      byteOf s.alloc.transient,
      byteOf ((if s.alloc.drain then 1 else 0) + (if s.alloc.freeze then 2 else 0) + if s.hu.ploss then 4 else 0),
      byteOf s.mu.orphans.length] ++
    s.mu.orphans.flatMap (fun o => [byteOf o.station.val, byteOf (o.load / 256), byteOf o.load]) ++
    [byteOf s.hu.halt.code, byteOf s.hu.reasons.toNat, byteOf s.hu.round.code] ++ bytes16 s.hu.ackSet ++
    bytes16 s.hu.ackedSet ++ bytes16 s.hu.missing ++
    [byteOf (if s.hu.round = .opened then s.hu.roundTimer.getD 0 / 1000 else 0)] ++ bytes16 s.hu.settle ++
    allAddrs.flatMap (fun a => (s.hu.acked[a.val]).toList) := by
  have orphans : orphanBytes = fun o => [byteOf o.station.val, byteOf (o.load / 256), byteOf o.load] :=
    funext fun o => congrArg (byteOf o.station.val :: ·) (bytes16_ofNat o.load)
  unfold State.siteBytes State.pointerBytes
  rw [pointerBytes_eq, orphans, bytes16_ofNat, bitOf_eq, bitOf_eq, bitOf_eq, setWidth_reasons, mul_ite, mul_ite,
    filterMap_eq_flatMap]
  simp only [List.append_assoc, List.cons_append, List.nil_append, Nat.mul_one, Nat.mul_zero]
  rfl

theorem strapByte_eq (p : StrapPins) : strapByte p =
    byteOf (p.addr.val + 16 * p.wt.val + (if p.atm then 64 else 0) + if p.ple then 128 else 0) := by
  unfold strapByte
  simp only [bitOf_eq, mul_ite, Nat.mul_one, Nat.mul_zero]

theorem State.statusBytes_eq (s : State) : s.statusBytes =
    [byteOf s.mu.station.code, byteOf (if s.mu.station = .isolated then s.mu.cause.code else 0),
      byteOf (s.straps.addr.val + 16 * s.straps.wt.val + (if s.straps.atm then 64 else 0) +
        if s.straps.ple then 128 else 0),
      if s.site.isSet then 1 else 0, byteOf s.site.capacity, byteOf s.site.cap, if s.site.leakHalts then 1 else 0] ++
    bytes32 s.clock.seconds := by
  have cause : s.reportedCause.code = if s.mu.station = .isolated then s.mu.cause.code else 0 := by
    unfold State.reportedCause
    split <;> rfl
  unfold State.statusBytes
  rw [cause, strapByte_eq, byteOf_bitOf, byteOf_bitOf]

end Sys2Proof.Machine
end

section
namespace Sys2Proof
open Sys2Proof.Machine

/-- Settles O22: the responses from their parts, and the codes by their lists. -/
theorem responseLayouts : Obligations.ResponseLayouts := by
  unfold Obligations.ResponseLayouts
  refine ⟨fun _ => nibblesLow_decimalBytes, bytes16_eq, bytes32_eq, recordBytes_eq, fun r => ?_, fun s c => ?_,
    fun s => ?_, State.siteBytes_eq, fun s => inSet_ackedSet s.hu, State.statusBytes_eq, ?_⟩
  · rw [runBytes_eq, gateBytes_eq] <;> rfl
  · rw [State.channelBytes_eq, settingsBytes_eq, announcedBytes_eq] <;> rfl
  · rw [State.rosterBytes_eq]
    refine congrArg _ (congrArg (fun f => List.flatMap f allAddrs) (funext fun a => ?_))
    cases held : s.member a with
    | none => rfl
    | some m => exact memberBytes_eq a m
  · decide

end Sys2Proof
end

section
/-!
SUPPORT. The arguments of host commands as read from their bytes: small fields, gates, limits, run contexts and channel
settings (12.3, R45, R65, R68).
-/

namespace Sys2Proof.Machine

/-! ### Small fields -/

theorem toLevel_eq_some {b : Byte} {l : Level} : toLevel b = some l ↔ b.toNat = l.val := by
  unfold toLevel
  split
  · next small => exact ⟨fun same => congrArg Fin.val (Option.some.inj same), fun same => congrArg some (Fin.ext same)⟩
  · next big => exact ⟨nofun, fun same => absurd (same ▸ l.isLt) big⟩

theorem toDemand_eq_some {b : Byte} {d : Nat} : toDemand b = some d ↔ b.toNat = d ∧ 1 ≤ d ∧ d ≤ 63 := by
  unfold toDemand
  split
  · next range =>
    exact ⟨fun same => ⟨Option.some.inj same, Option.some.inj same ▸ range⟩, fun ⟨same, _⟩ => congrArg some same⟩
  · next range => exact ⟨nofun, fun ⟨same, bounds⟩ => absurd (same ▸ bounds) range⟩

theorem toSeconds_eq_some {low high : Nat} {b : Byte} {n : Nat} :
    toSeconds low high b = some n ↔ b.toNat = n ∧ low ≤ n ∧ n ≤ high := by
  unfold toSeconds
  split
  · next range =>
    exact ⟨fun same => ⟨Option.some.inj same, Option.some.inj same ▸ range⟩, fun ⟨same, _⟩ => congrArg some same⟩
  · next range => exact ⟨nofun, fun ⟨same, bounds⟩ => absurd (same ▸ bounds) range⟩

theorem toYesNo_eq_some {b : Byte} {v : Bool} : toYesNo b = some v ↔ b.toNat = v.toNat := by
  unfold toYesNo
  split
  · next is0 => cases v <;> simp [is0]
  · next is1 => cases v <;> simp [is1]
  · next not0 not1 =>
    have out : ¬ b.toNat = 0 ∧ ¬ b.toNat = 1 := ⟨not0, not1⟩
    cases v <;> simp [out]

theorem yesNoByte_iff (b : Byte) (v : Bool) : b = (if v then 1 else 0) ↔ b.toNat = v.toNat := by
  rw [← BitVec.toNat_inj]
  cases v <;> rfl

theorem toPhase_eq_some {n : Nat} {p : Phase} : toPhase n = some p ↔ n = p.code := by
  unfold toPhase
  split <;> cases p <;> simp [Phase.code] <;> omega

theorem toCause_eq_some {n : Nat} {k : GoneCause} : toCause n = some k ↔ n = k.code := by
  unfold toCause
  split <;> cases k <;> simp [GoneCause.code] <;> omega

theorem toComparison_eq_some {n : BitVec 4} {cmp : Comparison} : toComparison n = some cmp ↔ n.toNat = cmp.code := by
  unfold toComparison
  split
  · next h => cases cmp <;> simp [Comparison.code, h]
  · next h => cases cmp <;> simp [Comparison.code, h]
  · next h => cases cmp <;> simp [Comparison.code, h]
  · next h => cases cmp <;> simp [Comparison.code, h]
  · next h0 h1 h2 h3 =>
    have out : ¬ n.toNat = 0 ∧ ¬ n.toNat = 1 ∧ ¬ n.toNat = 2 ∧ ¬ n.toNat = 3 := ⟨h0, h1, h2, h3⟩
    cases cmp <;> simp [Comparison.code, out]

/-! ### Gauges -/

theorem toGauge_eq_some {digits : BitVec 12} {v : Gauge} : toGauge digits = some v ↔
    (digits.extractLsb' 8 4).toNat = v.hundreds.val ∧ (digits.extractLsb' 4 4).toNat = v.tens.val ∧
      (digits.extractLsb' 0 4).toNat = v.units.val := by
  rw [← toDigit_eq_some, ← toDigit_eq_some, ← toDigit_eq_some]
  obtain ⟨h, t, u⟩ := v
  unfold toGauge
  split
  · next a b c ha hb hc => simp [ha, hb, hc]
  · next none =>
    exact ⟨nofun, fun ⟨ha, hb, hc⟩ => absurd hc (none _ _ _ ha hb)⟩

theorem presence_eq (p : BitVec 4) (n : Nat) (small : n < 16) : p = BitVec.ofNat 4 n ↔ p.toNat = n := by
  rw [← BitVec.toNat_inj, BitVec.toNat_ofNat, Nat.mod_eq_of_lt small]

theorem readGauge_absent_iff (g : GaugeField) : readGauge g = some none ↔ g.presence = 0 := by
  have zero : g.presence = 0 ↔ g.presence.toNat = 0 := presence_eq _ 0 (by decide)
  rw [zero]
  unfold readGauge
  split
  · next h => simp [h]
  · next h =>
    rw [h]
    cases toGauge g.digits <;> simp
  · next h _ =>
    have out : ¬ g.presence.toNat = 0 := h
    simp [out]

theorem readGauge_present_iff (g : GaugeField) (v : Gauge) : readGauge g = some (some v) ↔
    g.presence = 1 ∧ (g.digits.extractLsb' 8 4).toNat = v.hundreds.val ∧
      (g.digits.extractLsb' 4 4).toNat = v.tens.val ∧ (g.digits.extractLsb' 0 4).toNat = v.units.val := by
  have one : g.presence = 1 ↔ g.presence.toNat = 1 := presence_eq _ 1 (by decide)
  rw [one, ← toGauge_eq_some]
  unfold readGauge
  split
  · next h => simp [h]
  · next h => simp [h]
  · next _ h =>
    have out : ¬ g.presence.toNat = 1 := h
    simp [out]

/-! ### Gates and limits -/

/-- 12.3: the four bytes that name a gate. -/
def NamesGate (kind operand high low : Byte) : Option Gate → Prop
  | none => kind.toNat / 16 = 0
  | some (.flagSet n) => kind.toNat / 16 = 1 ∧ operand.toNat = n.val
  | some (.flagClear n) => kind.toNat / 16 = 2 ∧ operand.toNat = n.val
  | some (.gauge a cmp v) => kind.toNat = 48 + cmp.code ∧ operand.toNat = a.val ∧ high.toNat = v.hundreds.val ∧
      low.toNat = 16 * v.tens.val + v.units.val
  | some (.after h) => kind.toNat / 16 = 4 ∧ operand.toNat = h ∧ 1 ≤ h

/-- The gauge value that two bytes of a gate name, the pad nibble 0. -/
theorem gaugeFieldOf_names {high low : Byte} {v : Gauge} :
    (gaugeFieldOf high low).presence = 0 ∧ toGauge (gaugeFieldOf high low).digits = some v ↔
      high.toNat = v.hundreds.val ∧ low.toNat = 16 * v.tens.val + v.units.val := by
  have pad : (gaugeFieldOf high low).presence = 0 ↔ high.toNat / 16 = 0 := by
    refine (presence_eq _ 0 (by decide)).trans ?_
    rw [← toNat_highNibble]
    rfl
  have value : (gaugeFieldOf high low).digits.toNat = 256 * (high.toNat % 16) + low.toNat := by
    show (high.extractLsb' 0 4 ++ low : BitVec 12).toNat = _
    rw [BitVec.toNat_append, ← Nat.shiftLeft_add_eq_or_of_lt low.isLt, Nat.shiftLeft_eq, toNat_lowNibble]
    omega
  have nibble : ∀ k, ((gaugeFieldOf high low).digits.extractLsb' k 4).toNat =
      (256 * (high.toNat % 16) + low.toNat) / 2 ^ k % 16 := fun k => by
    rw [BitVec.extractLsb'_toNat, value, Nat.shiftRight_eq_div_pow]
  rw [pad, toGauge_eq_some, nibble, nibble, nibble]
  have := high.isLt
  have := low.isLt
  have := v.hundreds.isLt
  have := v.tens.isLt
  have := v.units.isLt
  omega

theorem Comparison.code_lt (cmp : Comparison) : cmp.code < 4 := by
  cases cmp <;> decide

theorem namesGauge_iff {kind operand high low : Byte} {a : Addr} {cmp : Comparison} {v : Gauge} :
    NamesGate kind operand high low (some (.gauge a cmp v)) ↔ kind.toNat / 16 = 3 ∧ toAddr operand = some a ∧
      toComparison (kind.extractLsb' 0 4) = some cmp ∧ (gaugeFieldOf high low).presence = 0 ∧
      toGauge (gaugeFieldOf high low).digits = some v := by
  rw [gaugeFieldOf_names, toAddr_eq_some, toComparison_eq_some, toNat_lowNibble]
  unfold NamesGate
  have := cmp.code_lt
  omega

theorem readGate_gauge_eq_some {kind operand high low : Byte} {g : Option Gate} :
    (match toAddr operand, toComparison (kind.extractLsb' 0 4), gaugeFieldOf high low with
      | some s, some cmp, ⟨pad, digits⟩ =>
        if pad = 0 then (toGauge digits).map fun v => some (Gate.gauge s cmp v) else none
      | _, _, _ => none) = some g ↔
    ∃ a cmp v, g = some (.gauge a cmp v) ∧ toAddr operand = some a ∧
      toComparison (kind.extractLsb' 0 4) = some cmp ∧ (gaugeFieldOf high low).presence = 0 ∧
      toGauge (gaugeFieldOf high low).digits = some v := by
  cases toAddr operand with
  | none => simp
  | some a =>
    cases toComparison (kind.extractLsb' 0 4) with
    | none => simp
    | some cmp =>
      show (if (gaugeFieldOf high low).presence = 0 then
        (toGauge (gaugeFieldOf high low).digits).map fun v => some (Gate.gauge a cmp v) else none) = some g ↔ _
      rw [Option.ite_none_right_eq_some, Option.map_eq_some_iff]
      constructor
      · rintro ⟨pad, v, read, rfl⟩
        exact ⟨a, cmp, v, rfl, rfl, rfl, pad, read⟩
      · rintro ⟨_, _, v, rfl, ⟨⟩, ⟨⟩, pad, read⟩
        exact ⟨pad, v, read, rfl⟩

theorem readGate_eq_some (kind operand high low : Byte) (g : Option Gate) :
    readGate kind operand high low = some g ↔ NamesGate kind operand high low g := by
  unfold readGate
  rw [toNat_highNibble]
  split
  · next k =>
    match g with
    | none | some (.flagSet n) | some (.flagClear n) | some (.after h) => simp [NamesGate, k]
    | some (.gauge a cmp v) => simp [namesGauge_iff, k]
  · next k =>
    match g with
    | none | some (.flagClear n) | some (.after h) => simp [NamesGate, k]
    | some (.flagSet n) => simp [NamesGate, k, toAddr_eq_some]
    | some (.gauge a cmp v) => simp [namesGauge_iff, k]
  · next k =>
    match g with
    | none | some (.flagSet n) | some (.after h) => simp [NamesGate, k]
    | some (.flagClear n) => simp [NamesGate, k, toAddr_eq_some]
    | some (.gauge a cmp v) => simp [namesGauge_iff, k]
  · next k =>
    refine readGate_gauge_eq_some.trans ?_
    match g with
    | none | some (.flagSet n) | some (.flagClear n) | some (.after h) => simp [NamesGate, k]
    | some (.gauge a cmp v) => simp [namesGauge_iff, k]
  · next k =>
    have zero : operand = 0 ↔ operand.toNat = 0 := by
      rw [← BitVec.toNat_inj]
      rfl
    match g with
    | none | some (.flagSet n) | some (.flagClear n) => simp [NamesGate, k]
    | some (.gauge a cmp v) => simp [namesGauge_iff, k]
    | some (.after h) =>
      split
      · next none =>
        have := zero.1 none
        simp [NamesGate, k]
        omega
      · next named =>
        have := mt zero.2 named
        simp [NamesGate, k]
        omega
  · next k0 k1 k2 k3 k4 =>
    have out : ¬ kind.toNat / 16 = 0 ∧ ¬ kind.toNat / 16 = 1 ∧ ¬ kind.toNat / 16 = 2 ∧ ¬ kind.toNat / 16 = 3 ∧
      ¬ kind.toNat / 16 = 4 := ⟨k0, k1, k2, k3, k4⟩
    match g with
    | none | some (.flagSet n) | some (.flagClear n) | some (.after h) => simp [NamesGate, out]
    | some (.gauge a cmp v) => simp [namesGauge_iff, out]

/-- R201: the byte that names a stop flag. -/
def NamesStop (b : Byte) : Option (Fin 16) → Prop
  | none => b = 0xFF
  | some n => b.toNat = n.val

theorem readStopFlag_eq_some (b : Byte) (f : Option (Fin 16)) : readStopFlag b = some f ↔ NamesStop b f := by
  unfold readStopFlag NamesStop
  split
  · next all =>
    subst all
    cases f with
    | none => simp
    | some n =>
      have := n.isLt
      simp
      omega
  · next other =>
    cases f with
    | none => exact iff_of_false (by simp) other
    | some n => simp [toAddr_eq_some]

/-- R201: the two bytes that name a time limit. -/
def NamesLimit (high low : Byte) : Option Nat → Prop
  | none => word16 high low = 0
  | some m => (word16 high low).toNat = m ∧ 1 ≤ m ∧ m ≤ 999

theorem readTimeLimit_eq_some (high low : Byte) (m : Option Nat) :
    readTimeLimit high low = some m ↔ NamesLimit high low m := by
  have zero : word16 high low = 0 ↔ (word16 high low).toNat = 0 := by
    rw [← BitVec.toNat_inj]
    rfl
  unfold readTimeLimit NamesLimit
  dsimp only
  cases m with
  | none =>
    rw [zero]
    split
    · next is0 => simp [is0]
    · next not0 => split <;> simp [not0]
  | some m =>
    split
    · next is0 =>
      simp only [Option.some.injEq, reduceCtorEq, false_iff]
      omega
    · next not0 =>
      split
      · next small =>
        simp only [Option.some.injEq]
        omega
      · next big =>
        simp only [reduceCtorEq, false_iff]
        omega

theorem namesGate_eq (kind operand high low : Byte) (g : Option Gate) : NamesGate kind operand high low g =
    match g with
    | none => kind.toNat / 16 = 0
    | some (.flagSet n) => kind.toNat / 16 = 1 ∧ operand.toNat = n.val
    | some (.flagClear n) => kind.toNat / 16 = 2 ∧ operand.toNat = n.val
    | some (.gauge a cmp v) => kind.toNat = 48 + cmp.code ∧ operand.toNat = a.val ∧ high.toNat = v.hundreds.val ∧
        low.toNat = 16 * v.tens.val + v.units.val
    | some (.after h) => kind.toNat / 16 = 4 ∧ operand.toNat = h ∧ 1 ≤ h := rfl

theorem namesStop_eq (b : Byte) (f : Option (Fin 16)) : NamesStop b f =
    match f with
    | none => b = 0xFF
    | some n => b.toNat = n.val := rfl

theorem namesLimit_and_belowLimit (high low : Byte) (seconds : Nat) (limit : Option Nat) :
    (NamesLimit high low limit ∧ belowLimit seconds limit = true) =
    match limit with
    | none => word16 high low = 0
    | some m => (word16 high low).toNat = m ∧ 1 ≤ m ∧ m ≤ 999 ∧ seconds < 60 * m := by
  cases limit with
  | none => simp [NamesLimit, belowLimit]
  | some m => simp [NamesLimit, belowLimit, Nat.mul_comm, and_assoc]

/-! ### Run contexts -/

/-- 12.3: what the bytes of a run context name, field by field. -/
def NamesRun (ctx : List Byte) (args : RunArgs) : Prop :=
  word16 (ctx.getD 0 0) (ctx.getD 1 0) = args.tag ∧ (ctx.getD 3 0).toNat = args.level.val ∧
    (ctx.getD 4 0).toNat = args.demand ∧ 1 ≤ args.demand ∧ args.demand ≤ 63 ∧
    [ctx.getD 5 0, ctx.getD 6 0, ctx.getD 7 0] = decimalBytes args.target ∧ args.target ≠ Decimal.zero 6 ∧
    [ctx.getD 8 0, ctx.getD 9 0, ctx.getD 10 0, ctx.getD 11 0] = decimalBytes args.delivered ∧
    reaches args.delivered args.target = false ∧ (ctx.getD 12 0).toNat = args.preemptions ∧
    (word16 (ctx.getD 13 0) (ctx.getD 14 0)).toNat = args.openSeconds ∧
    word32 (ctx.getD 15 0) (ctx.getD 16 0) (ctx.getD 17 0) (ctx.getD 18 0) = args.submitTime ∧
    NamesGate (ctx.getD 19 0) (ctx.getD 20 0) (ctx.getD 21 0) (ctx.getD 22 0) args.gate ∧
    NamesStop (ctx.getD 23 0) args.stopFlag ∧ NamesLimit (ctx.getD 24 0) (ctx.getD 25 0) args.timeLimit ∧
    belowLimit args.openSeconds args.timeLimit = true

theorem namesRun_of_readRunContext {ctx : List Byte} {args : RunArgs} (read : readRunContext ctx = some args) :
    NamesRun ctx args := by
  unfold readRunContext at read
  dsimp only at read
  split at read
  · next level demand target delivered gate stop limit =>
    split at read
    · next sound =>
      cases read
      obtain ⟨nonzero, short, below⟩ := sound
      obtain ⟨demand_eq, low, high⟩ := toDemand_eq_some.1 demand
      exact ⟨rfl, toLevel_eq_some.1 level, demand_eq, low, high, (readDecimal_eq_some rfl _).1 target, nonzero,
        (readDecimal_eq_some rfl _).1 delivered, Bool.eq_false_iff.2 short, rfl, rfl, rfl,
        (readGate_eq_some _ _ _ _ _).1 gate, (readStopFlag_eq_some _ _).1 stop, (readTimeLimit_eq_some _ _ _).1 limit,
        below⟩
    · cases read
  · cases read

theorem readRunContext_of_namesRun {ctx : List Byte} {args : RunArgs} (names : NamesRun ctx args) :
    readRunContext ctx = some args := by
  obtain ⟨tag, level, demand, low, high, target, nonzero, delivered, short, preemptions, seconds, time, gate, stop, limit,
    below⟩ := names
  unfold readRunContext
  dsimp only
  rw [toLevel_eq_some.2 level, toDemand_eq_some.2 ⟨demand, low, high⟩, (readDecimal_eq_some rfl _).2 target,
    (readDecimal_eq_some rfl _).2 delivered, (readGate_eq_some _ _ _ _ _).2 gate, (readStopFlag_eq_some _ _).2 stop,
    (readTimeLimit_eq_some _ _ _).2 limit]
  dsimp only
  rw [seconds, tag, time, preemptions, if_pos ⟨nonzero, Bool.eq_false_iff.1 short, below⟩]

theorem readRunContext_eq_some (ctx : List Byte) (args : RunArgs) :
    readRunContext ctx = some args ↔ NamesRun ctx args :=
  ⟨namesRun_of_readRunContext, readRunContext_of_namesRun⟩

theorem submitContext_eq (bytes : List Byte) :
    submitContext bytes = bytes.take 8 ++ [0, 0, 0, 0, 0, 0, 0, 0, 0, 0, 0] ++ bytes.drop 8 := rfl

/-! ### A run written back (R64) -/

theorem toNat_byteOf_mod (n : Nat) : (byteOf n).toNat = n % 256 := BitVec.toNat_ofNat _ _

theorem toNat_word16 (h l : Byte) : (word16 h l).toNat = 256 * h.toNat + l.toNat := by
  unfold word16
  rw [BitVec.toNat_append, ← Nat.shiftLeft_add_eq_or_of_lt l.isLt, Nat.shiftLeft_eq]
  omega

theorem toNat_word16_byteOf (n : Nat) : (word16 (byteOf (n / 256)) (byteOf n)).toNat = n % 65536 := by
  rw [toNat_word16, toNat_byteOf_mod, toNat_byteOf_mod]
  omega

theorem word16_bytes (w : BitVec 16) : word16 (byteOf (w.toNat / 256)) (byteOf w.toNat) = w := by
  refine BitVec.eq_of_toNat_eq ?_
  rw [toNat_word16_byteOf]
  have := w.isLt
  omega

theorem word32_bytes (w : BitVec 32) : word32 (byteOf (w.toNat / 16777216)) (byteOf (w.toNat / 65536))
    (byteOf (w.toNat / 256)) (byteOf w.toNat) = w := by
  refine BitVec.eq_of_toNat_eq ?_
  have join : ∀ {k : Nat} (x : BitVec k) (y : Byte), (x ++ y).toNat = 256 * x.toNat + y.toNat := fun x y => by
    rw [BitVec.toNat_append, ← Nat.shiftLeft_add_eq_or_of_lt y.isLt, Nat.shiftLeft_eq]
    omega
  unfold word32
  rw [join, join, join, toNat_byteOf_mod, toNat_byteOf_mod, toNat_byteOf_mod, toNat_byteOf_mod]
  have := w.isLt
  omega

theorem list_of_length_three {α : Type} {xs : List α} (length : xs.length = 3) : ∃ a b c, xs = [a, b, c] := by
  match xs, length with
  | [a, b, c], _ => exact ⟨a, b, c, rfl⟩

theorem list_of_length_four {α : Type} {xs : List α} (length : xs.length = 4) : ∃ a b c d, xs = [a, b, c, d] := by
  match xs, length with
  | [a, b, c, d], _ => exact ⟨a, b, c, d, rfl⟩

/-- The bytes of a gate name it. -/
theorem namesGate_gateBytes {g : Option Gate} (handle : ∀ h, g = some (.after h) → 1 ≤ h ∧ h ≤ 255) {a b c d : Byte}
    (bytes : gateBytes g = [a, b, c, d]) : NamesGate a b c d g := by
  have small : ∀ n, n < 256 → (byteOf n).toNat = n := fun n => toNat_byteOf
  rw [gateBytes_eq] at bytes
  match g with
  | none =>
    cases bytes
    rfl
  | some (.flagSet n) =>
    cases bytes
    exact ⟨rfl, small _ (by omega)⟩
  | some (.flagClear n) =>
    cases bytes
    exact ⟨rfl, small _ (by omega)⟩
  | some (.gauge s cmp v) =>
    cases bytes
    have := cmp.code_lt
    exact ⟨small _ (by omega), small _ (by omega), small _ (by omega), small _ (by omega)⟩
  | some (.after h) =>
    cases bytes
    obtain ⟨low, high⟩ := handle h rfl
    exact ⟨rfl, small _ (by omega), low⟩

theorem namesStop_byte (f : Option (Fin 16)) : NamesStop (f.elim 0xFF fun n => byteOf n.val) f := by
  cases f with
  | none => rfl
  | some n => exact toNat_byteOf (by have := n.isLt; omega)

theorem namesLimit_bytes {limit : Option Nat} (range : ∀ m ∈ limit, 1 ≤ m ∧ m ≤ 999) :
    NamesLimit (byteOf (limit.getD 0 / 256)) (byteOf (limit.getD 0)) limit := by
  cases limit with
  | none => rfl
  | some m =>
    obtain ⟨low, high⟩ := range m rfl
    refine ⟨?_, low, high⟩
    rw [Option.getD_some, toNat_word16_byteOf]
    omega

/-- Bytes 1–26 of the run record name the run. -/
theorem namesRun_runBytes (r : Run) (demand : 1 ≤ r.demand) (demand' : r.demand ≤ 63) (target : r.target ≠ Decimal.zero 6)
    (short : reaches r.delivered r.target = false) (preemptions : r.preemptions ≤ 255) (seconds : r.openSeconds ≤ 65535)
    (below : belowLimit r.openSeconds r.timeLimit = true) (limit : ∀ m ∈ r.timeLimit, 1 ≤ m ∧ m ≤ 999)
    (handle : ∀ h, r.gate = some (.after h) → 1 ≤ h ∧ h ≤ 255) :
    NamesRun ((runBytes r).take 26) ⟨r.tag, r.level, r.demand, r.target, r.delivered, r.preemptions, r.openSeconds,
      r.submitTime, r.gate, r.stopFlag, r.timeLimit⟩ ∧ ((runBytes r).take 26).getD 2 0 = byteOf r.channel.val := by
  obtain ⟨t0, t1, t2, targetBytes⟩ := list_of_length_three (decimalBytes_length r.target)
  obtain ⟨d0, d1, d2, d3, deliveredBytes⟩ := list_of_length_four (decimalBytes_length r.delivered)
  obtain ⟨g0, g1, g2, g3, gate⟩ := list_of_length_four (gateBytes_length r.gate)
  have bytes : (runBytes r).take 26 = [byteOf (r.tag.toNat / 256), byteOf r.tag.toNat, byteOf r.channel.val,
      byteOf r.level.val, byteOf r.demand, t0, t1, t2, d0, d1, d2, d3, byteOf r.preemptions,
      byteOf (r.openSeconds / 256), byteOf r.openSeconds, byteOf (r.submitTime.toNat / 16777216),
      byteOf (r.submitTime.toNat / 65536), byteOf (r.submitTime.toNat / 256), byteOf r.submitTime.toNat, g0, g1, g2, g3,
      r.stopFlag.elim 0xFF fun n => byteOf n.val, byteOf (r.timeLimit.getD 0 / 256), byteOf (r.timeLimit.getD 0)] := by
    rw [runBytes_eq, targetBytes, deliveredBytes, gate, bytes32_eq]
    rfl
  rw [bytes]
  refine ⟨⟨word16_bytes r.tag, toNat_byteOf ?_, toNat_byteOf ?_, demand, demand', targetBytes.symm, target,
    deliveredBytes.symm, short, toNat_byteOf ?_, ?_, word32_bytes r.submitTime, namesGate_gateBytes handle gate,
    namesStop_byte r.stopFlag, namesLimit_bytes limit, below⟩, rfl⟩
  · have := r.level.isLt
    omega
  · omega
  · omega
  · exact (toNat_word16_byteOf r.openSeconds).trans (Nat.mod_eq_of_lt (by omega))

end Sys2Proof.Machine
end

section
namespace Sys2Proof
open Sys2Proof.Machine

/-- Settles O13: each field by its bytes, and the bytes of a run's record. -/
theorem runContextsRead : Obligations.RunContextsRead := by
  unfold Obligations.RunContextsRead
  refine ⟨fun ctx args => (readRunContext_eq_some ctx args).trans ?_, submitContext_eq,
    fun r demand demand' target short preemptions seconds below limit handle => ?_⟩
  · obtain ⟨tag, level, demand, target, delivered, preemptions, seconds, time, gate, stop, limit⟩ := args
    have gates : NamesGate (ctx.getD 19 0) (ctx.getD 20 0) (ctx.getD 21 0) (ctx.getD 22 0) gate = _ :=
      namesGate_eq _ _ _ _ gate
    have stops : NamesStop (ctx.getD 23 0) stop = _ := namesStop_eq _ stop
    unfold NamesRun
    dsimp only
    rw [gates, stops, namesLimit_and_belowLimit] <;> rfl
  · obtain ⟨names, chan⟩ := namesRun_runBytes r demand demand' target short preemptions seconds below limit handle
    refine ⟨readRunContext_of_namesRun names, ?_⟩
    rw [chan, toChan_eq_some]
    exact toNat_byteOf (by have := r.channel.isLt; omega)

end Sys2Proof
end

section
/-!
SUPPORT. The end of an event in a silent station state, and the configuration commands (R68, R69, R193).
-/

namespace Sys2Proof.Machine

/-! ### The end of an event without claims -/

theorem State.queueClaim_of_silent {s : State} (silent : s.mu.station.silent = true) (c : Chan) (k : ClaimContent) :
    s.queueClaim c k = s := by
  unfold State.queueClaim
  rw [if_pos silent]

theorem State.announce_of_silent {s : State} (silent : s.mu.station.silent = true) (c : Chan) : s.announce c = s := by
  unfold State.announce
  split
  · rfl
  · exact State.queueClaim_of_silent silent _ _
  · exact State.queueClaim_of_silent silent _ _
  · split
    · rfl
    · exact State.queueClaim_of_silent silent _ _

theorem State.announceAll_of_silent {s : State} (silent : s.mu.station.silent = true) : s.announceAll = s := by
  unfold State.announceAll
  exact foldl_of_still _ _ _ fun c => State.announce_of_silent silent c

theorem StationState.active_of_silent {st : StationState} (silent : st.silent = true) : st.active = false := by
  cases st <;> first | rfl | cases silent

theorem State.ackTest_of_idle {s : State} (idle : s.mu.station.active = false) :
    s.ackTest = s.setHu { s.hu with ackPending := s.hu.ackPending && !s.settled } := by
  unfold State.ackTest
  split
  · next both =>
    obtain ⟨pending, settled⟩ := both
    rw [State.enqueue_of_not_takes (f := .haltAck s.stuckMask) idle (.inr nofun), pending, settled]
    rfl
  · next neither =>
    have same : (s.hu.ackPending && !s.settled) = s.hu.ackPending := by
      cases pending : s.hu.ackPending <;> cases settled : s.settled <;> first | rfl | exact absurd ⟨pending, settled⟩ neither
    rw [same]
    rfl

theorem State.leaveTest_of_other {s : State} (other : s.mu.station ≠ .leaving) : s.leaveTest = s := by
  unfold State.leaveTest
  rw [if_neg fun leaves => other leaves.1]

theorem State.conclude_of_silent {s : State} (silent : s.mu.station.silent = true) (stays : s.Stays) :
    s.conclude = s.setHu { s.hu with ackPending := s.hu.ackPending && !s.settled } := by
  rw [State.conclude_eq s stays, State.announceAll_of_silent silent,
    State.ackTest_of_idle (StationState.active_of_silent silent), State.leaveTest_of_other]
  intro leaving
  have silent' : s.mu.station.silent = true := silent
  rw [show s.mu.station = .leaving from leaving] at silent'
  cases silent'

/-! ### SITE_CONFIG -/

section
variable {s : State}

theorem State.runSiteConfig_of_other (other : s.mu.station ≠ .config) : s.runSiteConfig = s.finish .wrongState [] := by
  unfold State.runSiteConfig
  rw [if_neg other]
  rfl

theorem readSiteConfig_eq_some {p : Port} {site : SiteConfiguration} : readSiteConfig p = some site ↔
    p.arg 0 ≠ 0 ∧ p.arg 1 ≠ 0 ∧ (p.arg 2).toNat ≤ 1 ∧
      site = ⟨true, (p.arg 0).toNat, (p.arg 1).toNat, p.arg 2 == 1⟩ := by
  have positive : ∀ b : Byte, b ≠ 0 ↔ 1 ≤ b.toNat := fun b => by
    rw [Nat.one_le_iff_ne_zero, Ne, Ne, ← BitVec.toNat_inj]
    rfl
  rw [positive, positive]
  unfold readSiteConfig
  cases read : toYesNo (p.arg 2) with
  | none =>
    refine iff_of_false nofun fun ⟨_, _, small, _⟩ => ?_
    rcases Nat.le_one_iff_eq_zero_or_eq_one.1 small with zero | one
    · rw [toYesNo_eq_some (v := false) |>.2 zero] at read
      cases read
    · rw [toYesNo_eq_some (v := true) |>.2 one] at read
      cases read
  | some leakHalts =>
    have value := toYesNo_eq_some.1 read
    have small : (p.arg 2).toNat ≤ 1 := value ▸ Bool.toNat_le leakHalts
    have halts : (p.arg 2 == 1) = leakHalts := by
      rw [Bool.eq_iff_iff, beq_iff_eq]
      exact ((yesNoByte_iff (p.arg 2) true).trans (by rw [value]; cases leakHalts <;> decide))
    rw [halts]
    dsimp only
    split
    · next range =>
      rw [Option.some.injEq]
      exact ⟨fun same => ⟨range.1, range.2, small, same.symm⟩, fun h => h.2.2.2.symm⟩
    · next range => exact iff_of_false nofun fun h => range ⟨h.1, h.2.1⟩

theorem State.runSiteConfig_of_config (station : s.mu.station = .config) : s.runSiteConfig =
    (readSiteConfig s.port).elim (s.finish .badArg []) fun site => (s.setSite site).finish .ok [] := by
  unfold State.runSiteConfig
  rw [if_pos station]
  cases readSiteConfig s.port <;> rfl

/-! ### CHANNEL_CONFIG -/

theorem readSettings_absent_iff (p : Port) : readSettings p = some none ↔ p.arg 1 = 0 := by
  refine Iff.trans ?_ (yesNoByte_iff (p.arg 1) false).symm
  rw [← toYesNo_eq_some]
  unfold readSettings
  split
  · next none => simp [none]
  · next off => simp [off]
  · next on =>
    rw [on]
    refine iff_of_false ?_ nofun
    split
    · split <;> nofun
    · nofun

theorem readSettings_present_iff (p : Port) (v : ChannelSettings) : readSettings p = some (some v) ↔
    p.arg 1 = 1 ∧ [p.arg 2, p.arg 3] = decimalBytes v.quantum ∧ v.quantum ≠ Decimal.zero 4 ∧
    (p.arg 4).toNat = v.openTime ∧ 1 ≤ v.openTime ∧ v.openTime ≤ 30 ∧
    (p.arg 5).toNat = v.closeTime ∧ 1 ≤ v.closeTime ∧ v.closeTime ≤ 30 ∧
    p.arg 6 = (if v.endSwitch then 1 else 0) ∧
    [p.arg 7, p.arg 8, p.arg 9] = decimalBytes v.leakLimit ∧ v.leakLimit ≠ Decimal.zero 5 ∧
    (p.arg 10).toNat = v.noFlowTime ∧ 5 ≤ v.noFlowTime ∧ v.noFlowTime ≤ 255 := by
  have one : p.arg 1 = 1 ↔ toYesNo (p.arg 1) = some true := (yesNoByte_iff (p.arg 1) true).trans toYesNo_eq_some.symm
  rw [one, yesNoByte_iff, ← toYesNo_eq_some, ← readDecimal_eq_some rfl, ← readDecimal_eq_some rfl]
  constructor
  · intro read
    unfold readSettings at read
    split at read
    · cases read
    · cases read
    · next on =>
      split at read
      · next quantum openTime closeTime endSwitch leakLimit noFlowTime =>
        split at read
        · next sound =>
          cases read
          obtain ⟨open_eq, open_low, open_high⟩ := toSeconds_eq_some.1 openTime
          obtain ⟨close_eq, close_low, close_high⟩ := toSeconds_eq_some.1 closeTime
          obtain ⟨flow_eq, flow_low, flow_high⟩ := toSeconds_eq_some.1 noFlowTime
          exact ⟨on, quantum, sound.1, open_eq, open_low, open_high, close_eq, close_low, close_high, endSwitch,
            leakLimit, sound.2, flow_eq, flow_low, flow_high⟩
        · cases read
      · cases read
  · rintro ⟨on, quantum, nonzero, open_eq, open_low, open_high, close_eq, close_low, close_high, endSwitch, leakLimit,
      leak_nonzero, flow_eq, flow_low, flow_high⟩
    unfold readSettings
    rw [on]
    dsimp only
    rw [quantum, toSeconds_eq_some.2 ⟨open_eq, open_low, open_high⟩, toSeconds_eq_some.2 ⟨close_eq, close_low, close_high⟩,
      endSwitch, leakLimit, toSeconds_eq_some.2 ⟨flow_eq, flow_low, flow_high⟩]
    dsimp only
    rw [if_pos ⟨nonzero, leak_nonzero⟩]

theorem State.runChannelConfig_of_other (other : s.mu.station ≠ .config) :
    s.runChannelConfig = s.finish .wrongState [] := by
  unfold State.runChannelConfig
  rw [if_neg other]
  rfl

theorem State.runChannelConfig_of_bad (station : s.mu.station = .config)
    (bad : toChan (s.port.arg 0) = none ∨ readSettings s.port = none) : s.runChannelConfig = s.finish .badArg [] := by
  unfold State.runChannelConfig
  rw [if_pos station]
  split
  · next c set chan settings =>
    rcases bad with none | none
    · rw [none] at chan
      cases chan
    · rw [none] at settings
      cases settings
  · rfl

theorem State.runChannelConfig_of_args {c : Chan} {set : Option ChannelSettings} (station : s.mu.station = .config)
    (chan : toChan (s.port.arg 0) = some c) (settings : readSettings s.port = some set) : s.runChannelConfig =
      if s.mayConfigure c set then (s.setChan c ((s.chan c).configure set)).conclude.finish .ok []
      else s.finish .wrongState [] := by
  unfold State.runChannelConfig
  rw [if_pos station, chan, settings]
  rfl

theorem State.mayConfigure_iff (s : State) (c : Chan) (set : Option ChannelSettings) : s.mayConfigure c set = true ↔
    ¬ (set = none ∧ listOf s.rm.pool c ≠ []) ∧ (s.chan c).valve ≠ .closing ∧ (s.chan c).valve ≠ .stuck := by
  have valve : ∀ v w : Valve, (v != w) = true ↔ v ≠ w := fun _ _ => bne_iff_ne
  unfold State.mayConfigure
  rw [Bool.and_eq_true, Bool.and_eq_true, valve, valve, and_assoc]
  refine and_congr ?_ Iff.rfl
  cases set with
  | some v => simp
  | none => simp [List.isEmpty_iff]

theorem Channel.makeAbsent_parts (ch : Channel) : ch.makeAbsent.settings = none ∧ ch.makeAbsent.valve = .closed ∧
    ch.makeAbsent.inFault = false ∧ ch.makeAbsent.vsw = none ∧ ch.makeAbsent.totalizer = ch.totalizer ∧
    ch.makeAbsent.unattributed = ch.unattributed := ⟨rfl, rfl, rfl, rfl, rfl, rfl⟩

/-- What configuring a channel as present leaves of it. -/
theorem Channel.makePresent_parts (ch : Channel) (v : ChannelSettings) : (ch.makePresent v).settings = some v ∧
    (ch.makePresent v).totalizer = ch.totalizer ∧ (ch.makePresent v).unattributed = ch.unattributed ∧
    (ch.makePresent v).faults = ch.faults ∧
    (ch.settings = none → (ch.makePresent v).mtrLow = false ∧ (ch.makePresent v).mtrDue = false ∧
      (ch.makePresent v).mtrHeld = 0 ∧ (ch.makePresent v).vswDue = none ∧ (ch.makePresent v).vswHeld = 0) := by
  have sampled : ch.beginSampling.totalizer = ch.totalizer ∧ ch.beginSampling.unattributed = ch.unattributed ∧
      ch.beginSampling.faults = ch.faults ∧ (ch.settings = none → ch.beginSampling.mtrLow = false ∧
        ch.beginSampling.mtrDue = false ∧ ch.beginSampling.mtrHeld = 0 ∧ ch.beginSampling.vswDue = none ∧
        ch.beginSampling.vswHeld = 0) := by
    unfold Channel.beginSampling Channel.present
    split
    · next present => exact ⟨rfl, rfl, rfl, fun absent => by rw [absent] at present; cases present⟩
    · exact ⟨rfl, rfl, rfl, fun _ => ⟨rfl, rfl, rfl, rfl, rfl⟩⟩
  unfold Channel.makePresent
  dsimp only
  split
  · exact ⟨rfl, sampled⟩
  · exact ⟨rfl, sampled⟩

theorem Channel.makePresent_of_open {ch : Channel} {v : ChannelSettings} (switch : v.endSwitch = true)
    (apart : ch.vsw ≠ some true) : (ch.makePresent v).valve = .closing ∧
      (ch.makePresent v).closeTimer = some (1000 * (2 * v.closeTime)) := by
  unfold Channel.makePresent
  dsimp only
  rw [if_pos ⟨switch, apart⟩]
  refine ⟨rfl, ?_⟩
  unfold Channel.closeLoad
  dsimp only
  rw [if_pos switch]

theorem Channel.makePresent_of_closed {ch : Channel} {v : ChannelSettings}
    (rests : v.endSwitch = false ∨ ch.vsw = some true) : (ch.makePresent v).valve = .closed := by
  have no : ¬ (v.endSwitch = true ∧ ch.vsw ≠ some true) := by
    rintro ⟨switch, apart⟩
    rcases rests with none | asserted
    · rw [none] at switch
      cases switch
    · exact apart asserted
  unfold Channel.makePresent
  dsimp only
  rw [if_neg no]

/-- R69: the channel as configured. -/
theorem Channel.configure_parts (ch : Channel) (set : Option ChannelSettings) : (ch.configure set).settings = set ∧
    (ch.configure set).totalizer = ch.totalizer ∧ (ch.configure set).unattributed = ch.unattributed ∧
    (set = none → (ch.configure set).valve = .closed ∧ (ch.configure set).inFault = false ∧
      (ch.configure set).vsw = none) ∧
    (∀ v, set = some v → (ch.configure set).faults = ch.faults ∧
      (ch.settings = none → (ch.configure set).mtrLow = false ∧ (ch.configure set).mtrDue = false ∧
        (ch.configure set).mtrHeld = 0 ∧ (ch.configure set).vswDue = none ∧ (ch.configure set).vswHeld = 0) ∧
      (v.endSwitch = true → ch.vsw ≠ some true → (ch.configure set).valve = .closing ∧
        (ch.configure set).closeTimer = some (1000 * (2 * v.closeTime))) ∧
      ((v.endSwitch = false ∨ ch.vsw = some true) → (ch.configure set).valve = .closed)) := by
  cases set with
  | none => exact ⟨rfl, rfl, rfl, fun _ => ⟨rfl, rfl, rfl⟩, nofun⟩
  | some v =>
    obtain ⟨settings, totalizer, unattributed, faults, sampling⟩ := ch.makePresent_parts v
    refine ⟨settings, totalizer, unattributed, nofun, fun w same => ?_⟩
    cases same
    exact ⟨faults, sampling, Channel.makePresent_of_open, Channel.makePresent_of_closed⟩

end

end Sys2Proof.Machine
end

section
namespace Sys2Proof
open Sys2Proof.Machine

/-- Settles O8: each command by its checks, and the channel as configured; in CONFIG the event ends without a CLAIM. -/
theorem configurationCommands : Obligations.ConfigurationCommands := by
  unfold Obligations.ConfigurationCommands
  intro s c set released
  refine ⟨fun awaits => ?_, readSettings_absent_iff s.port, readSettings_present_iff s.port, fun awaits => ?_⟩
  · have executes : exec .siteConfig s = .next s.runSiteConfig := exec_host_of_awaits released awaits
    rw [executes]
    refine ⟨fun other => congrArg _ (State.runSiteConfig_of_other other), fun station bad => ?_,
      fun station capacity cap halts => ?_⟩
    · have none : readSiteConfig s.port = none := by
        refine Option.eq_none_iff_forall_ne_some.2 fun site read => ?_
        obtain ⟨capacity, cap, halts, _⟩ := readSiteConfig_eq_some.1 read
        rcases bad with zero | zero | big
        · exact capacity zero
        · exact cap zero
        · omega
      rw [State.runSiteConfig_of_config station, none]
      rfl
    · rw [State.runSiteConfig_of_config station, readSiteConfig_eq_some.2 ⟨capacity, cap, halts, rfl⟩]
      rfl
  · have executes : exec .channelConfig s = .next s.runChannelConfig := exec_host_of_awaits released awaits
    rw [executes]
    refine ⟨fun other => congrArg _ (State.runChannelConfig_of_other other), fun station bad => ?_,
      fun station chan settings refused => ?_, fun station chan settings list closing stuck => ?_⟩
    · exact congrArg _ (State.runChannelConfig_of_bad station (bad.imp_left toChan_eq_none.2))
    · rw [State.runChannelConfig_of_args station chan settings, if_neg]
      rw [State.mayConfigure_iff]
      rintro ⟨list, closing, stuck⟩
      rcases refused with runs | closes | jams
      · exact list runs
      · exact closing closes
      · exact stuck jams
    · have stays : (s.setChan c ((s.chan c).configure set)).Stays :=
        .inl fun isolated => StationState.noConfusion (station.symm.trans isolated)
      have silent : (s.setChan c ((s.chan c).configure set)).mu.station.silent = true := by
        show s.mu.station.silent = true
        rw [station]
        rfl
      rw [State.runChannelConfig_of_args station chan settings,
        if_pos ((State.mayConfigure_iff s c set).2 ⟨list, closing, stuck⟩), State.conclude_of_silent silent stays]
      refine ⟨_, rfl, rfl, ?_⟩
      have here : ∀ h, (((s.setChan c ((s.chan c).configure set)).setHu h).finish .ok []).chan c =
        (s.chan c).configure set := fun _ => State.chan_setChan_same s c _
      have elsewhere : ∀ h, ∀ d : Chan, d ≠ c →
        (((s.setChan c ((s.chan c).configure set)).setHu h).finish .ok []).chan d = s.chan d :=
          fun _ d other => State.chan_setChan_ne s _ other.symm
      obtain ⟨is_set, totalizer, unattributed, absent, present⟩ := Channel.configure_parts (s.chan c) set
      rw [here]
      exact ⟨is_set, totalizer, unattributed, absent, present, elsewhere _, rfl, rfl, rfl, rfl, rfl, rfl, rfl⟩

end Sys2Proof
end

section
/-!
SUPPORT. The front frame of the outbound set and what the frame that is started for it carries (R116, R117, R130, R9).
-/

namespace Sys2Proof.Machine

/-! ### Rank and front -/

theorem State.rank_from_lastSender (s : State) : (s.bus.lastSender.val + 1 + s.rank.val) % 16 = s.own.val := by
  unfold State.rank
  rw [Fin.val_sub, Fin.val_sub]
  have := s.own.isLt
  have := s.bus.lastSender.isLt
  have one : (1 : Addr).val = 1 := rfl
  rw [one]
  omega

theorem OutFrame.urgent_iff (f : OutFrame) :
    f.urgent = true ↔ f = .release ∨ (∃ r, f = .halt r) ∨ ∃ m, f = .haltAck m := by
  cases f <;> simp [OutFrame.urgent]

theorem frontPlace_of_urgent {older newer : List OutFrame} {f : OutFrame} (urgent : f.urgent = true)
    (none : ∀ g ∈ older, g.urgent = false) : frontPlace (older ++ f :: newer) = older.length := by
  have found : (older ++ f :: newer).findIdx? OutFrame.urgent = some older.length := by
    induction older with
    | nil => simp [List.findIdx?_cons, urgent]
    | cons g older ih =>
      rw [List.cons_append, List.findIdx?_cons, none g List.mem_cons_self,
        ih fun h member => none h (List.mem_cons_of_mem _ member)]
      rfl
  unfold frontPlace
  rw [found]
  rfl

theorem frontPlace_of_none {out : List OutFrame} (none : ∀ g ∈ out, g.urgent = false) : frontPlace out = 0 := by
  unfold frontPlace
  rw [List.findIdx?_eq_none_iff.2 none]
  rfl

/-- R130: the place of the front frame, the oldest urgent one or else the oldest. -/
theorem frontPlace_split {older newer : List OutFrame} {f : OutFrame}
    (first : f.urgent = true ∧ (∀ g ∈ older, g.urgent = false) ∨
      older = [] ∧ ∀ g ∈ older ++ f :: newer, g.urgent = false) :
    frontPlace (older ++ f :: newer) = older.length := by
  rcases first with ⟨urgent, none⟩ | ⟨rfl, none⟩
  · exact frontPlace_of_urgent urgent none
  · exact frontPlace_of_none none

theorem State.front_split {s : State} {older newer : List OutFrame} {f : OutFrame}
    (out : s.bus.outbound = older ++ f :: newer) (place : frontPlace s.bus.outbound = older.length) :
    s.front = some f := by
  unfold State.front
  rw [place, out, List.getElem?_append_right (Nat.le_refl _), Nat.sub_self]
  rfl

theorem State.front_of_empty {s : State} (empty : s.bus.outbound = []) : s.front = none := by
  unfold State.front
  rw [empty]
  rfl

/-! ### The content of a BEAT -/

/-- R9: the item of a channel in the entry list. -/
theorem State.beatBody_entries (s : State) : s.beatBody.entries = allChans.filterMap fun c =>
    if s.mu.station = .listening then
      (if (s.chan c).present then s.head c else none).map fun r =>
        ⟨byteOf c.val, byteOf r.level.val, byteOf r.demand, 0, 1⟩
    else (slot s.ct.table s.own c).map fun e =>
      ⟨byteOf c.val, byteOf e.level.val, byteOf e.demand, if e.latched then 1 else 0, BitVec.ofNat 4 e.phase.code⟩ := by
  show (if s.mu.station = .listening then s.askingItems else s.ownItems) = _
  split
  · rfl
  · rfl

theorem State.beatBody_gauge_absent {s : State} (none : s.isMember s.own = false ∨ s.gaugeOf s.own = none) :
    s.beatBody.gauge.presence = 0 := by
  have absent : s.gaugeOf s.own = Option.none := by
    rcases none with outside | without
    · unfold State.gaugeOf
      rw [Option.not_isSome_iff_eq_none.1 (Bool.eq_false_iff.1 outside)]
      rfl
    · exact without
  show (gaugeFieldFor s.free (s.gaugeOf s.own)).presence = 0
  rw [absent]
  rfl

theorem State.beatBody_gauge_present {s : State} {g : Gauge} (held : s.gaugeOf s.own = some g) : s.beatBody.gauge =
    ⟨1, BitVec.ofNat 4 g.hundreds.val ++ BitVec.ofNat 4 g.tens.val ++ BitVec.ofNat 4 g.units.val⟩ := by
  show gaugeFieldFor s.free (s.gaugeOf s.own) = _
  rw [held]
  rfl

end Sys2Proof.Machine
end

section
namespace Sys2Proof
open Sys2Proof.Machine

/-- Settles O24: the rank, the front frame by its place, and the content of each kind. -/
theorem frontFrameAndItsContent : Obligations.FrontFrameAndItsContent := by
  unfold Obligations.FrontFrameAndItsContent
  intro s
  refine ⟨s.rank_from_lastSender, Nat.mul_comm _ _, congrArg (48 + ·) (Nat.mul_comm _ _), State.front_of_empty,
    fun older f newer out first => ?_, OutFrame.urgent_iff, fun _ _ _ _ => rfl, fun _ _ _ => ⟨_, rfl⟩,
    fun _ _ => rfl, fun _ => rfl, ⟨_, rfl⟩, fun _ => ⟨rfl, rfl⟩, rfl, fun _ => rfl, fun _ => rfl, rfl, s.beatBody, rfl,
    rfl, rfl, rfl, State.beatBody_gauge_absent, fun g => State.beatBody_gauge_present, rfl, rfl, rfl, rfl, rfl,
    s.beatBody_entries⟩
  have place : frontPlace s.bus.outbound = older.length := by
    rw [out] at first ⊢
    exact frontPlace_split first
  exact ⟨State.front_split out place, place⟩

end Sys2Proof
end

section
/-!
SUPPORT. Frames on the line: the CRC bit by bit, the levels of a frame, and the receive checker's reading of the
characters of a frame (R114, R115, R122, 12.1).
-/

namespace Sys2Proof.Machine

/-! ### The CRC -/

theorem getLsbD_crcStep (reg : BitVec 16) (bit : Bool) (i : Fin 16) : (crcStep reg bit).getLsbD i.val =
    ((decide (i ≠ 0) && reg.getLsbD (i.val - 1)) ^^
      (decide (i = 0 ∨ i = 2 ∨ i = 15) && (reg.getLsbD 15 ^^ bit))) := by
  have shifted : (reg <<< 1).getLsbD i.val = (decide (i ≠ 0) && reg.getLsbD (i.val - 1)) := by
    rw [BitVec.getLsbD_shiftLeft, decide_eq_true i.isLt, Bool.true_and]
    refine congrArg (· && _) (Bool.eq_iff_iff.2 ?_)
    rw [Bool.not_eq_true', decide_eq_false_iff_not, decide_eq_true_eq, Ne, Fin.ext_iff]
    show ¬ i.val < 1 ↔ ¬ i.val = 0
    omega
  have polynomial : ∀ j : Fin 16, (0x8005#16).getLsbD j.val = decide (j = 0 ∨ j = 2 ∨ j = 15) := by decide
  unfold crcStep
  split
  · next feeds => rw [BitVec.getLsbD_xor, shifted, polynomial, feeds, Bool.and_true]
  · next quiet => rw [shifted, Bool.eq_false_iff.2 quiet, Bool.and_false, Bool.xor_false]

theorem crcStep_of_top (reg : BitVec 16) : crcStep reg (reg.getLsbD 15) = reg <<< 1 := by
  unfold crcStep
  rw [if_neg]
  simp

/-- The register fed its own bits, highest first, is shifted out. -/
theorem foldl_crcStep_own (w : BitVec 16) (n : Nat) (within : n ≤ 16) :
    ((List.range n).map fun i => w.getLsbD (15 - i)).foldl crcStep w = w <<< n := by
  induction n with
  | zero => rw [BitVec.shiftLeft_zero]; rfl
  | succ n ih =>
    have top : (w <<< n).getLsbD 15 = w.getLsbD (15 - n) := by
      rw [BitVec.getLsbD_shiftLeft]
      simp only [show 15 < 16 from by decide, decide_true, Bool.true_and]
      rw [decide_eq_false (show ¬ 15 < n by omega)]
      rfl
    rw [List.range_succ, List.map_append, List.foldl_append, ih (by omega), BitVec.shiftLeft_add, List.map_singleton,
      List.foldl_cons, List.foldl_nil, ← top, crcStep_of_top]

theorem getLsbD_crcBytes (w : BitVec 16) (i : Fin 8) : (crcBytes w).length = 2 ∧
    ((crcBytes w).getD 0 0).getLsbD i.val = w.getLsbD (15 - i.val) ∧
    ((crcBytes w).getD 1 0).getLsbD i.val = w.getLsbD (7 - i.val) := by
  have reversed : ∀ k, ((w.extractLsb' k 8).reverse).getLsbD i.val = w.getLsbD (k + (7 - i.val)) := fun k => by
    rw [BitVec.getLsbD_reverse, BitVec.getMsbD_eq_getLsbD, BitVec.getLsbD_extractLsb', decide_eq_true i.isLt,
      decide_eq_true (by omega), Bool.true_and, Bool.true_and]
  refine ⟨rfl, (reversed 8).trans (congrArg _ (by omega)), (reversed 0).trans (congrArg _ (by omega))⟩

theorem bits_of_crcBytes (w : BitVec 16) :
    (crcBytes w).flatMap charBits = (List.range 16).map fun i => w.getLsbD (15 - i) := by
  have bits : ∀ (b : Byte) (k : Nat), (∀ i : Nat, i < 8 → b.getLsbD i = w.getLsbD (k - i)) →
      charBits b = [w.getLsbD k, w.getLsbD (k - 1), w.getLsbD (k - 2), w.getLsbD (k - 3), w.getLsbD (k - 4),
        w.getLsbD (k - 5), w.getLsbD (k - 6), w.getLsbD (k - 7)] := fun b k each => by
    show [b.getLsbD 0, b.getLsbD 1, b.getLsbD 2, b.getLsbD 3, b.getLsbD 4, b.getLsbD 5, b.getLsbD 6, b.getLsbD 7] = _
    rw [each 0 (by decide), each 1 (by decide), each 2 (by decide), each 3 (by decide), each 4 (by decide),
      each 5 (by decide), each 6 (by decide), each 7 (by decide)]
    rfl
  have high := bits _ 15 fun i small => (getLsbD_crcBytes w ⟨i, small⟩).2.1
  have low := bits _ 7 fun i small => (getLsbD_crcBytes w ⟨i, small⟩).2.2
  have pair : crcBytes w = [(crcBytes w).getD 0 0, (crcBytes w).getD 1 0] := rfl
  rw [pair, List.flatMap_cons, List.flatMap_cons, List.flatMap_nil, high, low]
  rfl

theorem crcOf_crcBytes (chars : List Byte) : crcOf (chars ++ crcBytes (crcOf chars)) = 0 := by
  have gone : (crcOf chars) <<< 16 = 0#16 := BitVec.shiftLeft_eq_zero (Nat.le_refl 16)
  unfold crcOf
  rw [List.flatMap_append, List.foldl_append, bits_of_crcBytes]
  exact (foldl_crcStep_own (crcOf chars) 16 (Nat.le_refl 16)).trans gone

/-! ### Levels -/

theorem byteOfBits_bits (b : Byte) : byteOfBits (b.getLsbD 0) (b.getLsbD 1) (b.getLsbD 2) (b.getLsbD 3) (b.getLsbD 4)
    (b.getLsbD 5) (b.getLsbD 6) (b.getLsbD 7) = b := by
  have all : ∀ x : BitVec 8, byteOfBits (x.getLsbD 0) (x.getLsbD 1) (x.getLsbD 2) (x.getLsbD 3) (x.getLsbD 4)
    (x.getLsbD 5) (x.getLsbD 6) (x.getLsbD 7) = x := by
    decide
  exact all b

theorem takeChars_charLevels (b : Byte) (rest : List Bool) :
    takeChars true (charLevels b ++ rest) = b :: takeChars true rest := by
  show takeChars true (false :: b.getLsbD 0 :: b.getLsbD 1 :: b.getLsbD 2 :: b.getLsbD 3 :: b.getLsbD 4 ::
    b.getLsbD 5 :: b.getLsbD 6 :: b.getLsbD 7 :: true :: rest) = _
  rw [takeChars, byteOfBits_bits]
  rfl

theorem takeChars_levels (chars : List Byte) : takeChars true (chars.flatMap charLevels) = chars := by
  induction chars with
  | nil => rfl
  | cons b chars ih => rw [List.flatMap_cons, takeChars_charLevels, ih]

/-! ### Fields of a payload -/

theorem toNat_pair {high low : Nat} (h : high < 16) (l : low < 16) : (byteOf (16 * high + low)).toNat = 16 * high + low :=
  toNat_byteOf (by omega)

theorem append_nibbles (x y : BitVec 4) : (x ++ y : Byte) = byteOf (16 * x.toNat + y.toNat) := by
  refine BitVec.eq_of_toNat_eq ?_
  rw [toNat_append_nibble, toNat_pair x.isLt y.isLt]

theorem nibbles_of_append (x y : BitVec 4) : (x ++ y : Byte).extractLsb' 4 4 = x ∧ (x ++ y : Byte).extractLsb' 0 4 = y := by
  have value := toNat_append_nibble x y
  have := x.isLt
  have := y.isLt
  constructor <;> refine BitVec.eq_of_toNat_eq ?_
  · refine (toNat_highNibble _).trans ?_
    rw [value]
    omega
  · refine (toNat_lowNibble _).trans ?_
    rw [value]
    omega

theorem append_of_nibbles (b : Byte) : (b.extractLsb' 4 4 ++ b.extractLsb' 0 4 : Byte) = b := by
  refine BitVec.eq_of_toNat_eq ?_
  refine (toNat_append_nibble _ _).trans ?_
  rw [toNat_highNibble, toNat_lowNibble]
  omega

theorem bytes16_word16 (h l : Byte) : bytes16 (word16 h l) = [h, l] := by
  rw [bytes16_eq, toNat_word16]
  have := l.isLt
  refine congrArg₂ (fun a b => [a, b]) (BitVec.eq_of_toNat_eq ?_) (BitVec.eq_of_toNat_eq ?_) <;>
    · rw [toNat_byteOf_mod]
      omega

theorem word16_eq_iff {h l : Byte} {w : BitVec 16} : word16 h l = w ↔ [h, l] = bytes16 w := by
  constructor
  · rintro rfl
    exact (bytes16_word16 h l).symm
  · intro bytes
    rw [bytes16_eq] at bytes
    cases bytes
    exact word16_bytes w

theorem gaugeFieldBytes_eq (g : GaugeField) :
    gaugeFieldBytes g = [byteOf (16 * g.presence.toNat + g.digits.toNat / 256), byteOf g.digits.toNat] := by
  have value : (g.presence ++ g.digits : BitVec 16).toNat = 4096 * g.presence.toNat + g.digits.toNat := by
    rw [BitVec.toNat_append, ← Nat.shiftLeft_add_eq_or_of_lt g.digits.isLt, Nat.shiftLeft_eq]
    omega
  unfold gaugeFieldBytes
  rw [bytes16_eq, value]
  refine congrArg₂ (fun a b => [a, b]) (byteOf_mod ?_ rfl) (byteOf_mod ?_ rfl) <;> omega

theorem toNat_gaugeFieldOf (h l : Byte) : (gaugeFieldOf h l).presence.toNat = h.toNat / 16 ∧
    (gaugeFieldOf h l).digits.toNat = 256 * (h.toNat % 16) + l.toNat := by
  refine ⟨toNat_highNibble h, ?_⟩
  show (h.extractLsb' 0 4 ++ l : BitVec 12).toNat = _
  rw [BitVec.toNat_append, ← Nat.shiftLeft_add_eq_or_of_lt l.isLt, Nat.shiftLeft_eq, toNat_lowNibble]
  omega

theorem gaugeFieldOf_eq_iff {h l : Byte} {g : GaugeField} : gaugeFieldOf h l = g ↔ [h, l] = gaugeFieldBytes g := by
  obtain ⟨presence, digits⟩ := toNat_gaugeFieldOf h l
  have := h.isLt
  have := l.isLt
  constructor
  · rintro rfl
    rw [gaugeFieldBytes_eq, presence, digits]
    refine congrArg₂ (fun a b => [a, b]) (BitVec.eq_of_toNat_eq ?_) (BitVec.eq_of_toNat_eq ?_) <;>
      · rw [toNat_byteOf_mod]
        omega
  · intro bytes
    rw [gaugeFieldBytes_eq, List.cons.injEq, List.cons.injEq] at bytes
    obtain ⟨high, low, _⟩ := bytes
    have := g.presence.isLt
    have := g.digits.isLt
    have high' := (congrArg BitVec.toNat high).trans (toNat_byteOf_mod _)
    have low' := (congrArg BitVec.toNat low).trans (toNat_byteOf_mod _)
    rw [high', low'] at digits
    rw [high'] at presence
    have same : (gaugeFieldOf h l).presence = g.presence := BitVec.eq_of_toNat_eq (by rw [presence]; omega)
    have same' : (gaugeFieldOf h l).digits = g.digits := BitVec.eq_of_toNat_eq (by rw [digits]; omega)
    cases g
    exact congrArg₂ GaugeField.mk same same'

theorem toFin_eq_iff {n : BitVec 4} {a : Addr} : n.toFin = a ↔ n = BitVec.ofNat 4 a.val := by
  rw [← BitVec.toNat_inj, BitVec.toNat_ofNat, Fin.ext_iff]
  show n.toNat = a.val ↔ _
  omega

theorem readPointers_eq_iff {a b : Byte} {p : Vector Addr 4} : readPointers a b = p ↔ [a, b] = pointerBytes p := by
  constructor
  · rintro rfl
    have nibble : ∀ n : BitVec 4, BitVec.ofNat 4 n.toFin.val = n := fun n => (toFin_eq_iff.1 rfl).symm
    show _ = [BitVec.ofNat 4 (a.extractLsb' 4 4).toFin.val ++ BitVec.ofNat 4 (a.extractLsb' 0 4).toFin.val,
      BitVec.ofNat 4 (b.extractLsb' 4 4).toFin.val ++ BitVec.ofNat 4 (b.extractLsb' 0 4).toFin.val]
    rw [nibble, nibble, nibble, nibble, append_of_nibbles, append_of_nibbles]
  · intro bytes
    cases bytes
    refine Vector.ext fun i small => ?_
    have read : ∀ j : Addr, (BitVec.ofNat 4 j.val).toFin = j := fun j => toFin_eq_iff.2 rfl
    match i, small with
    | 0, _ => exact (congrArg BitVec.toFin (nibbles_of_append _ _).1).trans (read _)
    | 1, _ => exact (congrArg BitVec.toFin (nibbles_of_append _ _).2).trans (read _)
    | 2, _ => exact (congrArg BitVec.toFin (nibbles_of_append _ _).1).trans (read _)
    | 3, _ => exact (congrArg BitVec.toFin (nibbles_of_append _ _).2).trans (read _)

/-! ### Lists of a payload -/

theorem readOrphans_of_bytes (os : List OrphanItem) (rest : List Byte) :
    readOrphans os.length (os.flatMap orphanItemBytes ++ rest) = some (os, rest) := by
  induction os with
  | nil => rfl
  | cons o os ih =>
    obtain ⟨h, l, load⟩ : ∃ h l, bytes16 o.load = [h, l] := ⟨_, _, rfl⟩
    have bytes : (o :: os).flatMap orphanItemBytes ++ rest = o.station :: h :: l :: (os.flatMap orphanItemBytes ++ rest) := by
      rw [List.flatMap_cons, orphanItemBytes, load]
      rfl
    rw [bytes, List.length_cons, readOrphans, ih, Option.map_some, word16_eq_iff.2 load.symm]

theorem bytes_of_readOrphans {n : Nat} {bytes rest : List Byte} {os : List OrphanItem}
    (read : readOrphans n bytes = some (os, rest)) : os.length = n ∧ bytes = os.flatMap orphanItemBytes ++ rest := by
  induction n generalizing bytes os with
  | zero =>
    cases read
    exact ⟨rfl, rfl⟩
  | succ n ih =>
    match bytes with
    | s :: h :: l :: bytes =>
      rw [readOrphans, Option.map_eq_some_iff] at read
      obtain ⟨⟨items, more⟩, inner, whole⟩ := read
      cases whole
      obtain ⟨length, same⟩ := ih inner
      refine ⟨congrArg (· + 1) length, ?_⟩
      rw [List.flatMap_cons, orphanItemBytes, bytes16_word16, same]
      rfl
    | [] | [_] | [_, _] => cases read

theorem readEntries_of_bytes (es : List EntryItem) (rest : List Byte) :
    readEntries es.length (es.flatMap entryItemBytes ++ rest) = some (es, rest) := by
  induction es with
  | nil => rfl
  | cons e es ih =>
    obtain ⟨latched, phase⟩ := nibbles_of_append e.latched e.phase
    have bytes : (e :: es).flatMap entryItemBytes ++ rest =
        e.channel :: e.level :: e.demand :: (e.latched ++ e.phase) :: (es.flatMap entryItemBytes ++ rest) := rfl
    rw [bytes, List.length_cons, readEntries, ih, Option.map_some, latched, phase]

theorem bytes_of_readEntries {n : Nat} {bytes rest : List Byte} {es : List EntryItem}
    (read : readEntries n bytes = some (es, rest)) : es.length = n ∧ bytes = es.flatMap entryItemBytes ++ rest := by
  induction n generalizing bytes es with
  | zero =>
    cases read
    exact ⟨rfl, rfl⟩
  | succ n ih =>
    match bytes with
    | c :: l :: d :: p :: bytes =>
      rw [readEntries, Option.map_eq_some_iff] at read
      obtain ⟨⟨items, more⟩, inner, whole⟩ := read
      cases whole
      obtain ⟨length, same⟩ := ih inner
      refine ⟨congrArg (· + 1) length, ?_⟩
      rw [List.flatMap_cons, entryItemBytes, append_of_nibbles, same]
      rfl
    | [] | [_] | [_, _] | [_, _, _] => cases read

/-! ### Payloads -/

theorem bodyFits_beat (b : BeatBody) : bodyFits (.beat b) = true ↔ b.orphans.length ≤ 15 ∧ b.entries.length ≤ 8 := by
  unfold bodyFits
  rw [Bool.and_eq_true, decide_eq_true_eq, decide_eq_true_eq]

theorem readBeat_of_payload {b : BeatBody} (fits : bodyFits (.beat b) = true) :
    readBeat (payloadBytes (.beat b)) = some b := by
  obtain ⟨orphans, entries⟩ := (bodyFits_beat b).1 fits
  obtain ⟨gh, gl, gauge⟩ : ∃ h l, gaugeFieldBytes b.gauge = [h, l] := ⟨_, _, rfl⟩
  obtain ⟨fh, fl, flags⟩ : ∃ h l, bytes16 b.flags = [h, l] := ⟨_, _, rfl⟩
  obtain ⟨pa, pb, pointers⟩ : ∃ h l, pointerBytes b.pointers = [h, l] := ⟨_, _, rfl⟩
  have payload : payloadBytes (.beat b) = b.weight :: b.cap :: b.capacity :: gh :: gl :: fh :: fl :: pa :: pb ::
      b.haltState :: b.reasons :: byteOf b.orphans.length ::
      (b.orphans.flatMap orphanItemBytes ++ (byteOf b.entries.length :: (b.entries.flatMap entryItemBytes ++ []))) := by
    unfold payloadBytes
    dsimp only
    rw [gauge, flags, pointers]
    simp
  have count : (byteOf b.orphans.length).toNat = b.orphans.length := toNat_byteOf (by omega)
  have count' : (byteOf b.entries.length).toNat = b.entries.length := toNat_byteOf (by omega)
  rw [payload]
  unfold readBeat
  dsimp only
  rw [count, if_pos orphans, readOrphans_of_bytes]
  dsimp only
  rw [count', if_pos entries, readEntries_of_bytes]
  dsimp only
  rw [gaugeFieldOf_eq_iff.2 gauge.symm, word16_eq_iff.2 flags.symm, readPointers_eq_iff.2 pointers.symm]

theorem payload_of_readBeat {payload : List Byte} {b : BeatBody} (read : readBeat payload = some b) :
    payload = payloadBytes (.beat b) ∧ bodyFits (.beat b) = true := by
  unfold readBeat at read
  split at read
  · next w cap capacity gh gl fh fl pa pb halt reasons count rest =>
    split at read
    · next few =>
      split at read
      · next orphans count' rest' list =>
        split at read
        · next few' =>
          split at read
          · next entries list' =>
            obtain ⟨length, bytes⟩ := bytes_of_readOrphans list
            obtain ⟨length', bytes'⟩ := bytes_of_readEntries list'
            cases read
            refine ⟨?_, (bodyFits_beat _).2 ⟨length ▸ few, length' ▸ few'⟩⟩
            unfold payloadBytes
            dsimp only
            rw [← gaugeFieldOf_eq_iff.1 rfl, ← word16_eq_iff.1 rfl, ← readPointers_eq_iff.1 rfl, length, length',
              byteOf_toNat, byteOf_toNat, bytes, bytes']
            simp
          · cases read
        · cases read
      · cases read
    · cases read
  · cases read

theorem readPayload_of_body {body : FrameBody} (fits : bodyFits body = true) :
    readPayload (kindOf body) (payloadBytes body) = some body := by
  cases body with
  | beat b =>
    show (readBeat (payloadBytes (.beat b))).map FrameBody.beat = _
    rw [readBeat_of_payload fits]
    rfl
  | claim => rfl
  | flag set clear =>
    have words : ∀ w : BitVec 16, word16 (w.extractLsb' 8 8) (w.extractLsb' 0 8) = w := fun w => word16_eq_iff.2 rfl
    show some (FrameBody.flag (word16 (set.extractLsb' 8 8) (set.extractLsb' 0 8))
      (word16 (clear.extractLsb' 8 8) (clear.extractLsb' 0 8))) = _
    rw [words, words]
  | gauge g =>
    obtain ⟨h, l, gauge⟩ : ∃ h l, gaugeFieldBytes g = [h, l] := ⟨_, _, rfl⟩
    show readPayload 4 (gaugeFieldBytes g) = _
    rw [gauge]
    exact congrArg (fun x => some (FrameBody.gauge x)) (gaugeFieldOf_eq_iff.2 gauge.symm)
  | drop => rfl
  | purge => rfl
  | leave => rfl
  | halt => rfl
  | haltAck => rfl
  | release => rfl

theorem body_of_readPayload {kind : Nat} {payload : List Byte} {body : FrameBody}
    (read : readPayload kind payload = some body) :
    kind = kindOf body ∧ payload = payloadBytes body ∧ bodyFits body = true := by
  match kind, payload with
  | 1, p =>
    obtain ⟨b, beat, same⟩ := Option.map_eq_some_iff.1 (show (readBeat p).map FrameBody.beat = some body from read)
    subst same
    exact ⟨rfl, payload_of_readBeat beat⟩
  | 2, [channel, level, demand, phase, cause] =>
    have same : FrameBody.claim channel level demand phase cause = body := Option.some.inj read
    subst same
    exact ⟨rfl, rfl, rfl⟩
  | 3, [a, b, c, d] =>
    have same : FrameBody.flag (word16 a b) (word16 c d) = body := Option.some.inj read
    subst same
    refine ⟨rfl, ?_, rfl⟩
    show _ = bytes16 (word16 a b) ++ bytes16 (word16 c d)
    rw [bytes16_word16, bytes16_word16]
    rfl
  | 4, [a, b] =>
    have same : FrameBody.gauge (gaugeFieldOf a b) = body := Option.some.inj read
    subst same
    exact ⟨rfl, gaugeFieldOf_eq_iff.1 rfl, rfl⟩
  | 5, [t] =>
    have same : FrameBody.drop t = body := Option.some.inj read
    subst same
    exact ⟨rfl, rfl, rfl⟩
  | 6, [t] =>
    have same : FrameBody.purge t = body := Option.some.inj read
    subst same
    exact ⟨rfl, rfl, rfl⟩
  | 7, [] =>
    have same : FrameBody.leave = body := Option.some.inj read
    subst same
    exact ⟨rfl, rfl, rfl⟩
  | 8, [r] =>
    have same : FrameBody.halt r = body := Option.some.inj read
    subst same
    exact ⟨rfl, rfl, rfl⟩
  | 9, [m] =>
    have same : FrameBody.haltAck m = body := Option.some.inj read
    subst same
    exact ⟨rfl, rfl, rfl⟩
  | 10, [] =>
    have same : FrameBody.release = body := Option.some.inj read
    subst same
    exact ⟨rfl, rfl, rfl⟩
  | 0, _ | _ + 11, _
  | 2, [] | 2, [_] | 2, [_, _] | 2, [_, _, _] | 2, [_, _, _, _] | 2, _ :: _ :: _ :: _ :: _ :: _ :: _
  | 3, [] | 3, [_] | 3, [_, _] | 3, [_, _, _] | 3, _ :: _ :: _ :: _ :: _ :: _
  | 4, [] | 4, [_] | 4, _ :: _ :: _ :: _
  | 5, [] | 5, _ :: _ :: _
  | 6, [] | 6, _ :: _ :: _
  | 7, _ :: _
  | 8, [] | 8, _ :: _ :: _
  | 9, [] | 9, _ :: _ :: _
  | 10, _ :: _ => cases read

/-- R122 checks 2 and 4: the payload of a body that can be told by its counts. -/
theorem readPayload_eq_some {kind : Nat} {payload : List Byte} {body : FrameBody} :
    readPayload kind payload = some body ↔ kind = kindOf body ∧ payload = payloadBytes body ∧ bodyFits body = true := by
  refine ⟨body_of_readPayload, ?_⟩
  rintro ⟨rfl, rfl, fits⟩
  exact readPayload_of_body fits

/-! ### Frames -/

theorem kindOf_lt (body : FrameBody) : kindOf body < 16 := by
  cases body <;> exact Nat.le_of_ble_eq_true rfl

theorem payload_length_le {body : FrameBody} (fits : bodyFits body = true) : (payloadBytes body).length ≤ 96 := by
  cases body with
  | beat b =>
    obtain ⟨orphans, entries⟩ := (bodyFits_beat b).1 fits
    have three : ∀ os : List OrphanItem, (os.flatMap orphanItemBytes).length = 3 * os.length := fun os => by
      induction os with
      | nil => rfl
      | cons o os ih =>
        rw [List.flatMap_cons, List.length_append, ih, List.length_cons]
        show 3 + 3 * os.length = _
        omega
    have four : ∀ es : List EntryItem, (es.flatMap entryItemBytes).length = 4 * es.length := fun es => by
      induction es with
      | nil => rfl
      | cons e es ih =>
        rw [List.flatMap_cons, List.length_append, ih, List.length_cons]
        show 4 + 4 * es.length = _
        omega
    show ([b.weight, b.cap, b.capacity] ++ gaugeFieldBytes b.gauge ++ bytes16 b.flags ++ pointerBytes b.pointers ++
      [b.haltState, b.reasons, byteOf b.orphans.length] ++ b.orphans.flatMap orphanItemBytes ++
      [byteOf b.entries.length] ++ b.entries.flatMap entryItemBytes).length ≤ 96
    simp only [List.length_append, three, four, gaugeFieldBytes, bytes16_length, pointerBytes, List.length_cons,
      List.length_nil]
    omega
  | _ => exact Nat.le_of_ble_eq_true rfl

theorem coveredChars_eq (f : Frame) : coveredChars f = [byteOf (16 * kindOf f.body + f.sender.val), byteOf (16 * f.seq.val),
    byteOf (payloadBytes f.body).length] ++ payloadBytes f.body := by
  have kind := kindOf_lt f.body
  have nibble : ∀ n, n < 16 → (BitVec.ofNat 4 n).toNat = n := fun n small => by
    rw [BitVec.toNat_ofNat]
    omega
  unfold coveredChars
  rw [append_nibbles, append_nibbles, nibble _ kind, nibble _ f.sender.isLt, nibble _ f.seq.isLt]
  rfl

/-- The first two characters after SYNC name kind, sender and number. -/
theorem header_iff (kindSender third : Byte) (kind : Nat) (small : kind < 16) (sender : Addr) (seq : Seq) :
    (third.extractLsb' 0 4 = 0 ∧ (kindSender.extractLsb' 4 4).toNat = kind ∧ (kindSender.extractLsb' 0 4).toFin = sender ∧
      (third.extractLsb' 4 4).toFin = seq) ↔
    kindSender = byteOf (16 * kind + sender.val) ∧ third = byteOf (16 * seq.val) := by
  have fin : ∀ (n : BitVec 4) (a : Fin 16), n.toFin = a ↔ n.toNat = a.val := fun n a => Fin.ext_iff
  have zero : third.extractLsb' 0 4 = 0 ↔ (third.extractLsb' 0 4).toNat = 0 := presence_eq _ 0 (by decide)
  rw [zero, fin, fin, toNat_highNibble, toNat_highNibble, toNat_lowNibble, toNat_lowNibble, ← BitVec.toNat_inj,
    ← BitVec.toNat_inj, toNat_byteOf_mod, toNat_byteOf_mod]
  have := kindSender.isLt
  have := third.isLt
  have := sender.isLt
  have := seq.isLt
  omega

/-- The envelope of a complete frame holds the frame whose characters it has. -/
theorem readEnvelope_eq_frame {kindSender third length : Byte} {payload crc : List Byte} {f : Frame}
    (len : length = byteOf payload.length) : readEnvelope kindSender third length payload crc = .frame f ↔
      bodyFits f.body = true ∧ [kindSender, third, length] ++ payload = coveredChars f ∧
        crc = crcBytes (crcOf (coveredChars f)) := by
  have header := header_iff kindSender third (kindOf f.body) (kindOf_lt f.body) f.sender f.seq
  have covered : [kindSender, third, length] ++ payload = coveredChars f ↔
      (kindSender = byteOf (16 * kindOf f.body + f.sender.val) ∧ third = byteOf (16 * f.seq.val)) ∧
        payload = payloadBytes f.body := by
    rw [coveredChars_eq, len]
    show _ :: _ :: _ :: payload = _ :: _ :: _ :: payloadBytes f.body ↔ _
    rw [List.cons.injEq, List.cons.injEq, List.cons.injEq]
    constructor
    · rintro ⟨first, second, _, rest⟩
      exact ⟨⟨first, second⟩, rest⟩
    · rintro ⟨⟨first, second⟩, rest⟩
      exact ⟨first, second, by rw [rest], rest⟩
  rw [covered, ← header]
  unfold readEnvelope
  constructor
  · intro read
    split at read
    · next sound =>
      split at read
      · next body body_eq =>
        cases read
        obtain ⟨kind, payload_eq, fits⟩ := readPayload_eq_some.1 body_eq
        refine ⟨fits, ⟨⟨sound.1, kind, rfl, rfl⟩, payload_eq⟩, ?_⟩
        rw [← covered.2 ⟨header.1 ⟨sound.1, kind, rfl, rfl⟩, payload_eq⟩]
        exact sound.2
      · cases read
    · cases read
  · rintro ⟨fits, ⟨⟨zero, kind, sender, seq⟩, payload_eq⟩, crc_eq⟩
    have chars := covered.2 ⟨header.1 ⟨zero, kind, sender, seq⟩, payload_eq⟩
    rw [chars, if_pos ⟨zero, crc_eq⟩, readPayload_eq_some.2 ⟨kind, payload_eq, fits⟩]
    dsimp only
    rw [sender, seq]

theorem frameChars_eq (f : Frame) :
    frameChars f = syncChar :: (coveredChars f ++ crcBytes (crcOf (coveredChars f))) := rfl

/-! ### The receive checker -/

theorem readEnvelope_cases (kindSender third length : Byte) (payload crc : List Byte) :
    readEnvelope kindSender third length payload crc = .error ∨
      ∃ f, readEnvelope kindSender third length payload crc = .frame f := by
  unfold readEnvelope
  split
  · split
    · exact .inr ⟨_, rfl⟩
    · exact .inl rfl
  · exact .inl rfl

theorem receiveChars_of_other {first : Byte} (other : first ≠ syncChar) (rest : List Byte) :
    receiveChars (first :: rest) = .notSync := by
  unfold receiveChars
  exact if_neg other

theorem receiveChars_of_header (kindSender third length : Byte) (rest : List Byte) :
    receiveChars (syncChar :: kindSender :: third :: length :: rest) =
      if 96 < length.toNat then .error
      else if rest.length < length.toNat + 2 then .fragment
      else readEnvelope kindSender third length (rest.take length.toNat) ((rest.drop length.toNat).take 2) := by
  unfold receiveChars
  exact if_pos rfl

theorem receiveChars_of_short {chars : List Byte} (short : chars.length < 3) :
    receiveChars (syncChar :: chars) = .fragment := by
  match chars, short with
  | [], _ | [_], _ | [_, _], _ => rfl

/-- The characters of a line, by what the checker does with them. -/
theorem receiveChars_shapes (chars : List Byte) : chars = [] ∨ (∃ first rest, chars = first :: rest ∧ first ≠ syncChar) ∨
    (∃ rest, chars = syncChar :: rest ∧ rest.length < 3) ∨
    ∃ kindSender third length rest, chars = syncChar :: kindSender :: third :: length :: rest := by
  match chars with
  | [] => exact .inl rfl
  | first :: rest =>
    by_cases sync : first = syncChar
    · subst sync
      match rest with
      | [] => exact .inr (.inr (.inl ⟨_, rfl, Nat.le_of_ble_eq_true rfl⟩))
      | [_] => exact .inr (.inr (.inl ⟨_, rfl, Nat.le_of_ble_eq_true rfl⟩))
      | [_, _] => exact .inr (.inr (.inl ⟨_, rfl, Nat.le_of_ble_eq_true rfl⟩))
      | kindSender :: third :: length :: rest => exact .inr (.inr (.inr ⟨kindSender, third, length, rest, rfl⟩))
    · exact .inr (.inl ⟨first, rest, rfl, sync⟩)

theorem receiveChars_eq_notSync (chars : List Byte) :
    receiveChars chars = .notSync ↔ chars ≠ [] ∧ chars.getD 0 0 ≠ syncChar := by
  rcases receiveChars_shapes chars with rfl | ⟨first, rest, rfl, other⟩ | ⟨rest, rfl, short⟩ |
    ⟨kindSender, third, length, rest, rfl⟩
  · exact iff_of_false nofun fun h => h.1 rfl
  · exact iff_of_true (receiveChars_of_other other rest) ⟨nofun, other⟩
  · rw [receiveChars_of_short short]
    exact iff_of_false nofun fun h => h.2 rfl
  · rw [receiveChars_of_header]
    refine iff_of_false ?_ fun h => h.2 rfl
    split
    · nofun
    · split
      · nofun
      · rcases readEnvelope_cases kindSender third length (rest.take length.toNat)
          ((rest.drop length.toNat).take 2) with error | ⟨f, frame⟩
        · rw [error]
          nofun
        · rw [frame]
          nofun

theorem receiveChars_eq_fragment (chars : List Byte) : receiveChars chars = .fragment ↔ chars = [] ∨
    chars.getD 0 0 = syncChar ∧ (chars.length < 4 ∨
      (chars.getD 3 0).toNat ≤ 96 ∧ chars.length < (chars.getD 3 0).toNat + 6) := by
  rcases receiveChars_shapes chars with rfl | ⟨first, rest, rfl, other⟩ | ⟨rest, rfl, short⟩ |
    ⟨kindSender, third, length, rest, rfl⟩
  · exact iff_of_true rfl (.inl rfl)
  · rw [receiveChars_of_other other]
    exact iff_of_false nofun fun h => h.elim nofun fun sync => other sync.1
  · exact iff_of_true (receiveChars_of_short short) (.inr ⟨rfl, .inl (Nat.succ_lt_succ short)⟩)
  · have sizes : (syncChar :: kindSender :: third :: length :: rest).length = rest.length + 4 := rfl
    have fourth : (syncChar :: kindSender :: third :: length :: rest).getD 3 0 = length := rfl
    rw [receiveChars_of_header, sizes, fourth]
    split
    · next long =>
      refine iff_of_false nofun fun h => h.elim nofun fun sync => ?_
      omega
    · next allowed =>
      split
      · next cut => exact iff_of_true rfl (.inr ⟨rfl, .inr ⟨by omega, by omega⟩⟩)
      · next whole =>
        refine iff_of_false ?_ fun h => h.elim nofun fun sync => by omega
        rcases readEnvelope_cases kindSender third length (rest.take length.toNat)
          ((rest.drop length.toNat).take 2) with error | ⟨f, frame⟩
        · rw [error]
          nofun
        · rw [frame]
          nofun

theorem frame_of_receiveChars {chars : List Byte} {f : Frame} (read : receiveChars chars = .frame f) :
    bodyFits f.body = true ∧ frameChars f <+: chars := by
  rcases receiveChars_shapes chars with rfl | ⟨first, rest, rfl, other⟩ | ⟨rest, rfl, short⟩ |
    ⟨kindSender, third, length, rest, rfl⟩
  · cases read
  · rw [receiveChars_of_other other] at read
    cases read
  · rw [receiveChars_of_short short] at read
    cases read
  · rw [receiveChars_of_header] at read
    split at read
    · cases read
    · split at read
      · cases read
      · next whole =>
        have taken : (rest.take length.toNat).length = length.toNat := by
          rw [List.length_take]
          omega
        obtain ⟨fits, covered, crc⟩ := (readEnvelope_eq_frame (by rw [taken, byteOf_toNat])).1 read
        refine ⟨fits, (rest.drop length.toNat).drop 2, ?_⟩
        rw [frameChars_eq, ← crc, ← covered, List.cons_append, List.append_assoc, List.append_assoc,
          List.take_append_drop, List.take_append_drop]
        rfl

theorem receiveChars_of_frame {f : Frame} (fits : bodyFits f.body = true) (tail : List Byte) :
    receiveChars (frameChars f ++ tail) = .frame f := by
  have bound := payload_length_le fits
  have length : (byteOf (payloadBytes f.body).length).toNat = (payloadBytes f.body).length := toNat_byteOf (by omega)
  obtain ⟨c0, c1, crc⟩ : ∃ a b, crcBytes (crcOf (coveredChars f)) = [a, b] := ⟨_, _, rfl⟩
  have chars : frameChars f ++ tail = syncChar :: byteOf (16 * kindOf f.body + f.sender.val) ::
      byteOf (16 * f.seq.val) :: byteOf (payloadBytes f.body).length :: (payloadBytes f.body ++ (c0 :: c1 :: tail)) := by
    rw [frameChars_eq, crc, coveredChars_eq]
    simp
  rw [chars, receiveChars_of_header, length, if_neg (by omega), if_neg, List.take_left, List.drop_left,
    readEnvelope_eq_frame rfl]
  · exact ⟨fits, (coveredChars_eq f).symm, crc.symm⟩
  · rw [List.length_append, List.length_cons, List.length_cons]
    omega

end Sys2Proof.Machine
end

section
namespace Sys2Proof
open Sys2Proof.Machine

/-- Settles O49: the layout of a frame, the CRC bit by bit, and the checker's reading of the characters. -/
theorem framesReadBack : Obligations.FramesReadBack := by
  unfold Obligations.FramesReadBack
  intro f chars
  have prefixed : receiveChars chars = .frame f ↔ bodyFits f.body = true ∧ frameChars f <+: chars := by
    refine ⟨frame_of_receiveChars, ?_⟩
    rintro ⟨fits, tail, rfl⟩
    exact receiveChars_of_frame fits tail
  refine ⟨rfl, coveredChars_eq f, fun b => ⟨rfl, ?_, bodyFits_beat b⟩, fun _ _ _ _ _ => ⟨rfl, rfl⟩,
    fun _ _ => ⟨rfl, rfl⟩, fun g => ⟨rfl, rfl, gaugeFieldBytes_eq g⟩, fun _ => ⟨rfl, rfl, rfl, rfl, rfl, rfl, rfl, rfl⟩,
    rfl, rfl, rfl, rfl, fun body other => ?_, getLsbD_crcStep, rfl, getLsbD_crcBytes, crcOf_crcBytes chars,
    receiveChars_eq_notSync chars, receiveChars_eq_fragment chars, prefixed, fun fits => ⟨takeChars_levels _, ?_⟩⟩
  · have items : entryItemBytes = fun i => [i.channel, i.level, i.demand,
        byteOf (16 * i.latched.toNat + i.phase.toNat)] := funext fun i => by
      unfold entryItemBytes
      rw [append_nibbles]
    show [b.weight, b.cap, b.capacity] ++ gaugeFieldBytes b.gauge ++ bytes16 b.flags ++ pointerBytes b.pointers ++
      [b.haltState, b.reasons, byteOf b.orphans.length] ++ b.orphans.flatMap orphanItemBytes ++
      [byteOf b.entries.length] ++ b.entries.flatMap entryItemBytes = _
    rw [pointerBytes_eq, items]
    simp only [List.append_assoc, List.cons_append, List.nil_append]
    rfl
  · cases body with
    | beat => cases other
    | _ => rfl
  · have whole := receiveChars_of_frame fits []
    rwa [List.append_nil] at whole

end Sys2Proof
end

section
/-!
SUPPORT. What a station says of its channels: a state less its announcements, the derived phase by valve and head (R81), the
pending CLAIM of a channel, and what the comparison of R82 leaves.
-/

namespace Sys2Proof.Machine

/-! ### A state less its announcements -/

/-- A channel without its announced record. -/
def Channel.mute (ch : Channel) : Channel := { ch with announced := .gone none }

/-- A state without its announced records and its outbound set. -/
def State.mute (s : State) : State :=
  { s with chans := mapVec Channel.mute s.chans, bus := { s.bus with outbound := [] } }

section shared
variable {s t : State} (h : s.mute = t.mute)
include h

theorem mu_of_mute : s.mu = t.mu := by have e := congrArg State.mu h; exact e
theorem hu_of_mute : s.hu = t.hu := by have e := congrArg State.hu h; exact e
theorem ct_of_mute : s.ct = t.ct := by have e := congrArg State.ct h; exact e
theorem rm_of_mute : s.rm = t.rm := by have e := congrArg State.rm h; exact e
theorem log_of_mute : s.log = t.log := by have e := congrArg State.log h; exact e
theorem port_of_mute : s.port = t.port := by have e := congrArg State.port h; exact e
theorem events_of_mute : s.events = t.events := by have e := congrArg State.events h; exact e
theorem alloc_of_mute : s.alloc = t.alloc := by have e := congrArg State.alloc h; exact e
theorem site_of_mute : s.site = t.site := by have e := congrArg State.site h; exact e
theorem clock_of_mute : s.clock = t.clock := by have e := congrArg State.clock h; exact e
theorem straps_of_mute : s.straps = t.straps := by have e := congrArg State.straps h; exact e
theorem chan_of_mute (c : Chan) : (s.chan c).mute = (t.chan c).mute := by
  have e := congrArg (fun u : State => u.chans[c.val]) h
  simpa [State.mute, State.chan] using e
theorem head_of_mute (c : Chan) : s.head c = t.head c := by unfold State.head; rw [rm_of_mute h]
theorem bus_of_mute : { s.bus with outbound := [] } = { t.bus with outbound := [] } := by
  have e := congrArg State.bus h
  exact e

end shared

section shared
variable {a b : Channel} (h : a.mute = b.mute)
include h

theorem valve_of_mute : a.valve = b.valve := by have e := congrArg Channel.valve h; exact e
theorem settings_of_mute : a.settings = b.settings := by have e := congrArg Channel.settings h; exact e
theorem faults_of_mute : a.faults = b.faults := by have e := congrArg Channel.faults h; exact e
theorem stuckValues_of_mute : a.stuckValues = b.stuckValues := by have e := congrArg Channel.stuckValues h; exact e
theorem closeTimer_of_mute : a.closeTimer = b.closeTimer := by have e := congrArg Channel.closeTimer h; exact e
theorem with_announced_of_mute : a = { b with announced := a.announced } := by
  cases a
  cases b
  cases h
  rfl

end shared

theorem State.setChan_mute (s : State) (c : Chan) (ch : Channel) (same : ch.mute = (s.chan c).mute) :
    (s.setChan c ch).mute = s.mute := by
  have chans : mapVec Channel.mute (s.setChan c ch).chans = mapVec Channel.mute s.chans := by
    show mapVec Channel.mute (s.chans.set c.val ch) = _
    rw [mapVec_set, same]
    ext1 j hj
    by_cases here : c.val = j
    · subst here
      simp [State.chan]
    · simp [here]
  unfold State.mute
  rw [chans]
  rfl

theorem State.enqueue_mute (s : State) (f : OutFrame) : (s.enqueue f).mute = s.mute := by
  unfold State.enqueue
  split <;> rfl

theorem State.queueClaim_mute (s : State) (c : Chan) (k : ClaimContent) : (s.queueClaim c k).mute = s.mute := by
  unfold State.queueClaim
  split
  · rfl
  · exact (State.setChan_mute _ _ _ (by rw [State.enqueue_chan]; rfl)).trans (s.enqueue_mute _)

theorem State.announce_mute (s : State) (c : Chan) : (s.announce c).mute = s.mute := by
  unfold State.announce
  split
  · rfl
  · exact s.queueClaim_mute _ _
  · exact s.queueClaim_mute _ _
  · split
    · rfl
    · exact s.queueClaim_mute _ _

theorem State.announceAll_mute (s : State) : s.announceAll.mute = s.mute :=
  fold_leaves State.mute State.announce allChans s fun t c => t.announce_mute c

theorem State.queueCurrent_mute (s : State) (c : Chan) : (s.queueCurrent c).mute = s.mute := by
  unfold State.queueCurrent
  split
  · exact s.queueClaim_mute _ _
  · split
    · exact s.queueClaim_mute _ _
    · exact s.queueClaim_mute _ _

theorem State.queueDeparture_mute (s : State) (r : Run) : (s.queueDeparture r).mute = s.mute := by
  unfold State.queueDeparture
  dsimp only
  split
  · exact s.queueClaim_mute _ _
  · exact s.queueClaim_mute _ _
  · exact s.queueClaim_mute _ _
  · exact s.queueClaim_mute _ _
  · exact s.queueClaim_mute _ _
  · exact s.queueClaim_mute _ _
  · rfl

theorem State.leaveTest_mute (s : State) : s.leaveTest.mute = s.mute := by
  unfold State.leaveTest
  split
  · exact s.enqueue_mute _
  · rfl

/-! ### The derived phase (R81) -/

theorem derive_of_parts {s t : State} {c : Chan} (station : t.mu.station = s.mu.station) (head : t.head c = s.head c)
    (chan : (t.chan c).mute = (s.chan c).mute) : t.derive c = s.derive c := by
  have present : (t.chan c).present = (s.chan c).present := congrArg Option.isSome (settings_of_mute chan)
  have fault : (t.chan c).inFault = (s.chan c).inFault := by
    unfold Channel.inFault
    rw [faults_of_mute chan]
  unfold State.derive
  dsimp only
  rw [present, valve_of_mute chan, stuckValues_of_mute chan, fault, head, station]

theorem derive_of_mute {s t : State} (same : t.mute = s.mute) (c : Chan) : t.derive c = s.derive c :=
  derive_of_parts (congrArg MemberUnit.station (mu_of_mute same)) (head_of_mute same c) (chan_of_mute same c)

section
variable {s : State} {c : Chan}

theorem State.derive_of_absent (absent : (s.chan c).present = false) : s.derive c = none := by
  unfold State.derive
  rw [if_neg (Bool.eq_false_iff.1 absent)]

section
variable (present : (s.chan c).present = true)
include present

theorem State.derive_of_stuck {v : Level × Nat} (stuck : (s.chan c).valve = .stuck)
    (values : (s.chan c).stuckValues = some v) : s.derive c = some ⟨.stuck, v.1, v.2⟩ := by
  unfold State.derive
  dsimp only
  rw [if_pos present, stuck, values]
  rfl

theorem State.derive_of_driven {r : Run} (drives : (s.chan c).valve.driven = true) (head : s.head c = some r) :
    s.derive c = some ⟨.flowing, r.level, r.demand⟩ := by
  unfold State.derive
  dsimp only
  rw [if_pos present, head]
  rcases (Valve.driven_iff _).1 drives with opening | opened
  · rw [opening]
    rfl
  · rw [opened]
    rfl

theorem State.derive_of_closing (closing : (s.chan c).valve = .closing) :
    s.derive c = some (deriveClosing (s.head c)) := by
  unfold State.derive
  dsimp only
  rw [if_pos present, closing]

theorem State.derive_of_fault (closed : (s.chan c).valve = .closed) (fault : (s.chan c).inFault = true) :
    s.derive c = none := by
  unfold State.derive
  dsimp only
  rw [if_pos present, closed]
  exact if_pos fault

theorem State.derive_of_closed (closed : (s.chan c).valve = .closed) (healthy : (s.chan c).inFault = false) :
    s.derive c = (s.head c).map fun r =>
      ⟨if s.mu.station = .resync then .paused else .asking, r.level, r.demand⟩ := by
  unfold State.derive
  dsimp only
  rw [if_pos present, closed]
  exact if_neg (Bool.eq_false_iff.1 healthy)

end

end

theorem deriveClosing_of_closing {r : Run} (closing : r.state.isClosing = true) :
    deriveClosing (some r) = ⟨.yielding, r.level, r.demand⟩ := by
  unfold deriveClosing
  dsimp only
  rw [if_pos closing]

theorem deriveClosing_of_none {head : Option Run} (none : ∀ r, head = some r → r.state.isClosing = false) :
    deriveClosing head = ⟨.yielding, 3, 63⟩ := by
  cases head with
  | none => rfl
  | some r =>
    unfold deriveClosing
    dsimp only
    rw [if_neg (Bool.eq_false_iff.1 (none r rfl))]

/-! ### The pending CLAIM of a channel -/

theorem pendingClaim_cons_claim (c d : Chan) (k : ClaimContent) (out : List OutFrame) :
    pendingClaim (.claim d k :: out) c = if d = c then some k else pendingClaim out c := by
  unfold pendingClaim
  rw [List.findSome?_cons]
  split <;> simp_all

/-- A frame of the outbound set is a CLAIM. -/
def OutFrame.isClaim : OutFrame → Bool
  | .claim .. => true
  | _ => false

theorem pendingClaim_cons_other {f : OutFrame} (other : f.isClaim = false) (c : Chan) (out : List OutFrame) :
    pendingClaim (f :: out) c = pendingClaim out c := by
  unfold pendingClaim
  cases f with
  | claim d k => cases other
  | _ => rfl

theorem pendingClaim_insertOut (c d : Chan) (k : ClaimContent) (out : List OutFrame) :
    pendingClaim (insertOut (.claim c k) out) d = if c = d then some k else pendingClaim out d := by
  induction out with
  | nil => exact pendingClaim_cons_claim d c k []
  | cons g out ih =>
    cases g with
    | claim e l =>
      show pendingClaim (if (e == c) = true then _ else _) d = _
      split
      · next same =>
        obtain rfl := eq_of_beq same
        rw [pendingClaim_cons_claim]
        show pendingClaim (.claim e k :: out) d = _
        rw [pendingClaim_cons_claim]
        split <;> rfl
      · next apart =>
        have apart' : e ≠ c := fun same => apart (beq_iff_eq.2 same)
        rw [pendingClaim_cons_claim, pendingClaim_cons_claim, ih]
        by_cases here : e = d
        · rw [if_pos here, if_pos here, if_neg fun same => apart' (here.trans same.symm)]
        · rw [if_neg here, if_neg here]
    | _ =>
      refine (pendingClaim_cons_other rfl d _).trans ?_
      rw [pendingClaim_cons_other rfl]
      exact ih

theorem OutFrame.isClaim_of_sameKey {f g : OutFrame} (same : g.sameKey f = true) :
    g.isClaim = f.isClaim ∧ (g.combine f).isClaim = f.isClaim := by
  cases g <;> cases f <;> first | exact ⟨rfl, rfl⟩ | cases same

theorem pendingClaim_insertOut_other {f : OutFrame} (other : f.isClaim = false) (d : Chan) (out : List OutFrame) :
    pendingClaim (insertOut f out) d = pendingClaim out d := by
  induction out with
  | nil => exact pendingClaim_cons_other other d []
  | cons g out ih =>
    unfold insertOut
    split
    · next same =>
      obtain ⟨pending, combined⟩ := OutFrame.isClaim_of_sameKey same
      rw [pendingClaim_cons_other (combined.trans other), pendingClaim_cons_other (pending.trans other)]
    · cases g with
      | claim e l => rw [pendingClaim_cons_claim, pendingClaim_cons_claim, ih]
      | _ =>
        rw [pendingClaim_cons_other rfl, pendingClaim_cons_other rfl]
        exact ih

/-! ### Queueing a CLAIM -/

theorem StationState.active_of_not_silent {st : StationState} (loud : st.silent = false) : st.active = true := by
  cases st <;> first | rfl | cases loud

section
variable {s : State} (loud : s.mu.station.silent = false)
include loud

theorem State.queueClaim_of_loud (c : Chan) (k : ClaimContent) : s.queueClaim c k =
    (s.queued (.claim c k)).setChan c { s.chan c with announced := k.announces } := by
  unfold State.queueClaim
  rw [if_neg (Bool.eq_false_iff.1 loud), State.enqueue_of_active (StationState.active_of_not_silent loud)]

theorem State.pendingClaim_queueClaim (c : Chan) (k : ClaimContent) :
    pendingClaim (s.queueClaim c k).bus.outbound c = some k := by
  rw [State.queueClaim_of_loud loud]
  exact (pendingClaim_insertOut c c k _).trans (if_pos rfl)

theorem State.announced_queueClaim (c : Chan) (k : ClaimContent) :
    ((s.queueClaim c k).chan c).announced = k.announces := by
  rw [State.queueClaim_of_loud loud, State.chan_setChan_same]

end

theorem State.announce_of_live_same {s : State} {c : Chan} {k : Claimed} (derived : s.derive c = some k)
    (said : (s.chan c).announced = .live k) : s.announce c = s := by
  unfold State.announce
  rw [derived, said]
  exact if_pos rfl

theorem State.announce_of_live_other {s : State} {c : Chan} {k : Claimed} (derived : s.derive c = some k)
    (other : (s.chan c).announced ≠ .live k) : s.announce c = s.queueClaim c (.live k.phase k.level k.demand) := by
  unfold State.announce
  rw [derived]
  cases said : (s.chan c).announced with
  | gone l => rfl
  | live d =>
    rw [said] at other
    exact if_neg fun same => other (congrArg Announced.live same.symm)

theorem State.announce_of_gone_same {s : State} {c : Chan} {l : Option Level} (derived : s.derive c = none)
    (said : (s.chan c).announced = .gone l) : s.announce c = s := by
  unfold State.announce
  rw [derived, said]

theorem State.announce_of_gone_other {s : State} {c : Chan} {k : Claimed} (derived : s.derive c = none)
    (said : (s.chan c).announced = .live k) : s.announce c = s.queueClaim c (.gone k.level .withdrawn) := by
  unfold State.announce
  rw [derived, said]

/-! ### The record holds the derivation -/

/-- The announced record of a channel holds its derivation. -/
def State.Holds (s : State) (c : Chan) : Prop :=
  (∀ k, s.derive c = some k → (s.chan c).announced = .live k) ∧
    (s.derive c = none → ∃ l, (s.chan c).announced = .gone l)

theorem State.Holds.of_chan {s t : State} {c : Chan} (holds : s.Holds c) (derive : t.derive c = s.derive c)
    (said : (t.chan c).announced = (s.chan c).announced) : t.Holds c := by
  unfold State.Holds
  rw [derive, said]
  exact holds

theorem State.announce_holds {s : State} (loud : s.mu.station.silent = false) (c : Chan) : (s.announce c).Holds c := by
  unfold State.Holds
  rw [derive_of_mute (s.announce_mute c)]
  cases derived : s.derive c with
  | none =>
    refine ⟨nofun, fun _ => ?_⟩
    cases said : (s.chan c).announced with
    | gone l =>
      rw [State.announce_of_gone_same derived said]
      exact ⟨l, said⟩
    | live k =>
      rw [State.announce_of_gone_other derived said]
      exact ⟨_, State.announced_queueClaim loud c _⟩
  | some k =>
    refine ⟨fun d same => ?_, nofun⟩
    cases same
    by_cases said : (s.chan c).announced = .live k
    · rw [State.announce_of_live_same derived said]
      exact said
    · rw [State.announce_of_live_other derived said]
      exact State.announced_queueClaim loud c _

theorem State.queueClaim_chan_ne (s : State) {c d : Chan} (k : ClaimContent) (other : c ≠ d) :
    (s.queueClaim c k).chan d = s.chan d := by
  unfold State.queueClaim
  split
  · rfl
  · exact (State.chan_setChan_ne _ _ other).trans (s.enqueue_chan _ d)

theorem State.announce_chan_ne (s : State) {c d : Chan} (other : c ≠ d) : (s.announce c).chan d = s.chan d := by
  unfold State.announce
  split
  · rfl
  · exact s.queueClaim_chan_ne _ other
  · exact s.queueClaim_chan_ne _ other
  · split
    · rfl
    · exact s.queueClaim_chan_ne _ other

theorem State.announce_keeps_holds {s : State} (loud : s.mu.station.silent = false) {c : Chan} (d : Chan)
    (holds : s.Holds c) : (s.announce d).Holds c := by
  by_cases here : d = c
  · subst here
    exact State.announce_holds loud d
  · exact holds.of_chan (derive_of_mute (s.announce_mute d) c) (congrArg Channel.announced (s.announce_chan_ne here))

theorem State.announceAll_holds {s : State} (loud : s.mu.station.silent = false) (c : Chan) : s.announceAll.Holds c := by
  have walk : ∀ (cs : List Chan) (t : State), t.mu.station.silent = false → (c ∈ cs ∨ t.Holds c) →
      (cs.foldl State.announce t).Holds c := by
    intro cs
    induction cs with
    | nil =>
      intro t _ reached
      exact reached.resolve_left List.not_mem_nil
    | cons d cs ih =>
      intro t noisy reached
      have noisy' : (t.announce d).mu.station.silent = false := by
        rw [mu_of_mute (t.announce_mute d)]
        exact noisy
      refine ih _ noisy' ?_
      rcases reached with member | holds
      · rcases List.mem_cons.1 member with rfl | later
        · exact .inr (State.announce_holds noisy c)
        · exact .inl later
      · exact .inr (State.announce_keeps_holds noisy d holds)
  exact walk allChans s loud (.inl (mem_allChans c))

theorem State.ackTest_chan (s : State) (c : Chan) : s.ackTest.chan c = s.chan c := by
  unfold State.ackTest
  split
  · exact s.enqueue_chan _ c
  · rfl

theorem State.ackTest_rm (s : State) : s.ackTest.rm = s.rm := by
  unfold State.ackTest
  split
  · exact s.enqueue_rm _
  · rfl

theorem State.leaveTest_chan (s : State) (c : Chan) : s.leaveTest.chan c = s.chan c := by
  unfold State.leaveTest
  split
  · exact s.enqueue_chan _ c
  · rfl

/-- The tests after the comparison leave channels and derivation. -/
theorem State.tests_derive (s : State) (c : Chan) : s.ackTest.leaveTest.chan c = s.chan c ∧
    s.ackTest.leaveTest.derive c = s.derive c := by
  have chan : s.ackTest.leaveTest.chan c = s.chan c := (State.leaveTest_chan _ c).trans (s.ackTest_chan c)
  refine ⟨chan, derive_of_parts ?_ ?_ (congrArg Channel.mute chan)⟩
  · rw [mu_of_bare (State.leaveTest_bare _), s.ackTest_mu]
  · unfold State.head
    rw [State.leaveTest_rm, s.ackTest_rm]

theorem State.stays_of_loud {s : State} (loud : s.mu.station.silent = false) : s.Stays :=
  .inl fun isolated => by
    rw [isolated] at loud
    cases loud

theorem State.conclude_holds {s : State} (loud : s.mu.station.silent = false) (c : Chan) : s.conclude.Holds c := by
  obtain ⟨chan, derive⟩ := s.announceAll.tests_derive c
  rw [State.conclude_eq s (State.stays_of_loud loud)]
  exact (State.announceAll_holds loud c).of_chan derive (congrArg Channel.announced chan)

/-! ### The CLAIM of a departure (R62) -/

section
variable {s : State} {r : Run} (loud : s.mu.station.silent = false)
include loud

/-- What the CLAIM of a departure says, by the valve, the fault state and the head that follows. -/
theorem State.pendingClaim_queueDeparture {k : ClaimContent} (queues : s.queueDeparture r = s.queueClaim r.channel k) :
    pendingClaim (s.queueDeparture r).bus.outbound r.channel = some k := by
  rw [queues]
  exact State.pendingClaim_queueClaim loud _ _

end

end Sys2Proof.Machine
end

section
namespace Sys2Proof
open Sys2Proof.Machine

/-- Settles O47: the derivation by valve, fault and head, and the comparison by derivation and record. -/
theorem derivedPhaseAndClaims : Obligations.DerivedPhaseAndClaims := by
  unfold Obligations.DerivedPhaseAndClaims
  intro s c
  refine ⟨State.derive_of_absent, fun present => ⟨fun v => State.derive_of_stuck present,
    fun r => State.derive_of_driven present, fun r closing head state => ?_, fun closing none => ?_,
    State.derive_of_fault present, fun r closed healthy head => ?_, fun closed none => ?_⟩, fun silent => ?_,
    fun loud => ?_⟩
  · rw [State.derive_of_closing present closing, head, deriveClosing_of_closing state]
  · rw [State.derive_of_closing present closing, deriveClosing_of_none none]
  · rw [State.derive_of_closed present closed healthy, head]
    rfl
  · cases fault : (s.chan c).inFault with
    | true => exact State.derive_of_fault present closed fault
    | false =>
      rw [State.derive_of_closed present closed fault, none]
      rfl
  · refine ⟨State.announce_of_silent silent c, fun r _ => ?_⟩
    unfold State.queueDeparture
    dsimp only
    split <;> first | rfl | exact State.queueClaim_of_silent silent _ _
  · refine ⟨fun k => State.announce_of_live_same, fun l => State.announce_of_gone_same, fun k derived other => ?_,
      fun k derived said => ?_, (State.conclude_holds loud c).1, (State.conclude_holds loud c).2, fun r here => ?_⟩
    · rw [State.announce_of_live_other derived other, State.queueClaim_of_loud loud]
      rfl
    · rw [State.announce_of_gone_other derived said, State.queueClaim_of_loud loud]
      rfl
    · subst here
      refine ⟨fun closed healthy head => ?_, fun h closed healthy head => ?_, fun closed fault head => ?_,
        fun h closed fault head => ?_, fun closing => ?_, fun v stuck values => ?_⟩ <;>
        refine State.pendingClaim_queueDeparture loud ?_ <;> unfold State.queueDeparture <;> dsimp only
      · rw [closed, healthy, head]
      · rw [closed, healthy, head]
      · rw [closed, fault, head]
      · rw [closed, fault, head]
      · rw [closing]
      · rw [stuck, values]
        rfl

end Sys2Proof
end

section
/-!
SUPPORT. When a station is at rest, the entry to LISTENING as a whole (R140, R142, R150, R169), and the steps of the part itself.
-/

namespace Sys2Proof.Machine

/-! ### Stations at rest -/

theorem Valve.moving_eq_false {v : Valve} : v.moving = false ↔ v = .closed ∨ v = .stuck := by
  cases v <;> simp [Valve.moving]

theorem State.settled_iff {s : State} : s.settled = true ↔
    ∀ c : Chan, (s.chan c).present = true → (s.chan c).valve = .closed ∨ (s.chan c).valve = .stuck := by
  unfold State.settled
  rw [List.all_eq_true]
  constructor
  · intro rests c present
    have rest := rests c (mem_allChans c)
    rw [present, Bool.true_and, Bool.not_eq_true'] at rest
    exact Valve.moving_eq_false.1 rest
  · intro rests c _
    cases present : (s.chan c).present with
    | false => rfl
    | true => rw [Bool.true_and, Valve.moving_eq_false.2 (rests c present)]; rfl

theorem State.allClosed_iff {s : State} : s.allClosed = true ↔
    ∀ c : Chan, (s.chan c).present = true → (s.chan c).valve = .closed := by
  unfold State.allClosed
  rw [List.all_eq_true]
  constructor
  · intro rests c present
    have rest := rests c (mem_allChans c)
    rwa [present, Bool.not_true, Bool.false_or, beq_iff_eq] at rest
  · intro rests c _
    cases present : (s.chan c).present with
    | false => rfl
    | true => rw [rests c present]; rfl

theorem getLsbD_collectChans (p : Chan → Prop) [DecidablePred p] (c : Chan) (cs : List Chan) (m : Byte) :
    (cs.foldl (fun m c => if p c then m ||| BitVec.twoPow 8 c.val else m) m).getLsbD c.val =
      (m.getLsbD c.val || (decide (c ∈ cs) && decide (p c))) := by
  induction cs generalizing m with
  | nil => simp
  | cons d cs ih =>
    rw [List.foldl_cons, ih]
    by_cases here : c = d
    · subst here
      by_cases holds : p c <;> simp [holds]
    · have apart : ¬ c.val = d.val := fun e => here (Fin.ext e)
      by_cases holds : p d <;> simp [holds, here, apart]

theorem State.getLsbD_stuckMask (s : State) (c : Chan) : s.stuckMask.getLsbD c.val = decide ((s.chan c).valve = .stuck) := by
  refine (getLsbD_collectChans (fun c => (s.chan c).valve = .stuck) c allChans 0).trans ?_
  simp [mem_allChans]

theorem State.ackTest_of_settled {s : State} (pending : s.hu.ackPending = true) (settled : s.settled = true)
    (active : s.mu.station.active = true) : s.ackTest = (s.queued (.haltAck s.stuckMask)).setHu
      { s.hu with ackPending := false } := by
  unfold State.ackTest
  rw [if_pos ⟨pending, settled⟩, State.enqueue_of_active active]

theorem State.leaveTest_of_closed {s : State} (leaving : s.mu.station = .leaving) (closed : s.allClosed = true)
    (idle : s.bus.tx = none) : s.leaveTest = s.queued .leave := by
  unfold State.leaveTest
  rw [if_pos ⟨leaving, closed, by rw [idle]; rfl⟩, State.enqueue_of_active (by rw [leaving]; rfl)]

theorem State.relistenTest_of_settled {s : State} (station : s.mu.station = .isolated) (cause : s.mu.cause = .selfDrop)
    (settled : s.settled = true) : s.relistenTest = s.relisten .none 0 := by
  unfold State.relistenTest
  rw [if_pos ⟨station, cause, settled⟩]
  rfl

theorem State.relistenTest_of_other {s : State} (other : ¬ (s.mu.station = .isolated ∧ s.mu.cause = .selfDrop ∧ s.settled = true)) :
    s.relistenTest = s := if_neg other

/-! ### A recomputation over an empty copy -/

theorem mapVec_replicate {α β : Type} (f : α → β) (n : Nat) (x : α) :
    mapVec f (Vector.replicate n x) = Vector.replicate n (f x) := by
  ext i h
  simp

theorem mapEntries_empty (f : Entry → Entry) : mapEntries f Table.empty = Table.empty := by
  unfold mapEntries Table.empty
  rw [mapVec_replicate, mapVec_replicate]
  rfl

theorem sumTable_empty (f : Entry → Nat) : sumTable f Table.empty = 0 := by
  simp [sumTable, sumRow, Table.empty]

theorem candidateOrder_empty (t : Table) (pointers : Vector Addr 4) : candidateOrder t Roster.empty pointers = [] := by
  have none : ∀ l cls p, rotationOrder t Roster.empty p l cls = [] := fun l cls p => by
    simp [rotationOrder, Roster.empty]
  simp [candidateOrder, none]

/-- R22: what a recomputation of an empty copy finds. -/
theorem State.allocate_of_empty {s : State} (table : s.ct.table = Table.empty) (roster : s.mu.roster = Roster.empty)
    (orphans : s.mu.orphans = []) (view : s.ct.capacityView = 0) :
    s.allocate.table = Table.empty ∧ s.allocate.result = ⟨0, 0, 0, true, false⟩ := by
  have cleared : s.clearedTable = Table.empty := by
    unfold State.clearedTable
    rw [table, mapEntries_empty]
  have free : s.frozen = false := by unfold State.frozen; rw [orphans]; rfl
  have walk : targetWalk 0 Table.empty Roster.empty s.ct.pointers = Walk.start 0 Roster.empty := by
    unfold targetWalk
    rw [candidateOrder_empty]
    rfl
  have effective : effectiveCapacity 0 Table.empty [] = 0 := by unfold effectiveCapacity; simp
  unfold State.allocate
  dsimp only
  rw [cleared, free, view, orphans, roster, effective, walk]
  simp only [Walk.start, List.foldl_nil, sumTable_empty, mapEntries_empty, ite_self]
  exact ⟨trivial, rfl⟩

/-! ### The entry to LISTENING -/

/-- In a silent station state the run side leaves the bus and the announced records. -/
theorem RunMove.announced_of_silent {s t : State} (one : RunMove s t) (silent : s.mu.station.silent = true) (c : Chan) :
    (t.chan c).announced = (s.chan c).announced := by
  cases one with
  | claim d k => rw [State.queueClaim_of_silent silent]
  | pool p same => rfl
  | valve d ch bare announced =>
    rw [State.chan_setChan]
    split
    · next here => subst here; exact announced
    · rfl
  | remove r b live => rfl

theorem RunSide.announced_of_silent {s t : State} (chain : RunSide s t) (silent : s.mu.station.silent = true) (c : Chan) :
    (t.chan c).announced = (s.chan c).announced := by
  refine (chain.keep (P := fun u => u.mu = s.mu ∧ (u.chan c).announced = (s.chan c).announced)
    (fun u v one kept => ?_) ⟨rfl, rfl⟩).2
  obtain ⟨mu, same⟩ := kept
  exact ⟨(mu_of_bare one.bare).trans mu, (one.announced_of_silent (by rw [mu]; exact silent) c).trans same⟩

theorem bus_of_bare {s t : State} (bare : s.bare = t.bare) (out : s.bus.outbound = t.bus.outbound) : s.bus = t.bus := by
  have same : { s.bus with outbound := [] } = { t.bus with outbound := [] } := congrArg State.bus bare
  have whole := congrArg (fun b : BusUnit => { b with outbound := t.bus.outbound }) same
  dsimp only at whole
  calc s.bus = { s.bus with outbound := t.bus.outbound } := by rw [← out]
    _ = t.bus := whole

theorem RunSide.bus_of_silent {s t : State} (chain : RunSide s t) (silent : s.mu.station.silent = true) : t.bus = s.bus :=
  bus_of_bare chain.bare (chain.silent silent)

/-- A recomputation with the evaluation that may follow, from the state in which its marks are written. -/
theorem RunSide.settleCopy (s : State) (p : Bool) :
    RunSide ((s.setTable s.allocate.table).setAlloc s.allocate.result) (s.recompute.evaluateIf p) :=
  (RunSide.recompute s).trans (RunSide.evaluateIf _ p)

theorem State.chan_written (s : State) (t : Table) (r : AllocResult) (c : Chan) :
    ((s.setTable t).setAlloc r).chan c = s.chan c := rfl

theorem hasEvent_of_events {s t : State} (events : t.events = s.events) (e : SiteEvent) : t.hasEvent e = s.hasEvent e := by
  unfold State.hasEvent
  rw [events]

section
variable (s : State) (k : IsolationCause) (n : Nat)

/-- R140: the station at the head of its entry to LISTENING. -/
def State.tuned : State := s.setMu { s.mu with station := .listening, cause := k }

theorem State.relisten_eq : s.relisten k n =
    ((s.tuned k).emptied n).recompute.evaluateIf (s.rosterSet != 0) := rfl

theorem State.emptied_allocate : ((s.tuned k).emptied n).allocate.table = Table.empty ∧
    ((s.tuned k).emptied n).allocate.result = ⟨0, 0, 0, true, false⟩ :=
  State.allocate_of_empty (by rw [State.emptied_ct]) (by rw [State.emptied_mu]) (by rw [State.emptied_mu])
    (by rw [State.emptied_ct])

theorem State.relisten_mu : (s.relisten k n).mu = { s.mu with
    station := .listening, cause := k, roster := Roster.empty, orphans := []
    listenWindow := some Config.listenMs } := by
  rw [State.relisten_eq, State.evaluateIf_mu, State.recompute_mu, State.emptied_mu]
  rfl

theorem State.relisten_ct : (s.relisten k n).ct = { s.ct with
    table := Table.empty, capacityView := 0, announcedSet := [], adoptionPending := true } := by
  rw [State.relisten_eq, State.evaluateIf_ct, State.recompute_ct, (s.emptied_allocate k n).1, State.emptied_ct]
  rfl

theorem State.relisten_alloc : (s.relisten k n).alloc = ⟨0, 0, 0, true, false⟩ := by
  rw [State.relisten_eq, alloc_of_bare (State.evaluateIf_bare _ _), State.recompute_alloc, (s.emptied_allocate k n).2]

theorem State.emptyCopy_hu : s.emptyCopy.hu = s.hu := by
  unfold State.emptyCopy
  dsimp only
  rw [State.setOrphans_hu, State.setCt_hu, State.setMu_hu]
  unfold State.raiseIf
  split <;> rfl

theorem State.emptied_hu : (s.emptied n).hu = { s.hu.clearRound with settle := 0, ackPending := false } := by
  have hu : (s.emptyCopy.announceGone.setAdoption true).hu = s.hu := by
    unfold State.setAdoption State.announceGone
    rw [State.setCt_hu, State.setChans_hu, s.emptyCopy_hu]
  unfold State.emptied
  dsimp only
  rw [State.setMu_hu, State.setHu_hu, hu]

theorem State.relisten_hu : (s.relisten k n).hu = { s.hu.clearRound with settle := 0, ackPending := false } := by
  rw [State.relisten_eq, State.evaluateIf_hu, State.recompute_hu, State.emptied_hu]
  rfl

/-- R140: the runs and valves of an entry to LISTENING. -/
theorem State.relisten_chain : RunSide ((((s.tuned k).emptied n).setTable ((s.tuned k).emptied n).allocate.table).setAlloc
    ((s.tuned k).emptied n).allocate.result) (s.relisten k n) := by
  rw [State.relisten_eq]
  exact RunSide.settleCopy _ _

theorem State.relisten_silent : ((((s.tuned k).emptied n).setTable ((s.tuned k).emptied n).allocate.table).setAlloc
    ((s.tuned k).emptied n).allocate.result).mu.station.silent = true := by
  rw [State.setAlloc_mu]
  unfold State.setTable
  rw [State.setCt_mu, State.emptied_mu]
  rfl

theorem State.relisten_bus : (s.relisten k n).bus =
    { s.bus with outbound := [], seq := 0, failures := n, beatTimer := none } := by
  rw [(s.relisten_chain k n).bus_of_silent (s.relisten_silent k n), State.setAlloc_bus]
  unfold State.setTable
  rw [State.setCt_bus, State.emptied_bus]
  rfl

theorem State.emptied_chans : (s.emptied n).chans = mapVec (fun ch => { ch with announced := .gone none }) s.chans := by
  have chans : s.emptyCopy.chans = s.chans := chans_of_plant s.emptyCopy_plant
  unfold State.emptied State.setAdoption
  dsimp only
  rw [State.setMu_chans, State.setHu_chans, State.setBus_chans, State.setCt_chans]
  unfold State.announceGone
  rw [State.setChans_chans, chans]

theorem State.emptied_chan (c : Chan) : (s.emptied n).chan c = { s.chan c with announced := .gone none } := by
  unfold State.chan
  rw [State.emptied_chans, mapVec_get]

theorem State.relisten_announced (c : Chan) : ((s.relisten k n).chan c).announced = .gone none := by
  rw [(s.relisten_chain k n).announced_of_silent (s.relisten_silent k n) c, State.chan_written, State.emptied_chan]

/-- R134, R137, R199: the events of an emptied copy. -/
theorem State.hasEvent_emptyCopy (e : SiteEvent) : s.emptyCopy.hasEvent e =
    (s.hasEvent e || (s.rosterSet != 0 && decide (e = .rosterChanged)) ||
      (!s.mu.orphans.isEmpty && decide (e = .freezeChanged))) := by
  have mu : (s.raiseIf (s.rosterSet != 0) .rosterChanged).mu = s.mu := mu_of_calm (s.raiseIf_calm _ _)
  unfold State.emptyCopy
  dsimp only
  unfold State.setOrphans
  rw [State.hasEvent_raiseIf, State.setCt_mu, State.setMu_mu, mu]
  refine congrArg₂ (· || ·) ?_ (by cases s.mu.orphans.isEmpty <;> rfl)
  rw [← s.hasEvent_raiseIf]
  exact hasEvent_of_events (by rw [State.setMu_events, State.setCt_events, State.setMu_events]) e

theorem State.emptied_events : (s.emptied n).events = s.emptyCopy.events := by
  unfold State.emptied State.setAdoption State.announceGone
  dsimp only
  rw [State.setMu_events, State.setHu_events, State.setBus_events, State.setCt_events, State.setChans_events]

theorem State.hasEvent_relisten (e : SiteEvent) : (s.relisten k n).hasEvent e =
    (s.hasEvent e || (s.rosterSet != 0 && decide (e = .rosterChanged)) ||
      (!s.mu.orphans.isEmpty && decide (e = .freezeChanged))) := by
  have events : (s.relisten k n).events = (s.tuned k).emptyCopy.events := by
    rw [State.relisten_eq, events_of_bare (State.evaluateIf_bare _ _), State.recompute_events, State.emptied_events]
  rw [hasEvent_of_events events, State.hasEvent_emptyCopy]
  rfl

end

end Sys2Proof.Machine
end

section
namespace Sys2Proof
open Sys2Proof.Machine

/-- Settles O45: with the station at rest each of the three tests takes its step, the entry to LISTENING being that of
`State.relisten`. -/
theorem stepsOfThePartItself : Obligations.StepsOfThePartItself := by
  unfold Obligations.StepsOfThePartItself
  intro s released
  refine ⟨fun pending active rests => ⟨?_, s.getLsbD_stuckMask⟩, fun leaving idle closed => ?_,
    fun station cause rests => ?_, fun station cause => ?_⟩
  · have step : exec .haltAckQueued s = .next s.ackTest := congrArg Host.Outcome.next (s.whenReleased_of_released _ released)
    rw [step, State.ackTest_of_settled pending (State.settled_iff.2 rests) active]
    rfl
  · have step : exec .leaveQueued s = .next s.leaveTest := congrArg Host.Outcome.next (s.whenReleased_of_released _ released)
    rw [step, State.leaveTest_of_closed leaving (State.allClosed_iff.2 closed) idle]
    rfl
  · have step : exec .selfDropRelisten s = .next s.relistenTest :=
      congrArg Host.Outcome.next (s.whenReleased_of_released _ released)
    refine ⟨_, step, ?_⟩
    rw [State.relistenTest_of_settled station cause (State.settled_iff.2 rests), State.relisten_bus, State.relisten_alloc,
      State.relisten_ct]
    have mu := s.relisten_mu .none 0
    have members : ∀ a : Addr, (s.relisten .none 0).member a = none := fun a => by
      unfold State.member
      rw [mu]
      simp [Roster.empty]
    rw [mu]
    exact ⟨rfl, rfl, rfl, rfl, rfl, rfl, members, rfl, rfl, rfl, rfl, rfl⟩
  · have step : exec .selfDropRelisten s = .next s.relistenTest :=
      congrArg Host.Outcome.next (s.whenReleased_of_released _ released)
    rw [step, State.relistenTest_of_other fun both => by rw [cause] at both; cases both.2.1]

end Sys2Proof
end

section
/-!
SUPPORT. What the end of an event leaves (log 11): all but announced records, outbound set and ack pending, unless the station
listens again by itself (R150). CLEAR_FAULT (R80).
-/

namespace Sys2Proof.Machine

/-! ### Channels less their announced records -/

section
variable {a b : Channel} (same : a.mute = b.mute)
include same

theorem unattributed_of_mute : a.unattributed = b.unattributed := by have e := congrArg Channel.unattributed same; exact e
theorem totalizer_of_mute : a.totalizer = b.totalizer := by have e := congrArg Channel.totalizer same; exact e
theorem vsw_of_mute : a.vsw = b.vsw := by have e := congrArg Channel.vsw same; exact e
theorem inFault_of_mute : a.inFault = b.inFault := by unfold Channel.inFault; rw [faults_of_mute same]
theorem confirmed_of_mute : a.confirmed = b.confirmed := by
  unfold Channel.confirmed Channel.hasSwitch
  rw [settings_of_mute same, vsw_of_mute same]

end

/-! ### The end of an event -/

/-- R150: the station listens again by itself at the end of the event. -/
def State.Quits (s : State) : Prop := s.mu.station = .isolated ∧ s.mu.cause = .selfDrop ∧ s.settled = true

theorem State.not_quits_of_stays {s : State} (stays : s.Stays) : ¬ s.Quits := fun quits =>
  stays.elim (fun other => other quits.1) fun other => other quits.2.1

theorem State.not_quits_of_loud {s : State} (loud : s.mu.station.silent = false) : ¬ s.Quits :=
  State.not_quits_of_stays (State.stays_of_loud loud)

theorem State.not_quits_of_staysOnFrame {s : State} (stays : s.StaysOnFrame) : ¬ s.Quits := by
  rcases stays with stays | ⟨c, present, closing, -⟩
  · exact State.not_quits_of_stays stays
  · intro quits
    rcases State.settled_iff.1 quits.2.2 c present with closed | stuck
    · rw [closing] at closed
      cases closed
    · rw [closing] at stuck
      cases stuck

theorem settled_of_chans {s t : State} (chans : ∀ c, (t.chan c).mute = (s.chan c).mute) : t.settled = s.settled := by
  unfold State.settled
  refine List.all_congr rfl fun c => ?_
  have present : (t.chan c).present = (s.chan c).present := congrArg Option.isSome (settings_of_mute (chans c))
  rw [present, valve_of_mute (chans c)]

theorem quits_of_parts {s t : State} (mu : t.mu = s.mu) (chans : ∀ c, (t.chan c).mute = (s.chan c).mute) :
    t.Quits ↔ s.Quits := by
  unfold State.Quits
  rw [mu, settled_of_chans chans]

/-- The state in which the test of R150 is made. -/
def State.closing (s : State) : State := s.announceAll.ackTest.leaveTest

theorem State.conclude_eq_closing (s : State) : s.conclude = s.closing.relistenTest := rfl

theorem State.ackTest_mute (s : State) : ∃ b, s.ackTest.mute = (s.setHu { s.hu with ackPending := b }).mute := by
  unfold State.ackTest
  split
  · refine ⟨false, ?_⟩
    rw [show ((s.enqueue (.haltAck s.stuckMask)).setHu { s.hu with ackPending := false }).mute =
      (s.enqueue (.haltAck s.stuckMask)).mute.setHu { s.hu with ackPending := false } from rfl, State.enqueue_mute]
    rfl
  · exact ⟨s.hu.ackPending, rfl⟩

theorem State.closing_mute (s : State) : ∃ b, s.closing.mute = (s.setHu { s.hu with ackPending := b }).mute := by
  obtain ⟨b, same⟩ := s.announceAll.ackTest_mute
  refine ⟨b, (State.leaveTest_mute _).trans (same.trans ?_)⟩
  rw [hu_of_bare s.announceAll_bare, show ∀ (t : State) (v : HaltUnit), (t.setHu v).mute = t.mute.setHu v from fun _ _ => rfl,
    s.announceAll_mute]
  rfl

section
variable (s : State)

theorem State.closing_rm : s.closing.rm = s.rm := by obtain ⟨b, same⟩ := s.closing_mute; exact (rm_of_mute same).trans rfl
theorem State.closing_log : s.closing.log = s.log := by obtain ⟨b, same⟩ := s.closing_mute; exact (log_of_mute same).trans rfl
theorem State.closing_mu : s.closing.mu = s.mu := by obtain ⟨b, same⟩ := s.closing_mute; exact (mu_of_mute same).trans rfl
theorem State.closing_ct : s.closing.ct = s.ct := by obtain ⟨b, same⟩ := s.closing_mute; exact (ct_of_mute same).trans rfl
theorem State.closing_alloc : s.closing.alloc = s.alloc := by obtain ⟨b, same⟩ := s.closing_mute; exact (alloc_of_mute same).trans rfl
theorem State.closing_events : s.closing.events = s.events := by obtain ⟨b, same⟩ := s.closing_mute; exact (events_of_mute same).trans rfl
theorem State.closing_port : s.closing.port = s.port := by obtain ⟨b, same⟩ := s.closing_mute; exact (port_of_mute same).trans rfl
theorem State.closing_site : s.closing.site = s.site := by obtain ⟨b, same⟩ := s.closing_mute; exact (site_of_mute same).trans rfl
theorem State.closing_clock : s.closing.clock = s.clock := by obtain ⟨b, same⟩ := s.closing_mute; exact (clock_of_mute same).trans rfl
theorem State.closing_straps : s.closing.straps = s.straps := by
  obtain ⟨b, same⟩ := s.closing_mute; exact (straps_of_mute same).trans rfl
theorem State.closing_chan (c : Chan) : (s.closing.chan c).mute = (s.chan c).mute := by
  obtain ⟨b, same⟩ := s.closing_mute; exact (chan_of_mute same c).trans rfl
theorem State.closing_hu : ∃ b, s.closing.hu = { s.hu with ackPending := b } := by
  obtain ⟨b, same⟩ := s.closing_mute; exact ⟨b, hu_of_mute same⟩
theorem State.closing_bus : { s.closing.bus with outbound := [] } = { s.bus with outbound := [] } := by
  obtain ⟨b, same⟩ := s.closing_mute; exact (bus_of_mute same).trans rfl

theorem State.closing_quits : s.closing.Quits ↔ s.Quits := quits_of_parts s.closing_mu s.closing_chan

end

theorem State.conclude_of_not_quits {s : State} (stays : ¬ s.Quits) : s.conclude = s.closing :=
  s.conclude_eq_closing.trans (State.relistenTest_of_other (mt s.closing_quits.1 stays))

theorem State.conclude_of_quits {s : State} (quits : s.Quits) : s.conclude = s.closing.relisten .none 0 := by
  obtain ⟨station, cause, settled⟩ := s.closing_quits.2 quits
  rw [s.conclude_eq_closing, State.relistenTest_of_settled station cause settled]

/-! ### CLEAR_FAULT (R80) -/

section
variable {s : State}

theorem State.presentChan_eq_some {b : Byte} {c : Chan} :
    s.presentChan b = some c ↔ b.toNat = c.val ∧ (s.chan c).settings.isSome = true := by
  unfold State.presentChan
  rw [Option.filter_eq_some_iff, toChan_eq_some]
  rfl

theorem State.runClearFault_of_absent (absent : s.presentChan (s.port.arg 0) = none) :
    s.runClearFault = s.finish .channelAbsent [] := by
  unfold State.runClearFault
  rw [absent]
  rfl

theorem State.runClearFault_of_other {c : Chan} (named : s.presentChan (s.port.arg 0) = some c)
    (other : ¬ ((s.chan c).inFault = true ∧ (s.chan c).valve ≠ .closing)) :
    s.runClearFault = s.finish .wrongState [] := by
  unfold State.runClearFault
  rw [named]
  exact if_neg other

theorem State.runClearFault_of_fault {c : Chan} (named : s.presentChan (s.port.arg 0) = some c)
    (fault : (s.chan c).inFault = true) (rests : (s.chan c).valve ≠ .closing) :
    s.runClearFault = ((s.takeStuckClosed c).clearFaults c).conclude.finish .ok [] := by
  unfold State.runClearFault
  rw [named]
  exact if_pos ⟨fault, rests⟩

/-- R80: the channel after CLEAR_FAULT, less its announced record. -/
def Channel.cleared (ch : Channel) : Channel :=
  { ch with
    valve := if ch.valve = .stuck then .closed else ch.valve
    stuckValues := if ch.valve = .stuck then none else ch.stuckValues
    faults := ⟨false, false, false⟩
    unattributed := Decimal.zero 7 }

end

theorem mute_setChan (s : State) (c : Chan) (ch : Channel) : (s.setChan c ch).mute = s.mute.setChan c ch.mute := by
  have chans : mapVec Channel.mute (s.chans.set c.val ch) = (mapVec Channel.mute s.chans).set c.val ch.mute := mapVec_set ..
  unfold State.mute State.setChan
  rw [State.setChans_chans, chans]
  rfl

theorem State.takeStuckClosed_mute (s : State) (c : Chan) : (s.takeStuckClosed c).mute = (s.setChan c { s.chan c with
    valve := if (s.chan c).valve = .stuck then .closed else (s.chan c).valve
    stuckValues := if (s.chan c).valve = .stuck then none else (s.chan c).stuckValues }).mute := by
  unfold State.takeStuckClosed
  split
  · rw [State.announce_mute]
  · exact (s.setChan_mute c _ rfl).symm

theorem State.clearFault_mute (s : State) (c : Chan) : ((s.takeStuckClosed c).clearFaults c).mute =
    (s.setChan c (s.chan c).cleared).mute := by
  have taken := s.takeStuckClosed_mute c
  have chan := chan_of_mute taken c
  rw [State.chan_setChan_same] at chan
  unfold State.clearFaults
  rw [mute_setChan, taken, mute_setChan, State.setChan_setChan, mute_setChan]
  refine congrArg (s.mute.setChan c) ?_
  have whole := congrArg (fun ch : Channel => { ch with faults := ⟨false, false, false⟩, unattributed := Decimal.zero 7 }) chan
  exact whole

end Sys2Proof.Machine
end

section
namespace Sys2Proof
open Sys2Proof.Machine

/-- Settles O18: an accepted CLEAR_FAULT leaves the channel as `Channel.cleared` says. -/
theorem clearFaultReturnsChannel : Obligations.ClearFaultReturnsChannel := by
  unfold Obligations.ClearFaultReturnsChannel
  intro s c released stays awaits
  have step : exec .clearFault s = .next s.runClearFault := exec_host_of_awaits released awaits
  rw [step]
  refine ⟨fun b => State.presentChan_eq_some, fun absent => ?_, fun named => ⟨fun other => ?_, fun fault rests => ?_⟩⟩
  · rw [State.runClearFault_of_absent absent]
  · rw [State.runClearFault_of_other named]
    rintro ⟨fault, rests⟩
    exact other.elim (fun healthy => by rw [fault] at healthy; cases healthy) rests
  · rw [State.runClearFault_of_fault named fault rests]
    have mute := s.clearFault_mute c
    generalize (s.takeStuckClosed c).clearFaults c = u at mute
    have mu : u.mu = s.mu := (mu_of_mute mute).trans rfl
    rw [State.conclude_of_not_quits (State.not_quits_of_stays (by unfold State.Stays; rw [mu]; exact stays))]
    have port : u.closing.port = s.port := u.closing_port.trans ((port_of_mute mute).trans rfl)
    have rm : u.closing.rm = s.rm := u.closing_rm.trans ((rm_of_mute mute).trans rfl)
    have log : u.closing.log = s.log := u.closing_log.trans ((log_of_mute mute).trans rfl)
    have ct : u.closing.ct = s.ct := u.closing_ct.trans ((ct_of_mute mute).trans rfl)
    have events : u.closing.events = s.events := u.closing_events.trans ((events_of_mute mute).trans rfl)
    have chan : ∀ d, (u.closing.chan d).mute = ((s.setChan c (s.chan c).cleared).chan d).mute := fun d =>
      (u.closing_chan d).trans (chan_of_mute mute d)
    replace mu := u.closing_mu.trans mu
    generalize u.closing = v at port rm log ct events chan mu
    have here := chan c
    rw [State.chan_setChan_same] at here
    have others : ∀ d, d ≠ c → (v.chan d).mute = (s.chan d).mute := fun d other => by
      rw [chan d, State.chan_setChan_ne _ _ fun same => other same.symm]
    have valve : (v.chan c).valve = if (s.chan c).valve = .stuck then .closed else (s.chan c).valve := valve_of_mute here
    have values : (v.chan c).stuckValues = if (s.chan c).valve = .stuck then none else (s.chan c).stuckValues :=
      stuckValues_of_mute here
    have faults : (v.chan c).faults = ⟨false, false, false⟩ := faults_of_mute here
    refine ⟨_, rfl, State.finish_port_congr port .ok [], ?_, unattributed_of_mute here, fun stuck => ?_, fun other => ?_,
      (totalizer_of_mute here).trans rfl, fun d other => ⟨valve_of_mute (others d other), faults_of_mute (others d other)⟩,
      rm, log, ct, mu, events⟩
    · show (v.chan c).inFault = false
      unfold Channel.inFault
      rw [faults]
      rfl
    · rw [if_pos stuck] at valve values
      exact ⟨valve, values⟩
    · rw [if_neg other] at valve
      exact valve

end Sys2Proof
end

section
/-!
SUPPORT. What one recomputation finds: the sums over the table, the walk of R27 as it places candidates, and the result.
-/

namespace Sys2Proof.Machine

/-! ### Sums over the table -/

theorem allChans_eq : allChans = List.finRange 8 := by decide

theorem toList_mapVec {α β : Type} {n : Nat} (f : α → β) (v : Vector α n) : (mapVec f v).toList = v.toList.map f := by
  simp [mapVec]

theorem Row.toList_eq (r : Row) : r.toList = allChans.map fun c => r[c.val] := by
  rw [allChans_eq]
  refine List.ext_getElem (by simp) fun i _ _ => ?_
  rw [List.getElem_map, List.getElem_finRange]
  exact Vector.getElem_toList _

theorem sumRow_eq (f : Entry → Nat) (r : Row) : sumRow f r = ∑ c : Chan, (r[c.val]).elim 0 f := by
  unfold sumRow
  rw [Row.toList_eq, List.map_map, allChans_eq, Fin.sum_univ_def]
  rfl

theorem sumTable_mapEntries (f : Entry → Nat) (g : Entry → Entry) (t : Table) :
    sumTable f (mapEntries g t) = sumTable (fun e => f (g e)) t := by
  unfold sumTable mapEntries
  rw [toList_mapVec, List.map_map]
  refine congrArg List.sum (List.map_congr_left fun r _ => ?_)
  show sumRow f (mapVec _ r) = _
  unfold sumRow
  rw [toList_mapVec, List.map_map]
  refine congrArg List.sum (List.map_congr_left fun e _ => ?_)
  cases e <;> rfl

/-- The sum over the keys of one owner that are placed is no greater than the sum over the placed keys. -/
theorem sum_placed_le (g : Key → Nat) (a : Addr) (ks : List Key) :
    (∑ c : Chan, if (a, c) ∈ ks then g (a, c) else 0) ≤ ((ks.filter fun k => k.1 == a).map g).sum := by
  induction ks with
  | nil => simp
  | cons k ks ih =>
    have head : (∑ c : Chan, if (a, c) = k then g (a, c) else 0) ≤ if k.1 = a then g k else 0 := by
      obtain ⟨b, d⟩ := k
      by_cases here : b = a
      · subst here
        rw [if_pos rfl, Finset.sum_eq_single d (fun c _ other => if_neg fun same => other (congrArg Prod.snd same))
          fun absent => absurd (Finset.mem_univ d) absent]
        exact (if_pos rfl).le
      · rw [if_neg here]
        exact (Finset.sum_eq_zero fun c _ => if_neg fun same => here (congrArg Prod.fst same).symm).le
    have split : ∀ c : Chan, (if (a, c) ∈ k :: ks then g (a, c) else 0) ≤
        (if (a, c) = k then g (a, c) else 0) + if (a, c) ∈ ks then g (a, c) else 0 := fun c => by
      by_cases first : (a, c) = k <;> by_cases later : (a, c) ∈ ks <;> simp [first, later]
    calc (∑ c : Chan, if (a, c) ∈ k :: ks then g (a, c) else 0)
      _ ≤ ∑ c : Chan, ((if (a, c) = k then g (a, c) else 0) + if (a, c) ∈ ks then g (a, c) else 0) :=
        Finset.sum_le_sum fun c _ => split c
      _ ≤ (if k.1 = a then g k else 0) + ((ks.filter fun k => k.1 == a).map g).sum := by
        rw [Finset.sum_add_distrib]
        exact Nat.add_le_add head ih
      _ = (((k :: ks).filter fun k => k.1 == a).map g).sum := by
        by_cases here : k.1 = a <;> simp [here]

/-! ### The walk (R27) -/

/-- The demands of a list of keys. -/
def demands (t : Table) (ks : List Key) : Nat := (ks.map (demandAt t)).sum

/-- From `w` to `v` the walk has placed `ks`, each within the remainders. -/
structure Walk.Places (t : Table) (w v : Walk) (ks : List Key) : Prop where
  placed : v.placed = w.placed ++ ks
  total : v.total = w.total + demands t ks
  remaining : v.remaining + demands t ks = w.remaining
  caps : ∀ a : Addr, v.caps[a.val] + demands t (ks.filter fun k => k.1 == a) = w.caps[a.val]

theorem Walk.Places.refl (t : Table) (w : Walk) : w.Places t w [] where
  placed := (List.append_nil _).symm
  total := rfl
  remaining := rfl
  caps _ := rfl

theorem demands_append (t : Table) (ks ls : List Key) : demands t (ks ++ ls) = demands t ks + demands t ls := by
  simp [demands]

theorem Walk.Places.trans {t : Table} {w v u : Walk} {ks ls : List Key} (h : w.Places t v ks) (k : v.Places t u ls) :
    w.Places t u (ks ++ ls) where
  placed := by rw [k.placed, h.placed, List.append_assoc]
  total := by rw [k.total, h.total, demands_append]; omega
  remaining := by have := h.remaining; have := k.remaining; rw [demands_append]; omega
  caps a := by have := h.caps a; have := k.caps a; rw [List.filter_append, demands_append]; omega

/-- R27: a candidate is placed exactly when its demand fits both remainders. -/
def Walk.fits (t : Table) (w : Walk) (k : Key) : Bool :=
  (slot t k.1 k.2).any fun e => decide (e.demand ≤ w.remaining ∧ e.demand ≤ w.caps[k.1.val])

theorem Walk.visit_places (t : Table) (w : Walk) (k : Key) :
    w.Places t (w.visit t k) (if w.fits t k then [k] else []) := by
  unfold Walk.visit Walk.fits
  cases entry : slot t k.1 k.2 with
  | none => exact .refl t w
  | some e =>
    have demand : demandAt t k = e.demand := by unfold demandAt; rw [entry]; rfl
    dsimp only [Option.any_some]
    by_cases fits : e.demand ≤ w.remaining ∧ e.demand ≤ w.caps[k.1.val]
    · rw [if_pos fits, if_pos (decide_eq_true fits)]
      obtain ⟨room, cap⟩ := fits
      refine ⟨rfl, by simp [demands, demand], ?_, fun a => ?_⟩
      · simp only [demands, List.map_cons, List.map_nil, List.sum_cons, List.sum_nil, demand]
        omega
      · by_cases here : k.1 = a
        · subst here
          simp only [Vector.getElem_set_self, beq_self_eq_true, List.filter_cons_of_pos, List.filter_nil, demands,
            List.map_cons, List.map_nil, List.sum_cons, List.sum_nil, demand]
          omega
        · have apart : k.1.val ≠ a.val := fun same => here (Fin.ext same)
          simp [Vector.getElem_set_ne _ _ apart, here, demands]
    · rw [if_neg fits, if_neg (by simpa using fits)]
      exact .refl t w

theorem Walk.fold_places (t : Table) (ks : List Key) (w : Walk) :
    ∃ ls, ls.Sublist ks ∧ w.Places t (ks.foldl (Walk.visit t) w) ls := by
  induction ks generalizing w with
  | nil => exact ⟨[], .refl _, .refl t w⟩
  | cons k ks ih =>
    obtain ⟨ls, sub, places⟩ := ih (w.visit t k)
    refine ⟨_, ?_, (w.visit_places t k).trans places⟩
    split
    · exact sub.cons_cons k
    · exact sub.cons k

/-! ### The result -/

section
variable (s : State)

/-- R25: the order of one recomputation. -/
def State.order : List Key := candidateOrder s.clearedTable s.mu.roster s.ct.pointers

theorem State.walk_places : ∃ ls, ls.Sublist s.order ∧
    (Walk.start (effectiveCapacity s.ct.capacityView s.clearedTable s.mu.orphans) s.mu.roster).Places s.clearedTable s.walk ls :=
  Walk.fold_places _ _ _

theorem demandAt_clearedTable (k : Key) : demandAt s.clearedTable k = demandAt s.ct.table k := by
  unfold demandAt
  rw [slot_clearedTable]
  cases slot s.ct.table k.1 k.2 with
  | none => rfl
  | some e =>
    show Entry.demand _ = e.demand
    dsimp only
    split <;> rfl

theorem State.allocate_effective : s.allocate.result.effective =
    effectiveCapacity s.ct.capacityView s.clearedTable s.mu.orphans := rfl

theorem State.allocate_placedDemand : s.allocate.result.placedDemand = s.walk.total := rfl

theorem effectiveCapacity_clearedTable : s.allocate.result.effective =
    s.ct.capacityView - sumTable (fun e => if e.phase = .stuck then e.demand else 0) s.ct.table -
      (s.mu.orphans.map Orphan.load).sum := by
  have stuck : ∀ (e : Entry) (b : Bool), Entry.stuckDemand { (if b then e.clearMark else e) with placed := false } =
      if e.phase = .stuck then e.demand else 0 := fun e b => by cases b <;> rfl
  rw [s.allocate_effective]
  unfold effectiveCapacity State.clearedTable
  rw [sumTable_mapEntries]
  simp only [stuck]

/-- R27: what the walk has placed is its own total, within the effective capacity. -/
theorem State.walk_total : s.walk.total + s.walk.remaining = s.allocate.result.effective := by
  obtain ⟨ls, -, places⟩ := s.walk_places
  have total := places.total
  have remaining := places.remaining
  rw [s.allocate_effective]
  simp only [Walk.start] at total remaining
  omega

theorem State.demands_of_owner_le {a : Addr} {m : Member} (member : s.member a = some m) :
    demands s.ct.table (s.walk.placed.filter fun k => k.1 == a) ≤ m.cap := by
  obtain ⟨ls, -, places⟩ := s.walk_places
  have cap := places.caps a
  have placed : s.walk.placed = ls := places.placed
  have start : (Walk.start (effectiveCapacity s.ct.capacityView s.clearedTable s.mu.orphans) s.mu.roster).caps[a.val] =
      m.cap := by
    unfold State.member at member
    simp [Walk.start, member]
  have same : ∀ ks, demands s.ct.table ks = demands s.clearedTable ks := fun ks => by
    unfold demands
    rw [show demandAt s.clearedTable = demandAt s.ct.table from funext (demandAt_clearedTable s)]
  rw [placed, same]
  omega

/-- R27: a member's share of the target set. -/
theorem State.share_le_cap {a : Addr} {m : Member} (member : s.member a = some m) :
    sumRow (fun e => if e.placed then e.demand else 0) s.allocate.table[a.val] ≤ m.cap := by
  refine le_trans ?_ (s.demands_of_owner_le member)
  rw [sumRow_eq]
  refine le_trans (le_of_eq (Finset.sum_congr rfl fun c _ => ?_)) (sum_placed_le (demandAt s.ct.table) a s.walk.placed)
  have entry := slot_allocate s a c
  unfold slot at entry
  rw [entry]
  unfold demandAt slot
  cases (s.ct.table[a.val])[c.val] with
  | none => simp
  | some e => simp [State.remark_placed, State.remark_demand]

theorem Entry.transientLoad_latch (e : Entry) : e.latch.transientLoad = e.transientLoad := by
  unfold Entry.latch Entry.qualifies
  split
  · next fits =>
    have placed : e.placed = true := by
      rw [Bool.and_eq_true, Bool.and_eq_true] at fits
      exact fits.1.1
    simp [Entry.transientLoad, placed]
  · rfl

theorem Entry.transientLoad_eq (e : Entry) : e.transientLoad =
    if e.placed = false ∧ (e.phase = .flowing ∨ e.phase = .yielding ∨ (e.phase = .asking ∧ e.latched = true)) then e.demand
    else 0 := by
  unfold Entry.transientLoad
  cases e.placed <;> cases e.phase <;> cases e.latched <;> simp

theorem State.allocate_transient : s.allocate.result.transient = sumTable Entry.transientLoad s.allocate.table := by
  rw [s.allocate_table]
  split
  · rw [sumTable_mapEntries]
    simp only [Entry.transientLoad_latch]
    rfl
  · rfl

theorem State.allocate_drain : s.allocate.result.drain = true ↔
    s.allocate.result.placedDemand + s.allocate.result.transient ≤ s.allocate.result.effective :=
  decide_eq_true_iff

theorem State.clearsMarks_eq_false : s.clearsMarks = false ↔ s.hu.halt = .none ∧ s.mu.orphans = [] := by
  unfold State.clearsMarks State.frozen
  rw [Bool.or_eq_false_iff, Bool.not_eq_false', List.isEmpty_iff, and_comm]
  simp

theorem State.latching_eq_true : s.latching = true ↔ s.allocate.result.drain = true ∧ s.hu.halt = .none ∧ s.mu.orphans = [] := by
  unfold State.latching State.frozen
  simp [and_assoc]

/-- R30, R31: which entries are latched after a recomputation. -/
theorem State.remark_latched_iff (k : Key) (e : Entry) : (s.remark k e).latched = true ↔
    s.hu.halt = .none ∧ s.mu.orphans = [] ∧
      (e.latched = true ∨ ((s.remark k e).placed = true ∧ (s.remark k e).phase = .asking ∧ s.allocate.result.drain = true)) := by
  rw [s.remark_latched, s.remark_placed, s.remark_phase, Bool.or_eq_true, Bool.and_eq_true, Bool.not_eq_true',
    s.clearsMarks_eq_false, Bool.and_eq_true, Bool.and_eq_true, s.latching_eq_true, beq_iff_eq]
  generalize s.allocate.result.drain = drain
  tauto

end

end Sys2Proof.Machine
end

section
namespace Sys2Proof
open Sys2Proof.Machine

/-- Settles O51: the walk keeps placed demand and remainder at the effective capacity, and each member's share and remainder
at its cap; the marks are those of `State.remark`. -/
theorem targetSetAndLatches : Obligations.TargetSetAndLatches := by
  unfold Obligations.TargetSetAndLatches
  intro s
  refine ⟨effectiveCapacity_clearedTable s, ?_, ?_, fun a m => s.share_le_cap, ?_, s.allocate_drain, fun a c => ⟨?_, ?_⟩⟩
  · rw [s.allocate_placedDemand, ← s.walk_total]
    exact Nat.le_add_right _ _
  · rw [effectiveCapacity_clearedTable]
    exact le_trans (Nat.sub_le _ _) (Nat.sub_le _ _)
  · rw [s.allocate_transient]
    exact congrArg (sumTable · _) (funext Entry.transientLoad_eq)
  · rw [slot_allocate, Option.map_map]
    exact congrArg (Option.map · _) (funext fun e => s.remark_said _ e)
  · intro o old e new
    rw [slot_allocate, Option.mem_def.1 old] at new
    obtain rfl := Option.some.inj new
    exact s.remark_latched_iff _ o

end Sys2Proof
end

section
/-!
SUPPORT. The candidate order (R25, R26): where a candidate stands in it, that the places ascend, and what the walk of R27 leaves
for each candidate.
-/

namespace Sys2Proof.Machine

/-! ### Sorted lists -/

theorem filter_lt_of_getElem? {cs : List Chan} (sorted : cs.Pairwise (· < ·)) {n : Nat} {c : Chan} (at' : cs[n]? = some c) :
    cs.filter (fun d => decide (d < c)) = cs.take n := by
  induction cs generalizing n with
  | nil => cases at'
  | cons d ds ih =>
    obtain ⟨below, rest⟩ := List.pairwise_cons.1 sorted
    cases n with
    | zero =>
      obtain rfl : d = c := Option.some.inj at'
      refine List.filter_eq_nil_iff.2 fun e member => ?_
      rcases List.mem_cons.1 member with rfl | later
      · simp
      · simpa using le_of_lt (below e later)
    | succ n =>
      have later : ds[n]? = some c := at'
      rw [List.filter_cons_of_pos (by simpa using below c (List.mem_of_getElem? later)), ih rest later, List.take_succ_cons]

theorem allChans_sorted : allChans.Pairwise (· < ·) := by decide

theorem mem_contribution {j w : Nat} {cs : List Chan} {c : Chan} :
    c ∈ contribution j w cs ↔ ∃ n, cs[n]? = some c ∧ j * w ≤ n ∧ n < j * w + w := by
  unfold contribution
  rw [List.mem_iff_getElem?]
  constructor
  · rintro ⟨i, found⟩
    rw [List.getElem?_take] at found
    split at found
    · next short => exact ⟨j * w + i, by rwa [List.getElem?_drop] at found, by omega, by omega⟩
    · cases found
  · rintro ⟨n, found, low, high⟩
    refine ⟨n - j * w, ?_⟩
    rw [List.getElem?_take, if_pos (by omega), List.getElem?_drop, Nat.add_sub_cancel' low, found]

theorem contribution_sublist (j w : Nat) (cs : List Chan) : (contribution j w cs).Sublist cs :=
  (List.take_sublist _ _).trans (List.drop_sublist _ _)

/-! ### The place of a candidate -/

/-- The two classes of R24. -/
def Entry.inClass (committed : Bool) (e : Entry) : Bool := if committed then e.committed else e.uncommitted

theorem Entry.committed_of_inClass {b : Bool} {e : Entry} (within : e.inClass b = true) : e.committed = b := by
  cases b with
  | true => exact within
  | false =>
    have asks : (e.phase == .asking && !e.latched) = true := within
    rw [Bool.and_eq_true, beq_iff_eq, Bool.not_eq_true'] at asks
    unfold Entry.committed
    rw [asks.1, asks.2]

theorem Entry.inClass_iff {e : Entry} : (∃ b, e.inClass b = true) ↔ e.phase = .asking ∨ e.phase = .flowing := by
  unfold Entry.inClass Entry.committed Entry.uncommitted
  cases phase : e.phase <;> cases e.latched <;> simp

section
variable {t : Table} {roster : Roster} {pointers : Vector Addr 4} {a : Addr} {c : Chan} {l : Level} {b : Bool}

theorem mem_channelsOf : c ∈ channelsOf (t[a.val]) l (Entry.inClass b) ↔
    ∃ e, slot t a c = some e ∧ e.level = l ∧ e.inClass b = true := by
  unfold channelsOf slot
  rw [List.mem_filter, Option.any_eq_true]
  simp [mem_allChans]

/-- R26: what stands below a candidate in its owner's queue. -/
theorem candidatesBelow_eq {e : Entry} {n : Nat} (level : e.level = l) (within : e.inClass b = true)
    (at' : (channelsOf (t[a.val]) l (Entry.inClass b))[n]? = some c) : candidatesBelow t a c e = n := by
  have class' : ∀ x : Entry, (if e.committed then x.committed else x.uncommitted) = x.inClass b := fun x => by
    rw [Entry.committed_of_inClass within]
    rfl
  have sorted : (channelsOf (t[a.val]) l (Entry.inClass b)).Pairwise (· < ·) := allChans_sorted.filter _
  have short : n ≤ (channelsOf (t[a.val]) l (Entry.inClass b)).length := by
    have := (List.getElem?_eq_some_iff.1 at').1
    omega
  have below := filter_lt_of_getElem? sorted at'
  unfold channelsOf at below
  rw [List.filter_filter] at below
  unfold candidatesBelow slot
  simp only [class', level]
  rw [below]
  unfold channelsOf at short
  rw [List.length_take, Nat.min_eq_left short]

/-- R25, R26: a member's contribution to a round. -/
def OnRound (t : Table) (roster : Roster) (l : Level) (b : Bool) (j : Nat) (k : Key) : Prop :=
  ∃ m, roster[k.1.val] = some m ∧ k.2 ∈ contribution j m.weight (channelsOf (t[k.1.val]) l (Entry.inClass b))

theorem placeOf_eq (weights : ∀ a : Addr, ∀ m ∈ roster[a.val], 1 ≤ m.weight) {j : Nat} {k : Key}
    (on : OnRound t roster l b j k) : placeOf t roster pointers k =
      [l.val, if b then 0 else 1, j, (k.1 - pointers[l.val]).val, k.2.val] := by
  obtain ⟨m, member, contributes⟩ := on
  obtain ⟨n, at', low, high⟩ := mem_contribution.1 contributes
  obtain ⟨e, entry, level, within⟩ := mem_channelsOf.1 (List.mem_of_getElem? at')
  have weight := weights k.1 m member
  have round : n / m.weight = j := by
    rw [Nat.div_eq_iff (by omega)]
    constructor <;> omega
  unfold placeOf
  rw [entry, member]
  dsimp only
  rw [candidatesBelow_eq level within at', round, Entry.committed_of_inClass within]
  subst level
  rfl

/-! ### The rounds of the rotation -/

/-- R26: the candidates that round `j` takes at a level and class. -/
def roundKeys (t : Table) (roster : Roster) (p : Addr) (l : Level) (b : Bool) (j : Nat) : List Key :=
  (addressesFrom p).flatMap fun a =>
    (roster[a.val]).elim [] fun m => (contribution j m.weight (channelsOf (t[a.val]) l (Entry.inClass b))).map fun c => (a, c)

theorem flatMap_filterMap_map {α β γ : Type} (f : α → Option β) (g : α → β → γ) {δ : Type} (h : γ → List δ) (xs : List α) :
    (xs.filterMap fun x => (f x).map (g x)).flatMap h = xs.flatMap fun x => (f x).elim [] fun y => h (g x y) := by
  induction xs with
  | nil => rfl
  | cons x xs ih => cases found : f x <;> simp [found, ih]

theorem rotationOrder_eq (t : Table) (roster : Roster) (p : Addr) (l : Level) (b : Bool) :
    rotationOrder t roster p l (Entry.inClass b) = (List.range 8).flatMap (roundKeys t roster p l b) := by
  unfold rotationOrder
  dsimp only
  refine congrArg (List.flatMap · _) (funext fun j => ?_)
  exact flatMap_filterMap_map (fun a : Addr => roster[a.val])
    (fun a m => (a, m.weight, channelsOf (t[a.val]) l (Entry.inClass b))) _ _

theorem candidateOrder_eq (t : Table) (roster : Roster) (pointers : Vector Addr 4) : candidateOrder t roster pointers =
    allLevels.flatMap fun l => [true, false].flatMap fun b => (List.range 8).flatMap (roundKeys t roster pointers[l.val] l b) := by
  unfold candidateOrder
  refine congrArg (List.flatMap · _) (funext fun l => ?_)
  rw [List.flatMap_cons, List.flatMap_cons, List.flatMap_nil, List.append_nil, ← rotationOrder_eq, ← rotationOrder_eq]
  rfl

theorem mem_addressesFrom (p a : Addr) : a ∈ addressesFrom p :=
  List.mem_map.2 ⟨a - p, mem_allAddrs _, by rw [add_sub_cancel]⟩

theorem mem_roundKeys {p : Addr} {j : Nat} {k : Key} : k ∈ roundKeys t roster p l b j ↔ OnRound t roster l b j k := by
  obtain ⟨d, c⟩ := k
  unfold roundKeys OnRound
  rw [List.mem_flatMap]
  constructor
  · rintro ⟨e, -, member⟩
    cases found : roster[e.val] with
    | none =>
      rw [found] at member
      cases member
    | some m =>
      rw [found] at member
      obtain ⟨x, contributes, same⟩ := List.mem_map.1 member
      cases same
      exact ⟨m, found, contributes⟩
  · rintro ⟨m, found, contributes⟩
    refine ⟨d, mem_addressesFrom p d, ?_⟩
    dsimp only at found
    rw [found]
    exact List.mem_map.2 ⟨c, contributes, rfl⟩

theorem addressesFrom_ascending (p : Addr) : (addressesFrom p).Pairwise fun a d => (a - p).val < (d - p).val := by
  unfold addressesFrom
  rw [List.pairwise_map]
  simp only [add_sub_cancel_left]
  decide

theorem roundKeys_ascending (p : Addr) (j : Nat) : (roundKeys t roster p l b j).Pairwise fun x y =>
    (x.1 - p).val < (y.1 - p).val ∨ x.1 = y.1 ∧ x.2.val < y.2.val := by
  have owner : ∀ d : Addr, ∀ k ∈ (roster[d.val]).elim [] fun m =>
      (contribution j m.weight (channelsOf (t[d.val]) l (Entry.inClass b))).map fun c => ((d, c) : Key), k.1 = d := by
    intro d k member
    cases found : roster[d.val] with
    | none => rw [found] at member; cases member
    | some m =>
      rw [found] at member
      obtain ⟨x, -, same⟩ := List.mem_map.1 member
      rw [← same]
  unfold roundKeys
  rw [List.pairwise_flatMap]
  refine ⟨fun d _ => ?_, (addressesFrom_ascending p).imp fun {a d} apart x hx y hy => .inl ?_⟩
  · cases roster[d.val] with
    | none => exact .nil
    | some m =>
      refine List.pairwise_map.2 (List.Pairwise.imp (fun {x y} below => .inr ⟨rfl, below⟩) ?_)
      exact (allChans_sorted.filter _).sublist (contribution_sublist _ _ _)
  · rw [owner a x hx, owner d y hy]
    exact apart

end

section
variable {t : Table} {roster : Roster} {pointers : Vector Addr 4}

/-- R25: the places of the candidates ascend. -/
theorem candidateOrder_ascending (weights : ∀ a : Addr, ∀ m ∈ roster[a.val], 1 ≤ m.weight) :
    (candidateOrder t roster pointers).Pairwise fun j k => placeOf t roster pointers j < placeOf t roster pointers k := by
  have place : ∀ {l b j k}, k ∈ roundKeys t roster pointers[l.val] l b j → placeOf t roster pointers k =
      [l.val, if b then 0 else 1, j, (k.1 - pointers[l.val]).val, k.2.val] := fun member =>
    placeOf_eq weights (mem_roundKeys.1 member)
  rw [candidateOrder_eq, List.pairwise_flatMap]
  refine ⟨fun l _ => List.pairwise_flatMap.2 ⟨fun b _ => List.pairwise_flatMap.2 ⟨fun j _ => ?_, ?_⟩, ?_⟩, ?_⟩
  · refine (roundKeys_ascending _ j).imp_of_mem fun {x y} hx hy below => ?_
    rw [place hx, place hy]
    rcases below with nearer | ⟨same, below⟩
    · simp [List.cons_lt_cons_iff, nearer]
    · simp [List.cons_lt_cons_iff, same, below]
  · refine List.pairwise_lt_range.imp fun {i j} earlier x hx y hy => ?_
    rw [place hx, place hy]
    simp [List.cons_lt_cons_iff, earlier]
  · refine List.pairwise_pair.2 fun x hx y hy => ?_
    obtain ⟨i, -, hx⟩ := List.mem_flatMap.1 hx
    obtain ⟨j, -, hy⟩ := List.mem_flatMap.1 hy
    rw [place hx, place hy]
    simp [List.cons_lt_cons_iff]
  · have sorted : allLevels.Pairwise fun l m => l.val < m.val := by decide
    refine sorted.imp fun {l m} higher x hx y hy => ?_
    obtain ⟨b, -, hx⟩ := List.mem_flatMap.1 hx
    obtain ⟨i, -, hx⟩ := List.mem_flatMap.1 hx
    obtain ⟨d, -, hy⟩ := List.mem_flatMap.1 hy
    obtain ⟨j, -, hy⟩ := List.mem_flatMap.1 hy
    rw [place hx, place hy]
    simp [List.cons_lt_cons_iff, higher]

theorem channelsOf_length_le (r : Row) (l : Level) (p : Entry → Bool) : (channelsOf r l p).length ≤ 8 :=
  List.length_filter_le _ _

/-- R24: which entries are candidates. -/
theorem mem_candidateOrder (weights : ∀ a : Addr, ∀ m ∈ roster[a.val], 1 ≤ m.weight) (a : Addr) (c : Chan) :
    (a, c) ∈ candidateOrder t roster pointers ↔
      (roster[a.val]).isSome = true ∧ ∃ e ∈ slot t a c, e.phase = .asking ∨ e.phase = .flowing := by
  rw [candidateOrder_eq, List.mem_flatMap]
  constructor
  · rintro ⟨l, -, inLevel⟩
    obtain ⟨b, -, inClass⟩ := List.mem_flatMap.1 inLevel
    obtain ⟨j, -, inRound⟩ := List.mem_flatMap.1 inClass
    obtain ⟨m, member, contributes⟩ := mem_roundKeys.1 inRound
    obtain ⟨e, entry, -, within⟩ := mem_channelsOf.1 ((contribution_sublist _ _ _).subset contributes)
    exact ⟨by rw [member]; rfl, e, entry, Entry.inClass_iff.1 ⟨b, within⟩⟩
  · rintro ⟨member, e, entry, phase⟩
    obtain ⟨m, member⟩ := Option.isSome_iff_exists.1 member
    obtain ⟨b, within⟩ := Entry.inClass_iff.2 phase
    have queued : c ∈ channelsOf (t[a.val]) e.level (Entry.inClass b) := mem_channelsOf.2 ⟨e, entry, rfl, within⟩
    obtain ⟨n, at'⟩ := List.mem_iff_getElem?.1 queued
    have short := (List.getElem?_eq_some_iff.1 at').1
    have few := channelsOf_length_le (t[a.val]) e.level (Entry.inClass b)
    have weight := weights a m member
    have low : n / m.weight * m.weight ≤ n := Nat.div_mul_le_self n m.weight
    have high : n < n / m.weight * m.weight + m.weight := Nat.lt_div_mul_add (by omega)
    have round : n / m.weight < 8 := lt_of_le_of_lt (Nat.div_le_self n m.weight) (by omega)
    have level : e.level ∈ allLevels := by
      generalize e.level = l
      revert l
      decide
    have class' : b ∈ [true, false] := by cases b <;> decide
    refine ⟨e.level, level, List.mem_flatMap.2 ⟨b, class', List.mem_flatMap.2 ⟨n / m.weight, List.mem_range.2 round, ?_⟩⟩⟩
    exact mem_roundKeys.2 ⟨m, member, mem_contribution.2 ⟨n, at', low, high⟩⟩

end

/-! ### What the walk leaves for each candidate -/

theorem filter_eq_of_sublist {α : Type} [DecidableEq α] {ks ls : List α} (sub : ks.Sublist ls) (nodup : ls.Nodup) :
    ls.filter (fun x => decide (x ∈ ks)) = ks := by
  induction sub with
  | slnil => rfl
  | @cons ks ls x sub ih =>
    obtain ⟨fresh, rest⟩ := List.nodup_cons.1 nodup
    rw [List.filter_cons_of_neg (by simpa using fun member => fresh (sub.subset member)), ih rest]
  | @cons_cons ks ls x sub ih =>
    obtain ⟨fresh, rest⟩ := List.nodup_cons.1 nodup
    rw [List.filter_cons_of_pos (by simp)]
    refine congrArg (x :: ·) ((List.filter_congr fun y member => ?_).trans (ih rest))
    have other : y ≠ x := fun same => fresh (same ▸ member)
    simp [other]

/-- R27: a candidate is placed exactly when it fits beside those placed before it. -/
theorem Walk.mem_placed_iff (t : Table) {ks : List Key} (nodup : ks.Nodup) (w : Walk) (start : w.placed = []) {n : Nat}
    {k : Key} (at' : ks[n]? = some k) :
    (k ∈ (ks.foldl (Walk.visit t) w).placed ↔ (((ks.take n).foldl (Walk.visit t) w).fits t k) = true) ∧
      w.Places t ((ks.take n).foldl (Walk.visit t) w)
        ((ks.take n).filter fun j => decide (j ∈ (ks.foldl (Walk.visit t) w).placed)) := by
  have cut : ks = ks.take n ++ k :: ks.drop (n + 1) := by
    obtain ⟨short, found⟩ := List.getElem?_eq_some_iff.1 at'
    rw [← found, List.cons_getElem_drop_succ, List.take_append_drop]
  have fold : ks.foldl (Walk.visit t) w = (ks.drop (n + 1)).foldl (Walk.visit t)
      (((ks.take n).foldl (Walk.visit t) w).visit t k) := by
    conv_lhs => rw [cut, List.foldl_append, List.foldl_cons]
  have apart := nodup
  rw [cut, List.nodup_append, List.nodup_cons] at apart
  obtain ⟨first, ⟨fresh, -⟩, disjoint⟩ := apart
  rw [fold]
  obtain ⟨before, subBefore, placesBefore⟩ := Walk.fold_places t (ks.take n) w
  generalize (ks.take n).foldl (Walk.visit t) w = v at placesBefore
  obtain ⟨after, subAfter, placesAfter⟩ := Walk.fold_places t (ks.drop (n + 1)) (v.visit t k)
  have placed : ((ks.drop (n + 1)).foldl (Walk.visit t) (v.visit t k)).placed =
      before ++ (if v.fits t k then [k] else []) ++ after := by
    rw [placesAfter.placed, (v.visit_places t k).placed, placesBefore.placed, start, List.nil_append]
  have notBefore : k ∉ before := fun member => disjoint k (subBefore.subset member) k List.mem_cons_self rfl
  have notAfter : k ∉ after := fun member => fresh (subAfter.subset member)
  rw [placed]
  refine ⟨by simp [notBefore, notAfter], ?_⟩
  have kept : ((ks.take n).filter fun j => decide (j ∈ before ++ (if v.fits t k then [k] else []) ++ after)) = before := by
    refine (List.filter_congr fun j member => ?_).trans (filter_eq_of_sublist subBefore first)
    have other : j ≠ k := fun same => disjoint j member k List.mem_cons_self same
    have notLater : j ∉ after := fun later =>
      disjoint j member j (List.mem_cons_of_mem _ (subAfter.subset later)) rfl
    simp [other, notLater]
  rw [kept]
  exact placesBefore

theorem candidateOrder_nodup {t : Table} {roster : Roster} {pointers : Vector Addr 4}
    (weights : ∀ a : Addr, ∀ m ∈ roster[a.val], 1 ≤ m.weight) : (candidateOrder t roster pointers).Nodup :=
  (candidateOrder_ascending (pointers := pointers) (t := t) weights).imp fun {x y} below same => by
    subst same
    exact lt_irrefl _ below

/-- The walk of a recomputation up to a place in its order. -/
def State.walkTo (s : State) (n : Nat) : Walk :=
  (s.order.take n).foldl (Walk.visit s.clearedTable) (Walk.start s.allocate.result.effective s.mu.roster)

/-- R27: the walk of a recomputation at each candidate. -/
theorem State.walk_at {s : State} (weights : ∀ a : Addr, ∀ m ∈ s.member a, 1 ≤ m.weight) {n : Nat} {k : Key}
    (at' : s.order[n]? = some k) :
    (k ∈ s.walk.placed ↔ (s.walkTo n).fits s.clearedTable k = true) ∧
      (Walk.start s.allocate.result.effective s.mu.roster).Places s.clearedTable (s.walkTo n)
        ((s.order.take n).filter fun j => decide (j ∈ s.walk.placed)) :=
  Walk.mem_placed_iff s.clearedTable (candidateOrder_nodup weights) (Walk.start s.allocate.result.effective s.mu.roster)
    rfl at'

theorem State.placed_iff (s : State) (k : Key) :
    (slot s.allocate.table k.1 k.2).any Entry.placed = true ↔ (slot s.ct.table k.1 k.2).isSome = true ∧ k ∈ s.walk.placed := by
  rw [slot_allocate]
  cases slot s.ct.table k.1 k.2 with
  | none => simp
  | some e => simp [State.remark_placed]

theorem State.placed_of_order {s : State} (weights : ∀ a : Addr, ∀ m ∈ s.member a, 1 ≤ m.weight) {k : Key}
    (member : k ∈ s.order) : (slot s.allocate.table k.1 k.2).any Entry.placed = decide (k ∈ s.walk.placed) := by
  obtain ⟨-, e, entry, -⟩ := (mem_candidateOrder weights k.1 k.2).1 member
  rw [slot_clearedTable] at entry
  obtain ⟨o, old, -⟩ := Option.map_eq_some_iff.1 entry
  rw [Bool.eq_iff_iff, s.placed_iff, old]
  simp

end Sys2Proof.Machine
end

section
namespace Sys2Proof
open Sys2Proof.Machine

/-- Settles O52: the order ascends by the places of R25 and R26, and the walk of R27 places a candidate exactly when its demand
fits what the candidates before it have left. -/
theorem targetSetIsFirstFit : Obligations.TargetSetIsFirstFit := by
  unfold Obligations.TargetSetIsFirstFit
  intro s weights
  have phases : ∀ (a : Addr) (c : Chan), (∃ e ∈ slot s.clearedTable a c, e.phase = .asking ∨ e.phase = .flowing) ↔
      ∃ e ∈ slot s.ct.table a c, e.phase = .asking ∨ e.phase = .flowing := fun a c => by
    rw [slot_clearedTable]
    cases slot s.ct.table a c with
    | none => simp
    | some e => cases s.clearsMarks <;> simp [Entry.clearMark]
  refine ⟨candidateOrder_ascending weights, fun a c => ?_, fun a c placed => ?_, fun n k e m at' entry member => ?_⟩
  · rw [mem_candidateOrder weights, phases]
    rfl
  · obtain ⟨ls, sub, places⟩ := s.walk_places
    have placed' : s.walk.placed = ls := places.placed
    exact sub.subset (placed' ▸ ((s.placed_iff (a, c)).1 placed).2)
  · have here : k ∈ s.order := List.mem_of_getElem? at'
    obtain ⟨placedIff, places⟩ := State.walk_at weights at'
    have before : ∀ j ∈ s.order.take n, (slot s.allocate.table j.1 j.2).any Entry.placed = decide (j ∈ s.walk.placed) :=
      fun j earlier => State.placed_of_order weights (List.mem_of_mem_take earlier)
    have demandEq : ∀ ks, demands s.clearedTable ks = (ks.map (demandAt s.ct.table)).sum := fun ks => by
      unfold demands
      rw [show demandAt s.clearedTable = demandAt s.ct.table from funext (demandAt_clearedTable s)]
    have all : (s.order.take n).filter (fun j => (slot s.allocate.table j.1 j.2).any Entry.placed) =
        (s.order.take n).filter fun j => decide (j ∈ s.walk.placed) := List.filter_congr before
    have own : (s.order.take n).filter (fun j => j.1 == k.1 && (slot s.allocate.table j.1 j.2).any Entry.placed) =
        ((s.order.take n).filter fun j => decide (j ∈ s.walk.placed)).filter fun j => j.1 == k.1 := by
      rw [List.filter_filter]
      exact List.filter_congr fun j earlier => by rw [before j earlier]
    have start : (Walk.start s.allocate.result.effective s.mu.roster).caps[k.1.val] = m.cap := by
      have found : s.mu.roster[k.1.val] = some m := member
      simp [Walk.start, found]
    have remaining : _ = s.allocate.result.effective := places.remaining
    have cap := places.caps k.1
    rw [start] at cap
    have cleared : ∃ x, slot s.clearedTable k.1 k.2 = some x ∧ x.demand = e.demand := by
      rw [slot_clearedTable, entry]
      exact ⟨_, rfl, by cases s.clearsMarks <;> rfl⟩
    obtain ⟨x, found, demand⟩ := cleared
    rw [State.placed_of_order weights here, decide_eq_true_iff]
    refine placedIff.trans ?_
    change _ ↔ e.demand + ((((s.order.take n).filter fun j => _).map _).sum) ≤ _ ∧
      e.demand + ((((s.order.take n).filter fun j => _).map _).sum) ≤ _
    rw [all, own, ← demandEq, ← demandEq]
    unfold Walk.fits
    rw [found, Option.any_some, decide_eq_true_iff, demand]
    omega

end Sys2Proof
end

section
/-!
SUPPORT. The steps that every operation over runs and valves is made of, each with its condition (`Stir`): a run takes another
state, its valve moving with it; a valve comes to rest; a run departs; waiting runs pass their gates; a CLAIM is queued.
What is kept by each step is kept by every operation.
-/

namespace Sys2Proof.Machine

/-! ### Pools without two runs of one handle and without two heads -/

/-- R41, R43: no two runs share a handle, and no two runs of a channel are heads. -/
structure State.Tidy (s : State) : Prop where
  handles : (s.rm.pool.map Run.handle).Nodup
  heads : ∀ r ∈ s.rm.pool, ∀ q ∈ s.rm.pool, r.channel = q.channel → r.state.isHead = true → q.state.isHead = true →
    r.handle = q.handle

theorem State.tidy_of_sound {s : State} (runs : s.RunsSound) (heads : s.OneHead) : s.Tidy where
  handles := runs.1
  heads := heads_of_oneHead heads

theorem tidy_of_rm {s t : State} (same : t.rm.pool = s.rm.pool) (tidy : s.Tidy) : t.Tidy where
  handles := by rw [same]; exact tidy.handles
  heads := by rw [same]; exact tidy.heads

namespace State.Tidy

variable {s : State} (tidy : s.Tidy)
include tidy

theorem only {r q : Run} (hr : r ∈ s.rm.pool) (hq : q ∈ s.rm.pool) (same : r.handle = q.handle) : r = q :=
  handle_injective tidy.handles hr hq same

theorem head_eq {r : Run} (live : r ∈ s.rm.pool) (head : r.state.isHead = true) : s.head r.channel = some r := by
  cases found : s.head r.channel with
  | none =>
    have not := State.no_head_of_none found r live rfl
    rw [head] at not
    cases not
  | some q =>
    obtain ⟨hq, channel, isHead⟩ := State.mem_of_head found
    rw [tidy.only hq live (tidy.heads q hq r live channel isHead head)]

theorem eq_head {c : Chan} {r q : Run} (head : s.head c = some r) (live : q ∈ s.rm.pool) (here : q.channel = c)
    (isHead : q.state.isHead = true) : q = r := by
  have own := tidy.head_eq live isHead
  rw [here, head] at own
  exact (Option.some.inj own).symm

theorem alone {r : Run} (live : r ∈ s.rm.pool) (head : r.state.isHead = true) :
    ∀ q ∈ s.rm.pool, q.handle ≠ r.handle → q.channel = r.channel → q.state.isHead = false := by
  intro q hq other channel
  cases isHead : q.state.isHead with
  | false => rfl
  | true => exact absurd (tidy.heads q hq r live channel isHead head) other

theorem find_eq {r : Run} (live : r ∈ s.rm.pool) : findRun s.rm.pool r.handle = some r := by
  cases found : findRun s.rm.pool r.handle with
  | none =>
    have none := List.find?_eq_none.1 found r live
    simp at none
  | some q =>
    obtain ⟨hq, same⟩ := State.mem_of_findRun found
    rw [tidy.only hq live same]

theorem mem_modRun {r : Run} (live : r ∈ s.rm.pool) {f : Run → Run} {q : Run} :
    q ∈ (s.modRun r.handle f).rm.pool ↔ q = f r ∨ q ∈ s.rm.pool ∧ q.handle ≠ r.handle := by
  refine mem_updateRun.trans ⟨?_, ?_⟩
  · rintro ⟨p, hp, rfl⟩
    split
    · next same => exact .inl (by rw [tidy.only hp live same])
    · next other => exact .inr ⟨hp, other⟩
  · rintro (rfl | ⟨hq, other⟩)
    · exact ⟨r, live, if_pos rfl⟩
    · exact ⟨q, hq, if_neg other⟩

theorem mem_removeRun {r : Run} {b : Bool} {q : Run} :
    q ∈ (s.removeRun r b).rm.pool ↔ q ∈ s.rm.pool ∧ q.handle ≠ r.handle := by
  rw [State.removeRun_pool, eraseP_eq_filter tidy.handles, List.mem_filter]
  simp

theorem removeRun (r : Run) (b : Bool) : (s.removeRun r b).Tidy := by
  have sub : (s.removeRun r b).rm.pool.Sublist s.rm.pool := by
    rw [State.removeRun_pool]
    exact List.eraseP_sublist
  exact ⟨tidy.handles.sublist (sub.map _), fun x hx y hy => tidy.heads x (sub.subset hx) y (sub.subset hy)⟩

end State.Tidy

/-! ### The steps -/

/-- What a chain of steps may do: which runs may take an end, which channels may open, which runs may pass their gates, which
channels are touched. -/
structure Scope where
  ends : Nat → Prop
  opens : Chan → Prop
  passes : Nat → Prop
  at' : Chan → Prop

/-- A scope of every channel in which every gate may be passed. -/
def Scope.Wide (p : Scope) : Prop := (∀ c, p.at' c) ∧ ∀ h, p.passes h

/-- R73: the end switch confirms the close that begins. -/
def Channel.shuts (ch : Channel) : Prop := ch.beginClose.valve = .closing ∧ ch.beginClose.confirmed = true

/-- How a run may change, with the channel it leaves. -/
inductive Turnover (p : Scope) (s : State) : Run → Run → Channel → Prop
  | ask (r : Run) (free : ∀ q ∈ s.rm.pool, q.channel = r.channel → q.state.isHead = false) (waits : r.state = .queued) :
      Turnover p s r { r with state := .asking } (s.chan r.channel)
  | unask (r : Run) (asks : r.state = .asking) : Turnover p s r { r with state := .queued } (s.chan r.channel)
  | preempt (r : Run) (flows : r.state = .flowing) : Turnover p s r r.preempted (s.chan r.channel).beginClose
  | close (r : Run) (q : Purpose) (flows : r.state = .flowing) :
      Turnover p s r { r with state := .closing q } (s.chan r.channel).beginClose
  | preemptShut (r : Run) (flows : r.state = .flowing) (shuts : (s.chan r.channel).shuts) :
      Turnover p s r { r.preempted with state := .queued } (s.chan r.channel).beginClose.endClose
  | closeShut (r : Run) (flows : r.state = .flowing) (shuts : (s.chan r.channel).shuts) :
      Turnover p s r { r with state := .queued } (s.chan r.channel).beginClose.endClose
  | result (r : Run) (e : EndResult) (may : p.ends r.handle) (none : r.endResult = none) :
      Turnover p s r { r with endResult := some e } (s.chan r.channel)
  | ending (r : Run) (q : Purpose) (may : p.ends r.handle) (closes : r.state = .closing q) :
      Turnover p s r { r with state := .closing .ending } (s.chan r.channel)
  | opens (r : Run) (may : p.opens r.channel) (can : s.canOpen r.channel = true) (asks : r.state = .asking) :
      Turnover p s r { r with state := .flowing } (s.chan r.channel).beginOpen

/-- One step of the operations over runs and valves. -/
inductive Stir (p : Scope) : State → State → Prop
  | claim (s : State) (c : Chan) (k : ClaimContent) (here : p.at' c) : Stir p s (s.queueClaim c k)
  | turn (s : State) (r : Run) (f : Run → Run) (ch : Channel) (live : r ∈ s.rm.pool) (here : p.at' r.channel)
      (change : Turnover p s r (f r) ch) : Stir p s ((s.modRun r.handle f).setChan r.channel ch)
  | remove (s : State) (r : Run) (b : Bool) (live : r ∈ s.rm.pool) (here : p.at' r.channel) (may : p.ends r.handle)
      (waits : r.state = .gated ∨ r.state = .queued ∨ r.state = .asking) : Stir p s (s.removeRun r b)
  | finish (s : State) (r : Run) (b : Bool) (live : r ∈ s.rm.pool) (here : p.at' r.channel) (may : p.ends r.handle)
      (flows : r.state = .flowing) (shuts : (s.chan r.channel).shuts) :
      Stir p s ((s.setChan r.channel (s.chan r.channel).beginClose.endClose).removeRun r b)
  | pass (s : State) (g : Run → Bool) (gated : ∀ r ∈ s.rm.pool, g r = true → r.state = .gated ∧ p.passes r.handle ∧ p.at' r.channel) :
      Stir p s (s.setPool (s.rm.pool.map fun r => if g r then passGate r else r))

/-- A chain of steps. -/
abbrev Stirs (p : Scope) : State → State → Prop := Relation.ReflTransGen (Stir p)

theorem Stir.once {p : Scope} {s t : State} (step : Stir p s t) : Stirs p s t := Relation.ReflTransGen.single step
theorem Stirs.refl {p : Scope} (s : State) : Stirs p s s := Relation.ReflTransGen.refl
theorem Stirs.trans {p : Scope} {s t u : State} (h : Stirs p s t) (k : Stirs p t u) : Stirs p s u :=
  Relation.ReflTransGen.trans h k

theorem Stirs.keep {p : Scope} {P : State → Prop} (each : ∀ s t, Stir p s t → P s → P t) {s t : State} (chain : Stirs p s t)
    (law : P s) : P t := by
  induction chain with
  | refl => exact law
  | tail _ last ih => exact each _ _ last ih

/-! ### What a step does to the pool -/

section turn
variable {p : Scope} {s : State} {a b : Run} {ch : Channel} (change : Turnover p s a b ch)
include change

theorem Turnover.handle : b.handle = a.handle := by cases change <;> rfl
theorem Turnover.channel : b.channel = a.channel := by cases change <;> rfl
theorem Turnover.ident : b.ident = a.ident := by cases change <;> rfl

theorem Turnover.chan_bare : ch.bare = (s.chan a.channel).bare := by
  cases change with
  | preempt flows => exact Channel.beginClose_bare _
  | close q flows => exact Channel.beginClose_bare _
  | preemptShut flows shuts => exact (Channel.endClose_bare _).trans (Channel.beginClose_bare _)
  | closeShut flows shuts => exact (Channel.endClose_bare _).trans (Channel.beginClose_bare _)
  | _ => rfl

theorem Turnover.announced : ch.announced = (s.chan a.channel).announced := by
  cases change with
  | preempt flows => exact Channel.beginClose_announced _
  | close q flows => exact Channel.beginClose_announced _
  | preemptShut flows shuts => exact Channel.beginClose_announced _
  | closeShut flows shuts => exact Channel.beginClose_announced _
  | _ => rfl

/-- A run that comes to be head was head before, or its channel had none. -/
theorem Turnover.isHead (head : b.state.isHead = true) :
    a.state.isHead = true ∨ ∀ q ∈ s.rm.pool, q.channel = a.channel → q.state.isHead = false := by
  cases change with
  | ask free waits => exact .inr free
  | unask asks => cases head
  | preempt flows => rw [flows]; exact .inl rfl
  | close q flows => rw [flows]; exact .inl rfl
  | preemptShut flows shuts => cases head
  | closeShut flows shuts => cases head
  | result e may none => exact .inl head
  | ending q may closes => rw [closes]; exact .inl rfl
  | opens may can asks => rw [asks]; exact .inl rfl

end turn

theorem State.map_modRun_handle (s : State) (h : Nat) (f : Run → Run) (same : ∀ r ∈ s.rm.pool, r.handle = h → (f r).handle = h) :
    (s.modRun h f).rm.pool.map Run.handle = s.rm.pool.map Run.handle := by
  show (updateRun s.rm.pool h f).map Run.handle = _
  unfold updateRun
  rw [List.map_map]
  refine List.map_congr_left fun r live => ?_
  by_cases here : r.handle = h
  · simp [here, same r live here]
  · simp [here]

theorem Stir.tidy {p : Scope} {s t : State} (step : Stir p s t) (tidy : s.Tidy) : t.Tidy := by
  cases step with
  | claim c k here => exact tidy_of_rm (congrArg RunUnit.pool (s.queueClaim_rm c k)) tidy
  | turn r f ch live here change =>
    refine tidy_of_rm (s := s.modRun r.handle f) rfl ⟨?_, ?_⟩
    · rw [State.map_modRun_handle s r.handle f fun q hq same => ?_]
      · exact tidy.handles
      · rw [tidy.only hq live same]
        exact change.handle
    · have lone : ∀ q ∈ s.rm.pool, q.handle ≠ r.handle → q.channel = r.channel → (f r).state.isHead = true →
          q.state.isHead = false := fun q hq other channel head =>
        (change.isHead head).elim (fun was => tidy.alone live was q hq other channel) fun free => free q hq channel
      intro x hx y hy channel headX headY
      rcases (tidy.mem_modRun live).1 hx with rfl | ⟨oldX, otherX⟩ <;>
        rcases (tidy.mem_modRun live).1 hy with rfl | ⟨oldY, otherY⟩
      · rfl
      · rw [lone y oldY otherY (channel.symm.trans change.channel) headX] at headY
        cases headY
      · rw [lone x oldX otherX (channel.trans change.channel) headY] at headX
        cases headX
      · exact tidy.heads x oldX y oldY channel headX headY
  | remove r b live here may waits => exact tidy.removeRun r b
  | finish r b live here may flows shuts =>
    exact State.Tidy.removeRun (s := s.setChan r.channel _) (tidy_of_rm (s := s) rfl tidy) _ b
  | pass g gated =>
    have mem : ∀ q ∈ s.rm.pool.map (fun r => if g r then passGate r else r),
        ∃ r ∈ s.rm.pool, q.handle = r.handle ∧ q.channel = r.channel ∧ (q.state.isHead = true → r.state.isHead = true) := by
      intro q hq
      obtain ⟨r, hr, rfl⟩ := List.mem_map.1 hq
      refine ⟨r, hr, ?_⟩
      split
      · exact ⟨rfl, rfl, nofun⟩
      · exact ⟨rfl, rfl, id⟩
    refine ⟨?_, fun x hx y hy channel headX headY => ?_⟩
    · show ((s.rm.pool.map _).map Run.handle).Nodup
      rw [List.map_map]
      rw [show s.rm.pool.map (Run.handle ∘ fun r => if g r = true then passGate r else r) = s.rm.pool.map Run.handle from
        List.map_congr_left fun r _ => by dsimp only [Function.comp]; split <;> rfl]
      exact tidy.handles
    · obtain ⟨x', hx', handleX, channelX, headX'⟩ := mem x hx
      obtain ⟨y', hy', handleY, channelY, headY'⟩ := mem y hy
      rw [handleX, handleY]
      exact tidy.heads x' hx' y' hy' (channelX ▸ channelY ▸ channel) (headX' headX) (headY' headY)

theorem Stirs.tidy {p : Scope} {s t : State} (chain : Stirs p s t) (tidy : s.Tidy) : t.Tidy :=
  chain.keep (P := State.Tidy) (fun _ _ => Stir.tidy) tidy

/-! ### The operations are chains of steps -/

/-- A run takes another state while its channel's valve stays. -/
theorem Stir.turnRun {p : Scope} {s : State} {r : Run} {f : Run → Run} (live : r ∈ s.rm.pool) (here : p.at' r.channel)
    (change : Turnover p s r (f r) (s.chan r.channel)) : Stir p s (s.modRun r.handle f) := by
  have step := Stir.turn s r f _ live here change
  rwa [show s.chan r.channel = (s.modRun r.handle f).chan r.channel from rfl, State.setChan_self] at step

section ops
variable {p : Scope} {s : State}

theorem Stirs.fold {α : Type} (op : State → α → State) (xs : List α)
    (each : ∀ (t : State) (x : α), x ∈ xs → t.Tidy → Stirs p t (op t x)) (tidy : s.Tidy) : Stirs p s (xs.foldl op s) := by
  refine (List.foldlRecOn xs op (motive := fun t => Stirs p s t) (Stirs.refl s) fun t sofar x member => ?_)
  exact sofar.trans (each t x member (sofar.tidy tidy))

theorem Stirs.announce (s : State) {c : Chan} (here : p.at' c) : Stirs p s (s.announce c) := by
  unfold State.announce
  split
  · exact .refl s
  · exact (Stir.claim s c _ here).once
  · exact (Stir.claim s c _ here).once
  · split
    · exact .refl s
    · exact (Stir.claim s c _ here).once

theorem Stirs.queueCurrent (s : State) {c : Chan} (here : p.at' c) : Stirs p s (s.queueCurrent c) := by
  unfold State.queueCurrent
  split
  · exact (Stir.claim s c _ here).once
  · split
    · exact (Stir.claim s c _ here).once
    · exact (Stir.claim s c _ here).once

theorem Stirs.queueDeparture (s : State) {r : Run} (here : p.at' r.channel) : Stirs p s (s.queueDeparture r) := by
  unfold State.queueDeparture
  dsimp only
  split <;> first | exact (Stir.claim s _ _ here).once | exact .refl s

theorem Stirs.pickHead {c : Chan} (here : p.at' c) (free : ∀ q ∈ s.rm.pool, q.channel = c → q.state.isHead = false) :
    Stirs p s (s.pickHead c) := by
  unfold State.pickHead
  split
  · next r first =>
    obtain ⟨live, on, notGated⟩ := of_firstEligible first
    subst on
    have waits : r.state = .queued := by
      have rests := free r live rfl
      cases state : r.state with
      | gated => exact absurd state notGated
      | queued => rfl
      | _ => rw [state] at rests; cases rests
    exact (Stir.turnRun (f := fun q => { q with state := .asking }) live here (.ask r free waits)).once
  · exact .refl s

theorem State.no_head_of_head {c : Chan} (none : s.head c = none) : ∀ q ∈ s.rm.pool, q.channel = c → q.state.isHead = false :=
  State.no_head_of_none none

/-- A head that is put back among the waiting leaves its channel without a head. -/
theorem State.Tidy.free_of_queued (tidy : s.Tidy) {r : Run} (live : r ∈ s.rm.pool) (head : r.state.isHead = true) :
    ∀ q ∈ (s.setRunState r.handle .queued).rm.pool, q.channel = r.channel → q.state.isHead = false := by
  intro q hq channel
  rcases (tidy.mem_modRun live).1 hq with rfl | ⟨old, other⟩
  · rfl
  · exact tidy.alone live head q old other channel

theorem updateRun_eq (pool : List Run) (h : Nat) (f : Run → Run) :
    updateRun pool h f = pool.map fun q => if q.handle = h then f q else q := by
  unfold updateRun
  refine List.map_congr_left fun q _ => ?_
  by_cases here : q.handle = h <;> simp [here]

/-- What is done to a run is lost with the run. -/
theorem filter_updateRun (pool : List Run) (h : Nat) {f : Run → Run} (same : ∀ r, (f r).handle = r.handle) :
    (updateRun pool h f).filter (fun q => q.handle != h) = pool.filter fun q => q.handle != h := by
  unfold updateRun
  induction pool with
  | nil => rfl
  | cons r rest ih =>
    rw [List.map_cons]
    by_cases here : r.handle = h
    · simp only [here, same, BEq.rfl, if_true, List.filter_cons, bne_self_eq_false, Bool.false_eq_true, if_false]
      exact ih
    · rw [if_neg (by simpa using here), List.filter_cons, List.filter_cons, if_pos (by simpa using here),
        if_pos (by simpa using here), ih]

theorem updateRun_updateRun (pool : List Run) (h : Nat) {f : Run → Run} (g : Run → Run) (same : ∀ r, (f r).handle = r.handle) :
    updateRun (updateRun pool h f) h g = updateRun pool h fun r => g (f r) := by
  unfold updateRun
  rw [List.map_map]
  refine List.map_congr_left fun r _ => ?_
  by_cases here : r.handle = h
  · simp [here, same]
  · simp [here]

theorem Stirs.preempt (tidy : s.Tidy) {r : Run} (live : r ∈ s.rm.pool) (flows : r.state = .flowing) (here : p.at' r.channel) :
    Stirs p s (s.preempt r.channel r) := by
  unfold State.preempt
  dsimp only
  split
  · next shuts =>
    have turned := Stir.turn (p := p) s r (fun q => { q.preempted with state := .queued }) _ live here (.preemptShut r flows shuts)
    have pool : (((s.modRun r.handle Run.preempted).setChan r.channel (s.chan r.channel).beginClose.endClose).setRunState
        r.handle .queued) = (s.modRun r.handle fun q => { q.preempted with state := .queued }).setChan r.channel
          (s.chan r.channel).beginClose.endClose := by
      show ((s.setPool (updateRun _ _ _)).setChan _ _).setPool (updateRun (updateRun _ _ _) _ _) = _
      rw [updateRun_updateRun _ _ (f := Run.preempted) (fun q => { q with state := .queued }) fun _ => rfl]
      rfl
    have free : ∀ q ∈ ((s.modRun r.handle fun q => { q.preempted with state := .queued }).setChan r.channel
        (s.chan r.channel).beginClose.endClose).rm.pool, q.channel = r.channel → q.state.isHead = false := by
      intro q hq there
      rcases (tidy.mem_modRun live).1 hq with rfl | ⟨old, other⟩
      · rfl
      · exact tidy.alone live (isHead_of_flowing flows) q old other there
    have picked := turned.once.trans (Stirs.pickHead here free)
    rw [← pool] at picked
    exact picked
  · exact (Stir.turn s r Run.preempted _ live here (.preempt r flows)).once

theorem Stirs.headSelect (tidy : s.Tidy) {c : Chan} (here : p.at' c) : Stirs p s (s.headSelect c) := by
  unfold State.headSelect
  split
  · next none => exact Stirs.pickHead here (State.no_head_of_none none)
  · next a head =>
    obtain ⟨live, on, isHead⟩ := State.mem_of_head head
    subst on
    split
    · next r asks first =>
      split
      · exact .refl s
      · next other =>
        have turned : Stir p s (s.setRunState a.handle .queued) :=
          Stir.turnRun (f := fun q => { q with state := .queued }) live here (.unask a asks)
        have tidy1 := turned.tidy tidy
        obtain ⟨liveR, onR, notGated⟩ := of_firstEligible first
        have free := tidy.free_of_queued live isHead
        have live1 : r ∈ (s.setRunState a.handle .queued).rm.pool := (tidy.mem_modRun live).2 (.inr ⟨liveR, other⟩)
        have waits : r.state = .queued := by
          have rests := free r live1 onR
          cases state : r.state with
          | gated => exact absurd state notGated
          | queued => rfl
          | _ => rw [state] at rests; cases rests
        refine turned.once.trans (Stir.turnRun (f := fun q => { q with state := .asking }) live1 (onR ▸ here)
          (.ask r (onR ▸ free) waits)).once
    · split
      · exact .refl s
      · next flows _ _ => exact Stirs.preempt tidy live flows here
    · exact .refl s

theorem Stirs.headSelectAll (tidy : s.Tidy) {cs : List Chan} (here : ∀ c ∈ cs, p.at' c) : Stirs p s (s.headSelectAll cs) :=
  Stirs.fold _ cs (fun _ c member tidy => Stirs.headSelect tidy (here c member)) tidy

/-- Waiting runs pass their gates, and head selection follows on their channels. -/
theorem Stirs.passing (tidy : s.Tidy) (g : Run → Bool)
    (gated : ∀ r ∈ s.rm.pool, g r = true → r.state = .gated ∧ p.passes r.handle ∧ p.at' r.channel) :
    Stirs p s ((s.setPool (s.rm.pool.map fun r => if g r then passGate r else r)).headSelectAll (channelsWhere s.rm.pool g)) := by
  have passed := Stir.pass (p := p) s g gated
  refine passed.once.trans (Stirs.headSelectAll (passed.tidy tidy) fun c member => ?_)
  obtain ⟨-, some'⟩ := List.mem_filter.1 member
  obtain ⟨r, live, both⟩ := List.any_eq_true.1 some'
  rw [Bool.and_eq_true, beq_iff_eq] at both
  exact both.1 ▸ (gated r live both.2).2.2

theorem gated_of_waitsOn {h : Nat} {r : Run} (waits : waitsOn h r = true) : r.state = .gated := by
  unfold waitsOn at waits
  rw [Bool.and_eq_true, beq_iff_eq] at waits
  exact waits.1

section everywhere
variable (all : p.Wide)
include all

/-- R61: what follows the removal of a run. -/
theorem Stirs.departed (tidy : s.Tidy) (r : Run) : Stirs p s ((s.releaseWaiting r.handle).headSelect r.channel) ∧
    Stirs p s (((s.releaseWaiting r.handle).headSelect r.channel).queueDeparture r) := by
  have waiting : Stirs p s (s.releaseWaiting r.handle) :=
    Stirs.passing tidy (waitsOn r.handle) fun q _ waits => ⟨gated_of_waitsOn waits, all.2 _, all.1 _⟩
  have selected := waiting.trans (Stirs.headSelect (waiting.tidy tidy) (all.1 r.channel))
  exact ⟨selected, selected.trans (Stirs.queueDeparture _ (all.1 _))⟩

theorem Stirs.depart (tidy : s.Tidy) {r : Run} (live : r ∈ s.rm.pool) (may : p.ends r.handle)
    (waits : r.state = .gated ∨ r.state = .queued ∨ r.state = .asking) (b : Bool) : Stirs p s (s.depart r.handle b) := by
  have removed := Stir.remove s r b live (all.1 _) may waits
  have after := Stirs.departed all (removed.tidy tidy) r
  unfold State.depart
  rw [tidy.find_eq live]
  dsimp only
  split
  · exact removed.once.trans after.2
  · exact removed.once.trans after.1

end everywhere

/-- R50, R72: a close demand has reached the FLOWING head of a channel and its valve. -/
def State.begun (s : State) (r : Run) (q : Purpose) : State :=
  (s.setRunState r.handle (.closing q)).setChan r.channel (s.chan r.channel).beginClose

theorem State.demandClose_of_flowing {c : Chan} {r : Run} (head : s.head c = some r) (flows : r.state = .flowing)
    (q : Purpose) (here : r.channel = c) :
    (¬ (s.chan c).shuts → s.demandClose c q = s.begun r q) ∧
      ((s.chan c).shuts → s.demandClose c q =
        ((s.begun r q).setChan c (s.chan c).beginClose.endClose).dismissHead c false) := by
  subst here
  unfold State.demandClose
  rw [head]
  dsimp only
  rw [if_pos flows]
  refine ⟨fun slow => if_neg slow, fun shuts => (if_pos shuts).trans ?_⟩
  rw [State.completeClose_eq, State.chan_setChan_same]
  rfl

theorem State.demandClose_of_other {c : Chan} (other : ∀ r ∈ s.head c, r.state ≠ .flowing) (q : Purpose) :
    s.demandClose c q = s := by
  unfold State.demandClose
  split
  · next r head => exact if_neg (other r head)
  · rfl

theorem State.Tidy.mem_begun (tidy : s.Tidy) {r : Run} (live : r ∈ s.rm.pool) (q : Purpose) {x : Run} :
    x ∈ (s.begun r q).rm.pool ↔ x = { r with state := .closing q } ∨ x ∈ s.rm.pool ∧ x.handle ≠ r.handle :=
  tidy.mem_modRun live

theorem Stir.begun {r : Run} (live : r ∈ s.rm.pool) (flows : r.state = .flowing) (here : p.at' r.channel) (q : Purpose) :
    Stir p s (s.begun r q) :=
  Stir.turn s r (fun q' => { q' with state := .closing q }) _ live here (.close r q flows)

theorem State.begun_endClose (s : State) (r : Run) (q : Purpose) :
    (s.begun r q).setChan r.channel (s.chan r.channel).beginClose.endClose =
      (s.setRunState r.handle (.closing q)).setChan r.channel (s.chan r.channel).beginClose.endClose :=
  State.setChan_setChan _ _ _ _

/-- The run whose close has begun and come to rest at once is the head. -/
theorem State.Tidy.head_shut (tidy : s.Tidy) {r : Run} (live : r ∈ s.rm.pool) (flows : r.state = .flowing) (q : Purpose) :
    let t := (s.setRunState r.handle (.closing q)).setChan r.channel (s.chan r.channel).beginClose.endClose
    { r with state := .closing q } ∈ t.rm.pool ∧ t.head r.channel = some { r with state := .closing q } ∧ t.Tidy := by
  have step : Stir ⟨fun _ => False, fun _ => False, fun _ => False, fun _ => True⟩ s (s.begun r q) :=
    Stir.begun live flows trivial q
  have neat := step.tidy tidy
  have mem : { r with state := .closing q } ∈ (s.begun r q).rm.pool := (tidy.mem_begun live q).2 (.inl rfl)
  exact ⟨mem, neat.head_eq mem rfl, tidy_of_rm (s := s.begun r q) rfl neat⟩

/-- R50, R52: a close demand for another purpose than an end touches its channel alone. -/
theorem Stirs.demandClose (tidy : s.Tidy) {c : Chan} (here : p.at' c) {q : Purpose} (other : q ≠ .ending) :
    Stirs p s (s.demandClose c q) := by
  by_cases flows : ∃ r ∈ s.head c, r.state = .flowing
  · obtain ⟨r, head, flows⟩ := flows
    obtain ⟨live, on, -⟩ := State.mem_of_head head
    subst on
    obtain ⟨slow, fast⟩ := State.demandClose_of_flowing head flows q rfl
    by_cases shuts : (s.chan r.channel).shuts
    · obtain ⟨live1, head1, -⟩ := tidy.head_shut live flows q
      have turned := Stir.turn (p := p) s r (fun q => { q with state := .queued }) _ live here (.closeShut r flows shuts)
      have queued : ((s.setRunState r.handle (.closing q)).setChan r.channel (s.chan r.channel).beginClose.endClose).setRunState
          r.handle .queued = (s.setRunState r.handle .queued).setChan r.channel (s.chan r.channel).beginClose.endClose := by
        show ((s.setPool (updateRun _ _ _)).setChan _ _).setPool (updateRun (updateRun _ _ _) _ _) = _
        rw [updateRun_updateRun _ _ (f := fun x => { x with state := .closing q }) (fun q => { q with state := .queued })
          fun _ => rfl]
        rfl
      have free := tidy.free_of_queued live (isHead_of_flowing flows)
      have picked := turned.once.trans (Stirs.pickHead here (c := r.channel) free)
      rw [fast shuts, s.begun_endClose]
      unfold State.dismissHead
      rw [head1]
      have again : ((s.setRunState r.handle (.closing q)).setChan r.channel (s.chan r.channel).beginClose.endClose).requeue
          r.channel r.handle = ((s.setRunState r.handle .queued).setChan r.channel
            (s.chan r.channel).beginClose.endClose).pickHead r.channel := congrArg (State.pickHead · r.channel) queued
      replace picked := again ▸ (show Stirs p s (((s.setRunState r.handle .queued).setChan r.channel
        (s.chan r.channel).beginClose.endClose).pickHead r.channel) from picked)
      cases q <;> first | exact absurd rfl other | exact picked
    · rw [slow shuts]
      exact (Stir.begun live flows here q).once
  · rw [State.demandClose_of_other fun r head flowing => flows ⟨r, head, flowing⟩]

theorem Stirs.closeAll (tidy : s.Tidy) (all : ∀ c, p.at' c) {q : Purpose} (other : q ≠ .ending) : Stirs p s (s.closeAll q) :=
  Stirs.fold _ allChans (fun _ c _ tidy => Stirs.demandClose tidy (all c) other) tidy

theorem Stirs.grantNotice {c : Chan} (here : p.at' c) (may : p.opens c) : Stirs p s (s.grantNotice c) := by
  unfold State.grantNotice
  split
  · next can =>
    split
    · next r head =>
      obtain ⟨live, on, -⟩ := State.mem_of_head head
      subst on
      obtain ⟨-, -, -, -, x, -, found, -, asks, -⟩ := State.of_canOpen can
      obtain rfl : r = x := Option.some.inj (head.symm.trans found)
      have opened := Stir.turn s r (fun q => { q with state := .flowing }) _ live here (.opens r may can asks)
      exact opened.once.trans (Stirs.announce _ here)
    · exact .refl s
  · exact Stirs.queueCurrent s here

theorem Stirs.revocationNotice (tidy : s.Tidy) {c : Chan} (here : p.at' c) : Stirs p s (s.revocationNotice c) :=
  (Stirs.demandClose (q := .revoked) tidy here nofun).trans (Stirs.queueCurrent _ here)

theorem Stirs.notices (tidy : s.Tidy) (all : ∀ c, p.at' c) (granted revoked : List Chan) (may : ∀ c ∈ granted, p.opens c) :
    Stirs p s (s.notices granted revoked) := by
  refine Stirs.fold _ allChans (fun t c _ tidy => ?_) tidy
  split
  · next member => exact Stirs.grantNotice (all c) (may c member)
  · split
    · exact Stirs.revocationNotice tidy (all c)
    · exact .refl t

/-- R61: a run that ends with its close leaves the pool it had in its former state. -/
theorem State.Tidy.removeRun_shut (tidy : s.Tidy) (r : Run) (q : Purpose) (ch : Channel) (b : Bool) :
    ((s.setRunState r.handle (.closing q)).setChan r.channel ch).removeRun { r with state := .closing q } b =
      (s.setChan r.channel ch).removeRun r b := by
  have same : (updateRun s.rm.pool r.handle fun x => { x with state := .closing q }).map Run.handle = s.rm.pool.map Run.handle :=
    s.map_modRun_handle r.handle (fun x => { x with state := .closing q }) fun _ _ same => same
  have pool : (updateRun s.rm.pool r.handle fun x => { x with state := .closing q }).eraseP (fun x => x.handle == r.handle) =
      s.rm.pool.eraseP fun x => x.handle == r.handle := by
    rw [eraseP_eq_filter tidy.handles, eraseP_eq_filter (by rw [same]; exact tidy.handles)]
    exact filter_updateRun s.rm.pool r.handle fun _ => rfl
  exact congrArg (fun list => ((s.setChan r.channel ch).setPool list).appendRecord
    (completionRecord r b s.clock.seconds)) pool

theorem State.endRun_of_gone {h : Nat} (gone : findRun s.rm.pool h = none) (e : EndResult) : s.endRun h e = s := by
  unfold State.endRun
  rw [gone]

theorem State.endRun_of_ended {h : Nat} {r : Run} (found : findRun s.rm.pool h = some r) (ended : r.endResult.isSome = true)
    (e : EndResult) : s.endRun h e = s := by
  unfold State.endRun
  rw [found]
  exact if_pos ended

section everywhere
variable (all : p.Wide)
include all

theorem Stirs.demandEnd (tidy : s.Tidy) {c : Chan} (may : ∀ r ∈ s.head c, p.ends r.handle) (q : Purpose) :
    Stirs p s (s.demandClose c q) := by
  by_cases other : q ≠ .ending
  · exact Stirs.demandClose tidy (all.1 c) other
  obtain rfl := not_not.1 other
  by_cases flows : ∃ r ∈ s.head c, r.state = .flowing
  · obtain ⟨r, head, flows⟩ := flows
    obtain ⟨live, on, -⟩ := State.mem_of_head head
    subst on
    obtain ⟨slow, fast⟩ := State.demandClose_of_flowing head flows .ending rfl
    by_cases shuts : (s.chan r.channel).shuts
    · obtain ⟨live1, head1, neat⟩ := tidy.head_shut live flows .ending
      have finished := Stir.finish s r false live (all.1 _) (may r head) flows shuts
      have after := (Stirs.departed all (finished.tidy tidy) r).2
      rw [fast shuts, s.begun_endClose]
      unfold State.dismissHead
      rw [head1]
      dsimp only
      unfold State.depart
      rw [neat.find_eq live1]
      dsimp only
      rw [tidy.removeRun_shut]
      exact finished.once.trans after
    · rw [slow shuts]
      exact (Stir.begun live flows (all.1 _) .ending).once
  · rw [State.demandClose_of_other fun r head flowing => flows ⟨r, head, flowing⟩]

/-- R56–R60: what follows the result of a live run. -/
theorem Stirs.ended (tidy : s.Tidy) {r : Run} (live : r ∈ s.rm.pool) (may : p.ends r.handle) (open' : r.endResult = none)
    (e : EndResult) : Stirs p (s.modRun r.handle fun q => { q with endResult := some e }) (s.endRun r.handle e) := by
  have given : Stir p s (s.modRun r.handle fun q => { q with endResult := some e }) :=
    Stir.turnRun (f := fun q => { q with endResult := some e }) live (all.1 _) (.result r e may open')
  have tidy1 := given.tidy tidy
  have live1 : { r with endResult := some e } ∈ (s.modRun r.handle fun q => { q with endResult := some e }).rm.pool :=
    (tidy.mem_modRun live).2 (.inl rfl)
  unfold State.endRun
  rw [tidy.find_eq live]
  dsimp only
  rw [if_neg (by rw [open']; nofun)]
  split
  · next gated => exact Stirs.depart all tidy1 live1 may (.inl gated) false
  · next queued => exact Stirs.depart all tidy1 live1 may (.inr (.inl queued)) false
  · next asks => exact Stirs.depart all tidy1 live1 may (.inr (.inr asks)) false
  · next flows =>
    refine Stirs.demandEnd all tidy1 (fun x head => ?_) _
    have own := tidy1.head_eq live1 (isHead_of_flowing flows)
    obtain rfl := Option.some.inj (own.symm.trans head)
    exact may
  · next q closes =>
    exact (Stir.turnRun (f := fun q => { q with state := .closing .ending }) live1 (all.1 _) (.ending _ q may closes)).once

/-- R56–R60, R51: an end given to a run. -/
theorem Stirs.endRun (tidy : s.Tidy) {h : Nat} (may : p.ends h) (e : EndResult) : Stirs p s (s.endRun h e) := by
  cases found : findRun s.rm.pool h with
  | none => rw [State.endRun_of_gone found]
  | some r =>
    cases result : r.endResult with
    | some x => rw [State.endRun_of_ended found (by rw [result]; rfl)]
    | none =>
      obtain ⟨live, rfl⟩ := State.mem_of_findRun found
      have given : Stir p s (s.modRun r.handle fun q => { q with endResult := some e }) :=
        Stir.turnRun (f := fun q => { q with endResult := some e }) live (all.1 _) (.result r e may result)
      exact given.once.trans (Stirs.ended all tidy live may result e)

theorem Stirs.stopWatch (tidy : s.Tidy) (may : ∀ h ∈ s.stopping, p.ends h) : Stirs p s s.stopWatch :=
  Stirs.fold _ s.stopping (fun _ h member tidy => Stirs.endRun all tidy (may h member) .stopped) tidy

theorem Stirs.gateTest (tidy : s.Tidy) : Stirs p s s.gateTest :=
  Stirs.passing tidy s.passes fun r _ passes => by
    unfold State.passes at passes
    rw [Bool.and_eq_true, beq_iff_eq] at passes
    exact ⟨passes.1, all.2 _, all.1 _⟩

theorem Stirs.evaluate (tidy : s.Tidy) (may : ∀ h ∈ s.stopping, p.ends h) : Stirs p s s.evaluate :=
  (Stirs.stopWatch all tidy may).trans (Stirs.gateTest all ((Stirs.stopWatch all tidy may).tidy tidy))

theorem Stirs.evaluateIf (tidy : s.Tidy) (may : ∀ h ∈ s.stopping, p.ends h) (b : Bool) : Stirs p s (s.evaluateIf b) := by
  unfold State.evaluateIf
  split
  · exact Stirs.evaluate all tidy may
  · exact .refl s

theorem Stirs.announceAll (tidy : s.Tidy) : Stirs p s s.announceAll :=
  Stirs.fold _ allChans (fun t c _ _ => Stirs.announce t (all.1 c)) tidy

end everywhere

end ops

end Sys2Proof.Machine
end

section
/-!
SUPPORT. What the steps of runs and valves keep: the channels they do not touch, a valve that opens or closes, a run that closes
or waits, and the results that are written.
-/

namespace Sys2Proof.Machine

variable {p : Scope} {s t : State}

/-! ### What every step keeps -/

theorem Stir.bare (step : Stir p s t) : t.bare = s.bare := by
  cases step with
  | claim c k here => exact s.queueClaim_bare c k
  | turn r f ch live here change => exact (State.setChan_bare _ _ _ change.chan_bare).trans (s.modRun_bare r.handle f)
  | remove r b live here may waits => exact s.removeRun_bare r b
  | finish r b live here may flows shuts =>
    exact (State.removeRun_bare _ r b).trans (State.setChan_bare _ _ _ ((Channel.endClose_bare _).trans (Channel.beginClose_bare _)))
  | pass g gated => exact s.setPool_bare _

theorem Stirs.bare (chain : Stirs p s t) : t.bare = s.bare :=
  chain.keep (P := fun u => u.bare = s.bare) (fun _ _ step same => step.bare.trans same) rfl

theorem confirmed_of_bare {a b : Channel} (same : a.bare = b.bare) : a.confirmed = b.confirmed := by
  have settings : a.settings = b.settings := by have e := congrArg Channel.settings same; exact e
  have vsw : a.vsw = b.vsw := by have e := congrArg Channel.vsw same; exact e
  unfold Channel.confirmed Channel.hasSwitch
  rw [settings, vsw]

theorem closeLoad_of_bare {a b : Channel} (same : a.bare = b.bare) : a.closeLoad = b.closeLoad := by
  have settings : a.settings = b.settings := by have e := congrArg Channel.settings same; exact e
  unfold Channel.closeLoad
  rw [settings]

theorem Stirs.confirmed (chain : Stirs p s t) (c : Chan) : (t.chan c).confirmed = (s.chan c).confirmed :=
  confirmed_of_bare (chan_of_bare chain.bare c)

/-! ### Channels that are not touched -/

theorem Stir.chan_elsewhere (step : Stir p s t) {c : Chan} (apart : ¬ p.at' c) : t.chan c = s.chan c := by
  cases step with
  | claim d k here => exact s.queueClaim_chan_ne k fun same => apart (same ▸ here)
  | turn r f ch live here change => exact State.chan_setChan_ne _ _ fun same => apart (same ▸ here)
  | remove r b live here may waits => rfl
  | finish r b live here may flows shuts => exact State.chan_setChan_ne _ _ fun same => apart (same ▸ here)
  | pass g gated => rfl

theorem State.Tidy.mem_finished (tidy : s.Tidy) {c : Chan} {ch : Channel} {r q : Run} {b : Bool} :
    q ∈ ((s.setChan c ch).removeRun r b).rm.pool ↔ q ∈ s.rm.pool ∧ q.handle ≠ r.handle :=
  State.Tidy.mem_removeRun (s := s.setChan c ch) (tidy_of_rm (s := s) rfl tidy)

theorem Stir.mem_elsewhere (step : Stir p s t) (tidy : s.Tidy) {q : Run} (apart : ¬ p.at' q.channel) :
    q ∈ t.rm.pool ↔ q ∈ s.rm.pool := by
  cases step with
  | claim d k here => rw [s.queueClaim_rm d k]
  | turn r f ch live here change =>
    refine (tidy.mem_modRun live).trans ⟨?_, fun old => .inr ⟨old, fun same => ?_⟩⟩
    · rintro (rfl | old)
      · exact absurd (change.channel ▸ here) apart
      · exact old.1
    · exact apart (tidy.only old live same ▸ here)
  | remove r b live here may waits =>
    refine tidy.mem_removeRun.trans ⟨And.left, fun old => ⟨old, fun same => ?_⟩⟩
    exact apart (tidy.only old live same ▸ here)
  | finish r b live here may flows shuts =>
    refine tidy.mem_finished.trans ⟨And.left, fun old => ⟨old, fun same => ?_⟩⟩
    exact apart (tidy.only old live same ▸ here)
  | pass g gated =>
    refine List.mem_map.trans ⟨?_, fun old => ⟨q, old, if_neg fun passes => apart (gated q old passes).2.2⟩⟩
    rintro ⟨r, hr, rfl⟩
    split at apart
    · next passes => exact absurd (gated r hr passes).2.2 apart
    · next stays => rwa [if_neg stays]

theorem Stirs.elsewhere (chain : Stirs p s t) (tidy : s.Tidy) {c : Chan} (apart : ¬ p.at' c) :
    t.chan c = s.chan c ∧ ∀ q : Run, q.channel = c → (q ∈ t.rm.pool ↔ q ∈ s.rm.pool) := by
  refine (chain.keep (P := fun u => u.Tidy ∧ u.chan c = s.chan c ∧ ∀ q : Run, q.channel = c → (q ∈ u.rm.pool ↔ q ∈ s.rm.pool))
    (fun u v step kept => ?_) ⟨tidy, rfl, fun _ _ => Iff.rfl⟩).2
  obtain ⟨neat, chan, mem⟩ := kept
  exact ⟨step.tidy neat, (step.chan_elsewhere apart).trans chan, fun q here =>
    (step.mem_elsewhere neat (by rw [here]; exact apart)).trans (mem q here)⟩

/-! ### Valves on their way -/

theorem Channel.shuts.confirmed {ch : Channel} (shuts : ch.shuts) : ch.confirmed = true :=
  (confirmed_of_bare (Channel.beginClose_bare ch)).symm.trans shuts.2

/-- How a valve may move in a step: it stays, begins to close, comes to rest where its end switch confirms, or begins to open. -/
def Swing (p : Scope) (s : State) (c : Chan) (ch : Channel) : Prop :=
  ch.mute = (s.chan c).mute ∨ ch.mute = (s.chan c).beginClose.mute ∨
    ((s.chan c).confirmed = true ∧ ch.mute = (s.chan c).beginClose.endClose.mute) ∨
    (p.opens c ∧ s.canOpen c = true ∧ ch.mute = (s.chan c).beginOpen.mute)

theorem Turnover.valve {a b : Run} {ch : Channel} (change : Turnover p s a b ch) : Swing p s a.channel ch := by
  cases change with
  | preempt flows => exact .inr (.inl rfl)
  | close q flows => exact .inr (.inl rfl)
  | preemptShut flows shuts => exact .inr (.inr (.inl ⟨shuts.confirmed, rfl⟩))
  | closeShut flows shuts => exact .inr (.inr (.inl ⟨shuts.confirmed, rfl⟩))
  | opens may can asks => exact .inr (.inr (.inr ⟨may, can, rfl⟩))
  | _ => exact .inl rfl

theorem Stir.valve (step : Stir p s t) (c : Chan) : Swing p s c (t.chan c) := by
  cases step with
  | claim d k here => exact .inl (chan_of_mute (s.queueClaim_mute d k) c)
  | turn r f ch live here change =>
    by_cases there : r.channel = c
    · subst there
      rw [State.chan_setChan_same]
      exact change.valve
    · rw [State.chan_setChan_ne _ _ there]
      exact .inl rfl
  | remove r b live here may waits => exact .inl rfl
  | finish r b live here may flows shuts =>
    show Swing p s c ((s.setChan r.channel _).chan c)
    by_cases there : r.channel = c
    · subst there
      rw [State.chan_setChan_same]
      exact .inr (.inr (.inl ⟨shuts.confirmed, rfl⟩))
    · rw [State.chan_setChan_ne _ _ there]
      exact .inl rfl
  | pass g gated => exact .inl rfl

/-- A valve is CLOSING with a load of its close timer. -/
def Channel.Shutting (ch : Channel) (load : Option Nat) : Prop := ch.valve = .closing ∧ ch.closeTimer = load

theorem Channel.Shutting.of_mute {a b : Channel} {load : Option Nat} (same : b.mute = a.mute) (shutting : a.Shutting load) :
    b.Shutting load :=
  ⟨(valve_of_mute same).trans shutting.1, (closeTimer_of_mute same).trans shutting.2⟩

theorem Channel.beginClose_of_not_driven {ch : Channel} (rests : ch.valve.driven = false) : ch.beginClose = ch :=
  if_neg (Bool.eq_false_iff.1 rests)

/-- A valve that closes goes on closing until its end switch confirms. -/
theorem Stirs.shutting (chain : Stirs p s t) {c : Chan} {load : Option Nat} (slow : (s.chan c).confirmed = false)
    (shutting : (s.chan c).Shutting load) : (t.chan c).Shutting load := by
  refine (chain.keep (P := fun u => (u.chan c).confirmed = false ∧ (u.chan c).Shutting load) (fun u v step kept => ?_)
    ⟨slow, shutting⟩).2
  obtain ⟨slow, closing, timer⟩ := kept
  refine ⟨(confirmed_of_bare (chan_of_bare step.bare c)).trans slow, ?_⟩
  rcases step.valve c with same | begun | ⟨confirmed, -⟩ | ⟨-, can, -⟩
  · exact Channel.Shutting.of_mute same ⟨closing, timer⟩
  · rw [Channel.beginClose_of_not_driven (Valve.not_driven_closing closing)] at begun
    exact Channel.Shutting.of_mute begun ⟨closing, timer⟩
  · rw [slow] at confirmed
    cases confirmed
  · obtain ⟨-, -, -, closed, -⟩ := State.of_canOpen can
    rw [closing] at closed
    cases closed

theorem Channel.beginClose_shutting {ch : Channel} (drives : ch.valve.driven = true) :
    ch.beginClose.Shutting (some ch.closeLoad) := by
  rw [Channel.beginClose_of_driven drives]
  exact ⟨rfl, rfl⟩

/-- A valve that has begun to open is OPENING, or closes. -/
theorem Stirs.opening (chain : Stirs p s t) {c : Chan} (slow : (s.chan c).confirmed = false)
    (opening : (s.chan c).valve = .opening ∨ (s.chan c).valve = .closing) :
    (t.chan c).valve = .opening ∨ (t.chan c).valve = .closing := by
  refine (chain.keep (P := fun u => (u.chan c).confirmed = false ∧
    ((u.chan c).valve = .opening ∨ (u.chan c).valve = .closing)) (fun u v step kept => ?_) ⟨slow, opening⟩).2
  obtain ⟨slow, stands⟩ := kept
  refine ⟨(confirmed_of_bare (chan_of_bare step.bare c)).trans slow, ?_⟩
  rcases step.valve c with same | begun | ⟨confirmed, -⟩ | ⟨-, can, -⟩
  · rw [valve_of_mute same]
    exact stands
  · rw [valve_of_mute begun]
    rcases stands with opening | closing
    · rw [Channel.beginClose_of_driven (by rw [opening]; rfl)]
      exact .inr rfl
    · rw [Channel.beginClose_of_not_driven (Valve.not_driven_closing closing)]
      exact .inr closing
  · rw [slow] at confirmed
    cases confirmed
  · obtain ⟨-, -, -, closed, -⟩ := State.of_canOpen can
    rcases stands with stands | stands <;> rw [stands] at closed <;> cases closed

/-! ### Runs on their way -/

/-- No run of a channel is FLOWING. -/
def State.Quiet (s : State) (c : Chan) : Prop := ∀ r ∈ s.rm.pool, r.channel = c → r.state ≠ .flowing

theorem Turnover.flows {a b : Run} {ch : Channel} (change : Turnover p s a b ch) (flows : b.state = .flowing) :
    a.state = .flowing ∨ p.opens a.channel := by
  cases change with
  | result e may none => exact .inl flows
  | opens may can asks => exact .inr may
  | _ => cases flows

/-- Where a step does not open a valve, no run comes to be FLOWING. -/
theorem Stir.quiet (step : Stir p s t) (tidy : s.Tidy) {c : Chan} (shut : ¬ p.opens c) (quiet : s.Quiet c) : t.Quiet c := by
  cases step with
  | claim d k here =>
    unfold State.Quiet
    rw [s.queueClaim_rm d k]
    exact quiet
  | turn r f ch live here change =>
    intro q hq there flows
    rcases (tidy.mem_modRun live).1 hq with rfl | ⟨old, -⟩
    · rw [change.channel] at there
      subst there
      exact (change.flows flows).elim (quiet r live rfl) shut
    · exact quiet q old there flows
  | remove r b live here may waits => exact fun q hq => quiet q (tidy.mem_removeRun.1 hq).1
  | finish r b live here may flows shuts => exact fun q hq => quiet q (tidy.mem_finished.1 hq).1
  | pass g gated =>
    intro q hq there flows
    obtain ⟨r, hr, rfl⟩ := List.mem_map.1 hq
    by_cases passes : g r = true
    · rw [if_pos passes] at flows
      cases flows
    · rw [if_neg passes] at there flows
      exact quiet r hr there flows

theorem Stirs.quiet (chain : Stirs p s t) (tidy : s.Tidy) {c : Chan} (shut : ¬ p.opens c) (quiet : s.Quiet c) : t.Quiet c :=
  (chain.keep (P := fun u => u.Tidy ∧ u.Quiet c)
    (fun _ _ step kept => ⟨step.tidy kept.1, step.quiet kept.1 shut kept.2⟩) ⟨tidy, quiet⟩).2

/-- How a closing run may change. -/
theorem Turnover.of_closing {a b : Run} {ch : Channel} (change : Turnover p s a b ch) (closes : a.state.isClosing = true) :
    p.ends a.handle ∧
      (b = { a with state := .closing .ending } ∨ a.endResult = none ∧ ∃ e, b = { a with endResult := some e }) := by
  cases change with
  | ask free waits => rw [waits] at closes; cases closes
  | unask asks => rw [asks] at closes; cases closes
  | preempt flows => rw [flows] at closes; cases closes
  | close q flows => rw [flows] at closes; cases closes
  | preemptShut flows shuts => rw [flows] at closes; cases closes
  | closeShut flows shuts => rw [flows] at closes; cases closes
  | result e may none => exact ⟨may, .inr ⟨none, e, rfl⟩⟩
  | ending q may closes => exact ⟨may, .inl rfl⟩
  | opens may can asks => rw [asks] at closes; cases closes

/-- A closing run keeps its place, or is given its end. -/
theorem Stir.sinks (step : Stir p s t) (tidy : s.Tidy) {r : Run} (live : r ∈ s.rm.pool) (closes : r.state.isClosing = true) :
    r ∈ t.rm.pool ∨ p.ends r.handle ∧ ({ r with state := .closing .ending } ∈ t.rm.pool ∨
      r.endResult = none ∧ ∃ e, { r with endResult := some e } ∈ t.rm.pool) := by
  cases step with
  | claim d k at' => exact .inl (by rw [s.queueClaim_rm d k]; exact live)
  | turn q f ch liveQ at' change =>
    by_cases same : r = q
    · subst same
      obtain ⟨may, ended⟩ := change.of_closing closes
      have mem : f r ∈ (s.modRun r.handle f).rm.pool := (tidy.mem_modRun live).2 (.inl rfl)
      refine .inr ⟨may, ?_⟩
      rcases ended with ended | ⟨open', e, given⟩
      · exact .inl (ended ▸ mem)
      · exact .inr ⟨open', e, given ▸ mem⟩
    · exact .inl ((tidy.mem_modRun liveQ).2 (.inr ⟨live, fun handle => same (tidy.only live liveQ handle)⟩))
  | remove q b liveQ at' may waits =>
    refine .inl (tidy.mem_removeRun.2 ⟨live, fun handle => ?_⟩)
    obtain rfl := tidy.only live liveQ handle
    rcases waits with e | e | e <;> rw [e] at closes <;> cases closes
  | finish q b liveQ at' may flows shuts =>
    refine .inl (tidy.mem_finished.2 ⟨live, fun handle => ?_⟩)
    obtain rfl := tidy.only live liveQ handle
    rw [flows] at closes
    cases closes
  | pass g gated =>
    refine .inl (List.mem_map.2 ⟨r, live, if_neg fun passes => ?_⟩)
    rw [(gated r live passes).1] at closes
    cases closes

/-- A closing run that is given no end keeps its place. -/
theorem Stirs.sinks (chain : Stirs p s t) (tidy : s.Tidy) {r : Run} (kept : ¬ p.ends r.handle) (live : r ∈ s.rm.pool)
    (closes : r.state.isClosing = true) : r ∈ t.rm.pool :=
  (chain.keep (P := fun u => u.Tidy ∧ r ∈ u.rm.pool)
    (fun _ _ step both => ⟨step.tidy both.1, (step.sinks both.1 both.2 closes).resolve_right fun ended => kept ended.1⟩)
    ⟨tidy, live⟩).2

/-- A run that is CLOSING for ENDING with its result goes on so. -/
theorem Stirs.ending (chain : Stirs p s t) (tidy : s.Tidy) {r : Run} (live : r ∈ s.rm.pool) (closes : r.state = .closing .ending)
    (ended : r.endResult ≠ none) : r ∈ t.rm.pool := by
  refine (chain.keep (P := fun u => u.Tidy ∧ r ∈ u.rm.pool) (fun u v step both => ⟨step.tidy both.1, ?_⟩) ⟨tidy, live⟩).2
  rcases step.sinks both.1 both.2 (by rw [closes]; rfl) with kept | ⟨-, same | ⟨none, -⟩⟩
  · exact kept
  · rw [← closes] at same
    exact same
  · exact absurd none ended

end Sys2Proof.Machine
end

section
/-!
SUPPORT. Head selection (R44): the first eligible run of a channel, the move each case makes, and the heads a departure leaves.
-/

namespace Sys2Proof.Machine

/-! ### The first eligible run -/

theorem mem_allLevels (l : Level) : l ∈ allLevels := by
  revert l
  decide

theorem mem_listOf_iff {pool : List Run} {c : Chan} {r : Run} : r ∈ listOf pool c ↔ r ∈ pool ∧ r.channel = c := by
  refine ⟨mem_listOf, fun ⟨live, here⟩ => ?_⟩
  exact List.mem_flatMap.2 ⟨r.level, mem_allLevels _, List.mem_filter.2 ⟨live, by simp [here]⟩⟩

theorem firstEligible_eq_none {pool : List Run} {c : Chan} :
    firstEligible pool c = none ↔ ∀ q ∈ pool, q.channel = c → q.state = .gated := by
  unfold firstEligible
  rw [List.find?_eq_none]
  simp only [mem_listOf_iff, bne_iff_ne, ne_eq, not_not, and_imp]

/-- R42: the order of a run list. -/
def Before (pool : List Run) (r q : Run) : Prop :=
  r.level ≤ q.level ∧ (q.level = r.level → pool.idxOf r ≤ pool.idxOf q)

theorem listOf_sorted {pool : List Run} (nodup : pool.Nodup) (c : Chan) : (listOf pool c).Pairwise (Before pool) := by
  have places : pool.Pairwise fun r q => pool.idxOf r ≤ pool.idxOf q := by
    refine List.pairwise_iff_getElem.2 fun i j hi hj before => ?_
    rw [nodup.idxOf_getElem i hi, nodup.idxOf_getElem j hj]
    exact before.le
  have levels : allLevels.Pairwise (· < ·) := by decide
  refine List.pairwise_flatMap.2 ⟨fun l _ => ?_, levels.imp fun {l m} below x hx y hy => ?_⟩
  · refine (places.filter _).imp_of_mem fun {x y} hx hy before => ?_
    have levelX := (List.mem_filter.1 hx).2
    have levelY := (List.mem_filter.1 hy).2
    simp only [Bool.and_eq_true, beq_iff_eq] at levelX levelY
    exact ⟨by rw [levelX.2, levelY.2], fun _ => before⟩
  · have levelX := (List.mem_filter.1 hx).2
    have levelY := (List.mem_filter.1 hy).2
    simp only [Bool.and_eq_true, beq_iff_eq] at levelX levelY
    refine ⟨by rw [levelX.2, levelY.2]; exact below.le, fun same => ?_⟩
    rw [levelX.2, levelY.2] at same
    exact absurd same below.ne'

/-- R44: the first eligible run comes before every other eligible run of its channel. -/
theorem firstEligible_before {pool : List Run} (nodup : pool.Nodup) {c : Chan} {r q : Run} (first : firstEligible pool c = some r)
    (live : q ∈ pool) (here : q.channel = c) (eligible : q.state ≠ .gated) : Before pool r q := by
  unfold firstEligible at first
  obtain ⟨-, front, rest, cut, gated⟩ := List.find?_eq_some_iff_append.1 first
  have sorted := listOf_sorted nodup c
  have member : q ∈ listOf pool c := mem_listOf_iff.2 ⟨live, here⟩
  rw [cut] at sorted member
  rcases List.mem_append.1 member with early | late
  · have waits := gated q early
    simp only [Bool.not_eq_true', bne_eq_false_iff_eq] at waits
    exact absurd waits eligible
  · rcases List.mem_cons.1 late with rfl | later
    · exact ⟨le_rfl, fun _ => le_rfl⟩
    · exact (List.pairwise_cons.1 (List.pairwise_append.1 sorted).2.1).1 q later

/-- A change of runs that leaves channels, levels and gates leaves the first eligible run in its place. -/
theorem firstEligible_map {pool : List Run} {f : Run → Run} (channel : ∀ r ∈ pool, (f r).channel = r.channel)
    (level : ∀ r ∈ pool, (f r).level = r.level) (gated : ∀ r ∈ pool, (f r).state = .gated ↔ r.state = .gated) (c : Chan) :
    firstEligible (pool.map f) c = (firstEligible pool c).map f := by
  have list : listOf (pool.map f) c = (listOf pool c).map f := by
    unfold listOf
    rw [List.map_flatMap]
    refine congrArg (List.flatMap · allLevels) (funext fun l => ?_)
    rw [List.filter_map]
    refine congrArg (List.map f) (List.filter_congr fun r live => ?_)
    dsimp only [Function.comp]
    rw [channel r live, level r live]
  unfold firstEligible
  rw [list, List.find?_map]
  refine congrArg (Option.map f) ?_
  refine List.find?_congr fun r member => ?_
  have same := gated r (mem_listOf_iff.1 member).1
  dsimp only [Function.comp]
  rw [Bool.eq_iff_iff, bne_iff_ne, bne_iff_ne, Ne, Ne, same]

theorem firstEligible_updateRun {pool : List Run} (h : Nat) {f : Run → Run}
    (same : ∀ r ∈ pool, r.handle = h → (f r).channel = r.channel ∧ (f r).level = r.level ∧ ((f r).state = .gated ↔ r.state = .gated))
    (c : Chan) : firstEligible (updateRun pool h f) c =
      (firstEligible pool c).map fun r => if r.handle == h then f r else r := by
  refine firstEligible_map (fun r live => ?_) (fun r live => ?_) (fun r live => ?_) c <;>
    by_cases here : r.handle = h <;> simp [here, same r live]

/-! ### Head selection, case by case -/

section
variable {s : State} {c : Chan}

theorem State.pickHead_of_some {r : Run} (first : firstEligible s.rm.pool c = some r) :
    s.pickHead c = s.setRunState r.handle .asking := by
  unfold State.pickHead
  rw [first]

theorem State.pickHead_of_none (none : firstEligible s.rm.pool c = none) : s.pickHead c = s := by
  unfold State.pickHead
  rw [none]

theorem State.headSelect_of_free (free : s.head c = none) : s.headSelect c = s.pickHead c := by
  unfold State.headSelect
  rw [free]

theorem State.headSelect_of_none (none : firstEligible s.rm.pool c = none) : s.headSelect c = s := by
  unfold State.headSelect
  split
  · exact State.pickHead_of_none none
  · rw [none]
    split
    · next found => cases found
    · next found => cases found
    · rfl

theorem State.headSelect_of_same {r : Run} (first : firstEligible s.rm.pool c = some r) (head : s.head c = some r) :
    s.headSelect c = s := by
  unfold State.headSelect
  rw [head, first]
  dsimp only
  split
  · next found => exact if_pos (congrArg Run.handle (Option.some.inj found)).symm
  · next found => exact if_pos (congrArg Run.handle (Option.some.inj found)).symm
  · rfl

theorem State.headSelect_of_closing {a : Run} (head : s.head c = some a) (closes : a.state.isClosing = true) :
    s.headSelect c = s := by
  unfold State.headSelect
  rw [head]
  dsimp only
  split
  · next asks _ => rw [asks] at closes; cases closes
  · next flows _ => rw [flows] at closes; cases closes
  · rfl

theorem State.headSelect_of_asking {r a : Run} (first : firstEligible s.rm.pool c = some r) (head : s.head c = some a)
    (other : r.handle ≠ a.handle) (asks : a.state = .asking) :
    s.headSelect c = (s.setRunState a.handle .queued).setRunState r.handle .asking := by
  unfold State.headSelect
  rw [head]
  dsimp only
  rw [asks, first]
  exact if_neg other

theorem State.headSelect_of_flowing {r a : Run} (first : firstEligible s.rm.pool c = some r) (head : s.head c = some a)
    (other : r.handle ≠ a.handle) (flows : a.state = .flowing) : s.headSelect c = s.preempt c a := by
  unfold State.headSelect
  rw [head]
  dsimp only
  rw [flows, first]
  exact if_neg other

theorem State.setRunState_setRunState (s : State) {h k : Nat} (other : k ≠ h) (x y : RunState) :
    (s.setRunState h x).setRunState k y = s.setPool (s.rm.pool.map fun q =>
      if q.handle = k then { q with state := y } else if q.handle = h then { q with state := x } else q) := by
  show (s.setPool (updateRun s.rm.pool h _)).setPool (updateRun (updateRun s.rm.pool h _) k _) = _
  rw [updateRun_eq, updateRun_eq, List.map_map]
  refine congrArg (s.setPool) (List.map_congr_left fun q _ => ?_)
  by_cases first : q.handle = h
  · have apart : ¬ h = k := fun same => other same.symm
    simp [first, apart]
  · simp [first]

/-- R54: a preemption whose close the end switch does not confirm. -/
theorem State.preempt_of_slow {a : Run} (drives : (s.chan c).valve.driven = true) (slow : (s.chan c).confirmed = false) :
    s.preempt c a = (s.modRun a.handle Run.preempted).setChan c { s.chan c with
      valve := .closing, openTimer := none, noFlowTimer := none, closeTimer := some (s.chan c).closeLoad } := by
  have begun : (s.chan c).beginClose.confirmed = (s.chan c).confirmed := confirmed_of_bare (Channel.beginClose_bare _)
  unfold State.preempt
  dsimp only
  rw [show ∀ f, (s.modRun a.handle f).chan c = s.chan c from fun _ => rfl, if_neg, Channel.beginClose_of_driven drives]
  · rfl
  · rw [begun, slow]
    exact fun both => Bool.false_ne_true both.2

/-- R54, R73: a preemption whose close the end switch confirms at once. -/
theorem State.preempt_of_confirmed {a : Run} (drives : (s.chan c).valve.driven = true)
    (confirmed : (s.chan c).confirmed = true) : s.preempt c a =
      ((s.modRun a.handle Run.preempted).setChan c (s.chan c).beginClose.endClose).requeue c a.handle := by
  have begun : (s.chan c).beginClose.confirmed = (s.chan c).confirmed := confirmed_of_bare (Channel.beginClose_bare _)
  unfold State.preempt
  dsimp only
  rw [show ∀ f, (s.modRun a.handle f).chan c = s.chan c from fun _ => rfl, if_pos]
  · rfl
  · rw [begun, confirmed, Channel.beginClose_of_driven drives]
    exact ⟨rfl, rfl⟩

theorem State.chan_pickHead (s : State) (c d : Chan) : (s.pickHead c).chan d = s.chan d := by
  unfold State.pickHead
  split <;> rfl

end

/-- R52: a run put back among the waiting while another comes first. -/
theorem State.Tidy.requeue_of_other {s : State} (tidy : s.Tidy) {c : Chan} {a r : Run} (live : a ∈ s.rm.pool)
    (eligible : a.state ≠ .gated) (first : firstEligible s.rm.pool c = some r) (other : r.handle ≠ a.handle) :
    s.requeue c a.handle = (s.setRunState a.handle .queued).setRunState r.handle .asking := by
  have first' : firstEligible (s.setRunState a.handle .queued).rm.pool c = some r := by
    refine (firstEligible_updateRun a.handle (fun q hq same => ?_) c).trans ?_
    · obtain rfl := tidy.only hq live same
      exact ⟨rfl, rfl, iff_of_false nofun eligible⟩
    · rw [first]
      simp [other]
  exact State.pickHead_of_some first'

theorem State.Tidy.requeue_of_preempted {s : State} (tidy : s.Tidy) {c : Chan} {a r : Run} (head : s.head c = some a)
    (flows : a.state = .flowing) (first : firstEligible s.rm.pool c = some r) (other : r.handle ≠ a.handle) :
    let t := ((s.modRun a.handle Run.preempted).setChan c (s.chan c).beginClose.endClose).requeue c a.handle
    (t.chan c).valve = .closed ∧ { r with state := .asking } ∈ t.rm.pool ∧
      { a with state := .queued, preemptions := min 255 (a.preemptions + 1) } ∈ t.rm.pool := by
  obtain ⟨live, here, -⟩ := State.mem_of_head head
  obtain ⟨liveR, -, -⟩ := of_firstEligible first
  have turned := Stir.turn (p := ⟨fun _ => False, fun _ => False, fun _ => False, fun _ => True⟩) s a Run.preempted _ live
    trivial (.preempt a flows)
  generalize state : (s.modRun a.handle Run.preempted).setChan c (s.chan c).beginClose.endClose = u
  have rm : u.rm = (s.modRun a.handle Run.preempted).rm := by rw [← state]; rfl
  have chan : (u.chan c).valve = .closed := by rw [← state, State.chan_setChan_same]; rfl
  have neat : u.Tidy := tidy_of_rm (s := (s.modRun a.handle Run.preempted).setChan a.channel _) (congrArg RunUnit.pool rm)
    (turned.tidy tidy)
  have mem : ∀ q, q ∈ u.rm.pool ↔ q = a.preempted ∨ q ∈ s.rm.pool ∧ q.handle ≠ a.handle := fun q => by
    rw [rm]
    exact tidy.mem_modRun live
  have first' : firstEligible u.rm.pool c = some r := by
    rw [rm]
    refine (firstEligible_updateRun a.handle (fun q hq same => ?_) c).trans ?_
    · obtain rfl := tidy.only hq live same
      exact ⟨rfl, rfl, iff_of_false nofun (by rw [flows]; nofun)⟩
    · rw [first]
      simp [other]
  have preempted := (mem a.preempted).2 (.inl rfl)
  have requeued : u.requeue c a.handle = (u.setRunState a.handle .queued).setRunState r.handle .asking :=
    neat.requeue_of_other (a := a.preempted) preempted (by rintro ⟨⟩) first' other
  dsimp only
  rw [requeued, State.setRunState_setRunState u other]
  refine ⟨chan, List.mem_map.2 ⟨r, (mem r).2 (.inr ⟨liveR, other⟩), if_pos rfl⟩, List.mem_map.2 ⟨_, preempted, ?_⟩⟩
  rw [if_neg fun same : a.preempted.handle = r.handle => other same.symm]
  exact if_pos rfl

/-! ### The head of a channel after its selection -/

/-- The heads of a channel are ASKING. -/
def State.Asks (s : State) (c : Chan) : Prop := ∀ q ∈ s.rm.pool, q.channel = c → q.state.isHead = true → q.state = .asking

theorem headIsFirst_of_rm {s t : State} (same : t.rm = s.rm) {c : Chan} (first : s.HeadIsFirst c) : t.HeadIsFirst c := by
  unfold State.HeadIsFirst State.head
  rw [same]
  exact first

section
variable {s : State} (tidy : s.Tidy) {c : Chan}
include tidy

theorem State.Tidy.headIsFirst_of_pickHead (free : ∀ q ∈ s.rm.pool, q.channel = c → q.state.isHead = false) :
    (s.pickHead c).HeadIsFirst c := by
  cases first : firstEligible s.rm.pool c with
  | none =>
    have gated := firstEligible_eq_none.1 first
    rw [State.pickHead_of_none first]
    refine ⟨fun q found => ?_, fun _ => ?_⟩
    · rw [first] at found
      cases found
    · refine List.find?_eq_none.2 fun q live => ?_
      rw [Bool.and_eq_true, beq_iff_eq]
      rintro ⟨here, head⟩
      rw [free q live here] at head
      cases head
  | some r =>
    obtain ⟨live, here, notGated⟩ := of_firstEligible first
    have first' : firstEligible (s.setRunState r.handle .asking).rm.pool c = some { r with state := .asking } := by
      refine (firstEligible_updateRun r.handle (fun q hq same => ?_) c).trans ?_
      · obtain rfl := tidy.only hq live same
        exact ⟨rfl, rfl, iff_of_false nofun notGated⟩
      · rw [first]
        simp
    have chain : Stirs ⟨fun _ => False, fun _ => False, fun _ => False, fun _ => True⟩ s (s.pickHead c) :=
      Stirs.pickHead trivial free
    have mem : ({ r with state := .asking } : Run) ∈ (s.pickHead c).rm.pool := by
      rw [State.pickHead_of_some first]
      exact (tidy.mem_modRun live).2 (.inl rfl)
    have head := (chain.tidy tidy).head_eq mem rfl
    rw [State.pickHead_of_some first] at head ⊢
    subst here
    unfold State.HeadIsFirst
    rw [first']
    exact ⟨fun q found => by obtain rfl := Option.some.inj found; exact ⟨rfl, head⟩, nofun⟩

/-- R44: after head selection on a channel whose head may change, the first eligible run is its head, ASKING. -/
theorem State.Tidy.headIsFirst_of_headSelect (asks : s.Asks c) : (s.headSelect c).HeadIsFirst c := by
  cases head : s.head c with
  | none =>
    rw [State.headSelect_of_free head]
    exact tidy.headIsFirst_of_pickHead (State.no_head_of_none head)
  | some a =>
    obtain ⟨live, here, isHead⟩ := State.mem_of_head head
    have asking := asks a live here isHead
    cases first : firstEligible s.rm.pool c with
    | none =>
      have gated := firstEligible_eq_none.1 first a live here
      rw [asking] at gated
      cases gated
    | some r =>
      obtain ⟨liveR, hereR, notGated⟩ := of_firstEligible first
      by_cases same : r.handle = a.handle
      · obtain rfl := tidy.only liveR live same
        rw [State.headSelect_of_same first head]
        refine ⟨fun q found => ?_, fun none => ?_⟩
        · rw [first] at found
          obtain rfl := Option.some.inj found
          exact ⟨asking, head⟩
        · rw [first] at none
          cases none
      · have turned : Stir ⟨fun _ => False, fun _ => False, fun _ => False, fun _ => True⟩ s (s.setRunState a.handle .queued) :=
          Stir.turnRun (f := fun q => { q with state := .queued }) live trivial (.unask a asking)
        have free := tidy.free_of_queued live isHead
        have first' : firstEligible (s.setRunState a.handle .queued).rm.pool c = some r := by
          refine (firstEligible_updateRun a.handle (fun q hq same => ?_) c).trans ?_
          · obtain rfl := tidy.only hq live same
            exact ⟨rfl, rfl, iff_of_false nofun (by rw [asking]; nofun)⟩
          · rw [first]
            simp [same]
        rw [State.headSelect_of_asking first head same asking, ← State.pickHead_of_some first']
        exact (turned.tidy tidy).headIsFirst_of_pickHead (here ▸ free)

end

/-! ### Runs that wait -/

section
variable {p : Scope} {s t : State}

theorem Turnover.asks {a b : Run} {ch : Channel} (change : Turnover p s a b ch) (shut : ¬ p.opens a.channel)
    (asks : a.state.isHead = true → a.state = .asking) (head : b.state.isHead = true) : b.state = .asking := by
  cases change with
  | ask free waits => rfl
  | unask asks => cases head
  | preempt flows => rw [flows] at asks; cases asks rfl
  | close q flows => rw [flows] at asks; cases asks rfl
  | preemptShut flows shuts => cases head
  | closeShut flows shuts => cases head
  | result e may none => exact asks head
  | ending q may closes => rw [closes] at asks; cases asks rfl
  | opens may can asking => exact absurd may shut

theorem Stir.asks (step : Stir p s t) (tidy : s.Tidy) {c : Chan} (shut : ¬ p.opens c) (asks : s.Asks c) : t.Asks c := by
  cases step with
  | claim d k here =>
    unfold State.Asks
    rw [s.queueClaim_rm d k]
    exact asks
  | turn r f ch live here change =>
    intro q hq there head
    rcases (tidy.mem_modRun live).1 hq with rfl | ⟨old, -⟩
    · rw [change.channel] at there
      subst there
      exact change.asks shut (asks r live rfl) head
    · exact asks q old there head
  | remove r b live here may waits => exact fun q hq => asks q (tidy.mem_removeRun.1 hq).1
  | finish r b live here may flows shuts => exact fun q hq => asks q (tidy.mem_finished.1 hq).1
  | pass g gated =>
    intro q hq there head
    obtain ⟨r, hr, rfl⟩ := List.mem_map.1 hq
    by_cases passes : g r = true
    · rw [if_pos passes] at head
      cases head
    · rw [if_neg passes] at there head ⊢
      exact asks r hr there head

theorem Stirs.asks (chain : Stirs p s t) (tidy : s.Tidy) {c : Chan} (shut : ¬ p.opens c) (asks : s.Asks c) : t.Asks c :=
  (chain.keep (P := fun u => u.Tidy ∧ u.Asks c)
    (fun _ _ step kept => ⟨step.tidy kept.1, step.asks kept.1 shut kept.2⟩) ⟨tidy, asks⟩).2

theorem Turnover.of_gated {a b : Run} {ch : Channel} (change : Turnover p s a b ch) (gated : a.state = .gated) :
    p.ends a.handle := by
  cases change with
  | ask free waits => rw [gated] at waits; cases waits
  | unask asks => rw [gated] at asks; cases asks
  | preempt flows => rw [gated] at flows; cases flows
  | close q flows => rw [gated] at flows; cases flows
  | preemptShut flows shuts => rw [gated] at flows; cases flows
  | closeShut flows shuts => rw [gated] at flows; cases flows
  | result e may none => exact may
  | ending q may closes => exact may
  | opens may can asks => rw [gated] at asks; cases asks

/-- A GATED run that is given no end and does not pass its gate keeps its place. -/
theorem Stir.gated (step : Stir p s t) (tidy : s.Tidy) {q : Run} (kept : ¬ p.ends q.handle) (waits : ¬ p.passes q.handle)
    (live : q ∈ s.rm.pool) (gated : q.state = .gated) : q ∈ t.rm.pool := by
  cases step with
  | claim d k here => rw [s.queueClaim_rm d k]; exact live
  | turn r f ch liveR here change =>
    refine (tidy.mem_modRun liveR).2 (.inr ⟨live, fun same => ?_⟩)
    obtain rfl := tidy.only live liveR same
    exact kept (change.of_gated gated)
  | remove r b liveR here may waits' =>
    refine tidy.mem_removeRun.2 ⟨live, fun same => ?_⟩
    obtain rfl := tidy.only live liveR same
    exact kept may
  | finish r b liveR here may flows shuts =>
    refine tidy.mem_finished.2 ⟨live, fun same => ?_⟩
    obtain rfl := tidy.only live liveR same
    exact kept may
  | pass g all => exact List.mem_map.2 ⟨q, live, if_neg fun passes => waits (all q live passes).2.1⟩

theorem Stirs.gated (chain : Stirs p s t) (tidy : s.Tidy) {q : Run} (kept : ¬ p.ends q.handle) (waits : ¬ p.passes q.handle)
    (live : q ∈ s.rm.pool) (gated : q.state = .gated) : q ∈ t.rm.pool :=
  (chain.keep (P := fun u => u.Tidy ∧ q ∈ u.rm.pool)
    (fun _ _ step both => ⟨step.tidy both.1, step.gated both.1 kept waits both.2 gated⟩) ⟨tidy, live⟩).2

/-- A run that has passed its gate and is not yet served. -/
def State.Passed (s : State) (h : Nat) : Prop :=
  ∃ x ∈ s.rm.pool, x.handle = h ∧ x.gateSatisfied = true ∧ (x.state = .queued ∨ x.state = .asking)

theorem Turnover.of_waiting {a b : Run} {ch : Channel} (change : Turnover p s a b ch)
    (waits : a.state = .queued ∨ a.state = .asking) : p.ends a.handle ∨ p.opens a.channel ∨
      b.gateSatisfied = a.gateSatisfied ∧ (b.state = .queued ∨ b.state = .asking) := by
  cases change with
  | ask free was => exact .inr (.inr ⟨rfl, .inr rfl⟩)
  | unask asks => exact .inr (.inr ⟨rfl, .inl rfl⟩)
  | preempt flows => rw [flows] at waits; rcases waits with e | e <;> cases e
  | close q flows => rw [flows] at waits; rcases waits with e | e <;> cases e
  | preemptShut flows shuts => rw [flows] at waits; rcases waits with e | e <;> cases e
  | closeShut flows shuts => rw [flows] at waits; rcases waits with e | e <;> cases e
  | result e may none => exact .inl may
  | ending q may closes => exact .inl may
  | opens may can asks => exact .inr (.inl may)

theorem Stir.passed (step : Stir p s t) (tidy : s.Tidy) {h : Nat} (kept : ¬ p.ends h) (shut : ∀ c, ¬ p.opens c)
    (passed : s.Passed h) : t.Passed h := by
  obtain ⟨x, live, rfl, satisfied, waits⟩ := passed
  cases step with
  | claim d k here =>
    unfold State.Passed
    rw [s.queueClaim_rm d k]
    exact ⟨x, live, rfl, satisfied, waits⟩
  | turn r f ch liveR here change =>
    by_cases same : x.handle = r.handle
    · obtain rfl := tidy.only live liveR same
      rcases change.of_waiting waits with ends | opens | ⟨stays, waits⟩
      · exact absurd ends kept
      · exact absurd opens (shut _)
      · exact ⟨f x, (tidy.mem_modRun live).2 (.inl rfl), change.handle, stays.trans satisfied, waits⟩
    · exact ⟨x, (tidy.mem_modRun liveR).2 (.inr ⟨live, same⟩), rfl, satisfied, waits⟩
  | remove r b liveR here may waits' =>
    refine ⟨x, tidy.mem_removeRun.2 ⟨live, fun same => ?_⟩, rfl, satisfied, waits⟩
    obtain rfl := tidy.only live liveR same
    exact kept may
  | finish r b liveR here may flows shuts =>
    refine ⟨x, tidy.mem_finished.2 ⟨live, fun same => ?_⟩, rfl, satisfied, waits⟩
    obtain rfl := tidy.only live liveR same
    exact kept may
  | pass g all =>
    refine ⟨x, List.mem_map.2 ⟨x, live, if_neg fun passes => ?_⟩, rfl, satisfied, waits⟩
    rw [(all x live passes).1] at waits
    rcases waits with e | e <;> cases e

theorem Stirs.passed (chain : Stirs p s t) (tidy : s.Tidy) {h : Nat} (kept : ¬ p.ends h) (shut : ∀ c, ¬ p.opens c)
    (passed : s.Passed h) : t.Passed h :=
  (chain.keep (P := fun u => u.Tidy ∧ u.Passed h)
    (fun _ _ step both => ⟨step.tidy both.1, step.passed both.1 kept shut both.2⟩) ⟨tidy, passed⟩).2

end

theorem handle_of_ident {a b : Run} (same : a.ident = b.ident) : a.handle = b.handle := by
  have e := congrArg Run.handle same
  exact e

theorem channel_of_ident {a b : Run} (same : a.ident = b.ident) : a.channel = b.channel := by
  have e := congrArg Run.channel same
  exact e

/-! ### Departures (R61) -/

/-- The scope of head selection: no run ends, none passes its gate, no valve opens. -/
def Scope.selection : Scope := ⟨fun _ => False, fun _ => False, fun _ => False, fun _ => True⟩

/-- R61 step 3: the state in which the waiting runs have passed their gates. -/
def State.parted (s : State) (r : Run) (b : Bool) : State :=
  (s.removeRun r b).setPool ((s.removeRun r b).rm.pool.map fun q => if waitsOn r.handle q then passGate q else q)

theorem State.parted_step (s : State) (r : Run) (b : Bool) :
    Stir ⟨fun _ => False, fun _ => False, fun _ => True, fun _ => True⟩ (s.removeRun r b) (s.parted r b) :=
  Stir.pass _ _ fun _ _ waits => ⟨gated_of_waitsOn waits, trivial, trivial⟩

section
variable {s : State} (tidy : s.Tidy) {r : Run} (live : r ∈ s.rm.pool) (b : Bool)
include tidy

theorem State.Tidy.parted (r : Run) (b : Bool) : (s.parted r b).Tidy := (s.parted_step r b).tidy (tidy.removeRun r b)

theorem State.Tidy.parted_asks (live : r ∈ s.rm.pool) (head : r.state.isHead = true) : (s.parted r b).Asks r.channel := by
  refine (s.parted_step r b).asks (tidy.removeRun r b) id fun q hq there isHead => ?_
  obtain ⟨old, other⟩ := tidy.mem_removeRun.1 hq
  rw [tidy.alone live head q old other there] at isHead
  cases isHead

/-- R61: a departure is a removal, the waiting runs, and head selections. -/
theorem State.Tidy.depart_chain (live : r ∈ s.rm.pool) : ∃ u, Stirs Scope.selection (s.parted r b) u ∧
    (s.depart r.handle b).rm = (u.headSelect r.channel).rm ∧ u.Tidy := by
  have selected : Stirs Scope.selection (s.parted r b) ((s.removeRun r b).releaseWaiting r.handle) :=
    Stirs.headSelectAll (tidy.parted r b) fun _ _ => trivial
  refine ⟨_, selected, ?_, selected.tidy (tidy.parted r b)⟩
  unfold State.depart
  rw [tidy.find_eq live]
  dsimp only
  split
  · exact rm_of_mute (State.queueDeparture_mute _ _)
  · rfl

theorem State.Tidy.depart_stirs (live : r ∈ s.rm.pool) : ∃ u, Stirs Scope.selection (s.parted r b) u ∧
    (s.depart r.handle b).rm = u.rm := by
  obtain ⟨u, chain, rm, neat⟩ := tidy.depart_chain b live
  exact ⟨_, chain.trans (Stirs.headSelect neat trivial), rm⟩

theorem State.Tidy.depart_headIsFirst (live : r ∈ s.rm.pool) (head : r.state.isHead = true) :
    (s.depart r.handle b).HeadIsFirst r.channel := by
  obtain ⟨u, chain, rm, neat⟩ := tidy.depart_chain b live
  have asks := chain.asks (tidy.parted r b) id (tidy.parted_asks b live head)
  exact headIsFirst_of_rm rm (neat.headIsFirst_of_headSelect asks)

/-- No step brings a run that was not there, or changes what a run was submitted with. -/
theorem Stir.idents {p : Scope} {t : State} (step : Stir p s t) : ∀ q ∈ t.rm.pool, ∃ x ∈ s.rm.pool, x.ident = q.ident := by
  cases step with
  | claim d k here => rw [s.queueClaim_rm d k]; exact fun q hq => ⟨q, hq, rfl⟩
  | turn r f ch liveR here change =>
    intro q hq
    rcases (tidy.mem_modRun liveR).1 hq with rfl | ⟨old, -⟩
    · exact ⟨r, liveR, change.ident.symm⟩
    · exact ⟨q, old, rfl⟩
  | remove r b liveR here may waits => exact fun q hq => ⟨q, (tidy.mem_removeRun.1 hq).1, rfl⟩
  | finish r b liveR here may flows shuts => exact fun q hq => ⟨q, (tidy.mem_finished.1 hq).1, rfl⟩
  | pass g all =>
    intro q hq
    obtain ⟨x, hx, rfl⟩ := List.mem_map.1 hq
    refine ⟨x, hx, ?_⟩
    split <;> rfl

theorem Stirs.idents {p : Scope} {t : State} (chain : Stirs p s t) :
    ∀ q ∈ t.rm.pool, ∃ x ∈ s.rm.pool, x.ident = q.ident := by
  refine (chain.keep (P := fun u => u.Tidy ∧ ∀ q ∈ u.rm.pool, ∃ x ∈ s.rm.pool, x.ident = q.ident) (fun u v step kept => ?_)
    ⟨tidy, fun q hq => ⟨q, hq, rfl⟩⟩).2
  refine ⟨step.tidy kept.1, fun q hq => ?_⟩
  obtain ⟨x, hx, same⟩ := step.idents kept.1 q hq
  obtain ⟨y, hy, old⟩ := kept.2 x hx
  exact ⟨y, hy, old.trans same⟩

theorem State.Tidy.depart_gone (live : r ∈ s.rm.pool) : ∀ q ∈ (s.depart r.handle b).rm.pool, q.handle ≠ r.handle := by
  obtain ⟨u, chain, rm⟩ := tidy.depart_stirs b live
  rw [rm]
  intro q hq same
  obtain ⟨x, hx, old⟩ := chain.idents (tidy.parted r b) q hq
  obtain ⟨y, hy, older⟩ := (s.parted_step r b).idents (tidy.removeRun r b) x hx
  exact (tidy.mem_removeRun.1 hy).2 ((handle_of_ident (older.trans old)).trans same)

theorem State.Tidy.depart_passes (live : r ∈ s.rm.pool) {q : Run} (other : q ∈ s.rm.pool) (apart : q.handle ≠ r.handle)
    (gated : q.state = .gated) (gate : q.gate = some (.after r.handle)) : (s.depart r.handle b).Passed q.handle := by
  obtain ⟨u, chain, rm⟩ := tidy.depart_stirs b live
  have passed : (s.parted r b).Passed q.handle := by
    have waits : waitsOn r.handle q = true := by unfold waitsOn; rw [gated, gate]; simp
    exact ⟨passGate q, List.mem_map.2 ⟨q, tidy.mem_removeRun.2 ⟨other, apart⟩, if_pos waits⟩, rfl, rfl, .inl rfl⟩
  unfold State.Passed
  rw [rm]
  exact chain.passed (tidy.parted r b) id (fun _ => id) passed

theorem State.Tidy.depart_gated (live : r ∈ s.rm.pool) {q : Run} (other : q ∈ s.rm.pool) (apart : q.handle ≠ r.handle)
    (gated : q.state = .gated) (gate : q.gate ≠ some (.after r.handle)) : q ∈ (s.depart r.handle b).rm.pool := by
  obtain ⟨u, chain, rm⟩ := tidy.depart_stirs b live
  have waits : ¬ waitsOn r.handle q = true := by unfold waitsOn; rw [gated]; simpa using gate
  have kept : q ∈ (s.parted r b).rm.pool :=
    List.mem_map.2 ⟨q, tidy.mem_removeRun.2 ⟨other, apart⟩, if_neg waits⟩
  rw [rm]
  exact chain.gated (tidy.parted r b) id id kept gated

end

end Sys2Proof.Machine
end

section
namespace Sys2Proof
open Sys2Proof.Machine

/-- Settles O16: the cases of head selection one by one, and a departure as a removal, the runs that waited on it, and head
selections that leave GATED runs alone. -/
theorem headSelectionByTable : Obligations.HeadSelectionByTable := by
  unfold Obligations.HeadSelectionByTable
  intro s c runs one
  have tidy := State.tidy_of_sound runs one
  have pool : s.rm.pool.Nodup := tidy.handles.of_map
  refine ⟨fun r => ⟨fun head => ?_, ?_⟩, firstEligible_eq_none, fun r first => ?_, State.headSelect_of_none,
    fun r first free => ?_, fun r a first head => ?_, fun r b now e result => ?_, fun r b live => ⟨?_, tidy.depart_gone b live,
    tidy.depart_headIsFirst b live, fun q other apart gated => ⟨fun gate => ?_, tidy.depart_gated b live other apart gated⟩⟩⟩
  · obtain ⟨live, here, isHead⟩ := State.mem_of_head head
    refine ⟨live, here, ?_⟩
    cases state : r.state with
    | gated => rw [state] at isHead; cases isHead
    | queued => rw [state] at isHead; cases isHead
    | asking => exact .inl rfl
    | flowing => exact .inr (.inl rfl)
    | closing q => exact .inr (.inr ⟨q, rfl⟩)
  · rintro ⟨live, rfl, state⟩
    refine tidy.head_eq live ?_
    rcases state with asks | flows | ⟨q, closes⟩
    · rw [asks]; rfl
    · rw [flows]; rfl
    · rw [closes]; rfl
  · obtain ⟨live, here, eligible⟩ := of_firstEligible first
    exact ⟨live, here, eligible, fun q hq there able => firstEligible_before pool first hq there able⟩
  · rw [State.headSelect_of_free free, State.pickHead_of_some first]
    show s.setPool (updateRun _ _ _) = _
    rw [updateRun_eq]
    rfl
  · obtain ⟨live, here, isHead⟩ := State.mem_of_head head
    obtain ⟨liveR, hereR, eligible⟩ := of_firstEligible first
    have handles : r ≠ a → r.handle ≠ a.handle := fun other same => other (tidy.only liveR live same)
    refine ⟨fun same => State.headSelect_of_same first (same ▸ head), State.headSelect_of_closing head, fun other asks => ?_,
      fun other flows drives slow => ?_, fun other flows drives confirmed => ?_⟩
    · rw [State.headSelect_of_asking first head (handles other) asks, State.setRunState_setRunState s (handles other)]
      rfl
    · rw [State.headSelect_of_flowing first head (handles other) flows, State.preempt_of_slow drives slow]
      show (s.setPool (updateRun _ _ _)).setChan c _ = _
      rw [updateRun_eq]
      rfl
    · rw [State.headSelect_of_flowing first head (handles other) flows, State.preempt_of_confirmed drives confirmed]
      obtain ⟨valve, asks, queued⟩ := tidy.requeue_of_preempted head flows first (handles other)
      exact ⟨valve, asks, queued⟩
  · unfold completionRecord
    rw [result]
    rfl
  · exact congrArg (fun roll : List Nat × LogUnit => roll.2.records) (s.depart_roll r.handle b r (tidy.find_eq live))
  · obtain ⟨x, hx, handle, satisfied, state⟩ := tidy.depart_passes b live other apart gated gate
    refine ⟨x, hx, handle, satisfied, ?_⟩
    rcases state with e | e <;> rw [e] <;> nofun

end Sys2Proof
end

section
/-!
SUPPORT. An evaluation (R101–R105): what a gate or a stop flag asks, the stop watch run by run, the gate test, and the rest of an
applied frame.
-/

namespace Sys2Proof.Machine

variable {p : Scope} {s t : State}

/-! ### Gates and stop flags -/

theorem findRun_isNone {pool : List Run} {h : Nat} : (findRun pool h).isNone = true ↔ ∀ r ∈ pool, r.handle ≠ h := by
  unfold findRun
  simp

theorem State.gateHolds_gauge (s : State) (a : Addr) (cmp : Comparison) (v : Gauge) :
    s.gateHolds (.gauge a cmp v) = true ↔ ∃ m ∈ s.member a, ∃ g ∈ m.gauge, cmp.holds g v = true := by
  show ((s.member a).any fun m => m.gauge.any fun x => cmp.holds x v) = true ↔ _
  simp only [Option.any_eq_true, Option.mem_def]

/-- What gates and stop flags are tested against, runs aside. -/
structure Sights (s t : State) : Prop where
  flags : t.ct.flags = s.ct.flags
  gauges : ∀ a, (t.member a).map Member.gauge = (s.member a).map Member.gauge

theorem Sights.refl (s : State) : Sights s s := ⟨rfl, fun _ => rfl⟩

theorem Sights.trans {u : State} (h : Sights s t) (k : Sights t u) : Sights s u :=
  ⟨k.flags.trans h.flags, fun a => (k.gauges a).trans (h.gauges a)⟩

theorem Sights.symm (h : Sights s t) : Sights t s := ⟨h.flags.symm, fun a => (h.gauges a).symm⟩

theorem sights_of_parts (ct : t.ct = s.ct) (mu : t.mu = s.mu) : Sights s t :=
  ⟨by rw [ct], fun a => by unfold State.member; rw [mu]⟩

theorem Sights.flag (h : Sights s t) (n : Fin 16) : t.flag n = s.flag n := by
  unfold State.flag
  rw [h.flags]

theorem Sights.stopSet (h : Sights s t) (flag : Option (Fin 16)) : t.stopSet flag = s.stopSet flag := by
  unfold State.stopSet
  rw [funext h.flag]

theorem Sights.gauge (h : Sights s t) (a : Addr) (test : Gauge → Bool) :
    ((t.member a).any fun m => m.gauge.any test) = (s.member a).any fun m => m.gauge.any test := by
  have split : ∀ x : Option Member, (x.any fun m => m.gauge.any test) = (x.map Member.gauge).any fun g => g.any test := by
    intro x
    cases x <;> rfl
  rw [split, split, h.gauges a]

/-- A gate that is satisfied stays so while no run comes to be live. -/
theorem Sights.gateOpen (h : Sights s t) (handles : ∀ q ∈ t.rm.pool, ∃ x ∈ s.rm.pool, x.handle = q.handle) {g : Option Gate}
    (holds : s.gateOpen g = true) : t.gateOpen g = true := by
  cases g with
  | none => rfl
  | some g =>
    change s.gateHolds g = true at holds
    show t.gateHolds g = true
    cases g with
    | flagSet n => exact (h.flag n).trans holds
    | flagClear n => exact (congrArg Bool.not (h.flag n)).trans holds
    | gauge a cmp v => exact (h.gauge a _).trans holds
    | after k =>
      refine findRun_isNone.2 fun q hq same => ?_
      obtain ⟨x, hx, own⟩ := handles q hq
      exact findRun_isNone.1 holds x hx (own.trans same)

theorem Stirs.sights (chain : Stirs p s t) : Sights s t := sights_of_parts (ct_of_bare chain.bare) (mu_of_bare chain.bare)

/-! ### Runs that stay live -/

/-- No step removes a run that is given no end. -/
theorem Stir.stands (step : Stir p s t) (tidy : s.Tidy) {q : Run} (kept : ¬ p.ends q.handle) (live : q ∈ s.rm.pool) :
    ∃ x ∈ t.rm.pool, x.ident = q.ident := by
  cases step with
  | claim d k here => exact ⟨q, by rw [s.queueClaim_rm d k]; exact live, rfl⟩
  | turn r f ch liveR here change =>
    by_cases same : q.handle = r.handle
    · obtain rfl := tidy.only live liveR same
      exact ⟨f q, (tidy.mem_modRun live).2 (.inl rfl), change.ident⟩
    · exact ⟨q, (tidy.mem_modRun liveR).2 (.inr ⟨live, same⟩), rfl⟩
  | remove r b liveR here may waits =>
    refine ⟨q, tidy.mem_removeRun.2 ⟨live, fun same => ?_⟩, rfl⟩
    obtain rfl := tidy.only live liveR same
    exact kept may
  | finish r b liveR here may flows shuts =>
    refine ⟨q, tidy.mem_finished.2 ⟨live, fun same => ?_⟩, rfl⟩
    obtain rfl := tidy.only live liveR same
    exact kept may
  | pass g gated =>
    refine ⟨_, List.mem_map.2 ⟨q, live, rfl⟩, ?_⟩
    split <;> rfl

/-- A GATED run that is given no end keeps its place or passes its gate. -/
theorem Stir.gated_or_passed (step : Stir p s t) (tidy : s.Tidy) {q : Run} (kept : ¬ p.ends q.handle) (live : q ∈ s.rm.pool)
    (gated : q.state = .gated) : q ∈ t.rm.pool ∨ t.Passed q.handle := by
  cases step with
  | claim d k here => exact .inl (by rw [s.queueClaim_rm d k]; exact live)
  | turn r f ch liveR here change =>
    refine .inl ((tidy.mem_modRun liveR).2 (.inr ⟨live, fun same => ?_⟩))
    obtain rfl := tidy.only live liveR same
    exact kept (change.of_gated gated)
  | remove r b liveR here may waits =>
    refine .inl (tidy.mem_removeRun.2 ⟨live, fun same => ?_⟩)
    obtain rfl := tidy.only live liveR same
    exact kept may
  | finish r b liveR here may flows shuts =>
    refine .inl (tidy.mem_finished.2 ⟨live, fun same => ?_⟩)
    obtain rfl := tidy.only live liveR same
    exact kept may
  | pass g all =>
    by_cases passes : g q = true
    · exact .inr ⟨passGate q, List.mem_map.2 ⟨q, live, if_pos passes⟩, rfl, rfl, .inl rfl⟩
    · exact .inl (List.mem_map.2 ⟨q, live, if_neg passes⟩)

theorem Stirs.stands (chain : Stirs p s t) (tidy : s.Tidy) {q : Run} (kept : ¬ p.ends q.handle) (live : q ∈ s.rm.pool) :
    ∃ x ∈ t.rm.pool, x.ident = q.ident := by
  refine (chain.keep (P := fun u => u.Tidy ∧ ∃ x ∈ u.rm.pool, x.ident = q.ident) (fun u v step both => ?_)
    ⟨tidy, q, live, rfl⟩).2
  obtain ⟨neat, x, hx, same⟩ := both
  obtain ⟨y, hy, own⟩ := step.stands neat (by rw [handle_of_ident same]; exact kept) hx
  exact ⟨step.tidy neat, y, hy, own.trans same⟩

/-- Every live run that holds a handle has its result. -/
def State.Ended (s : State) (h : Nat) : Prop := ∀ q ∈ s.rm.pool, q.handle = h → q.endResult.isSome = true

theorem Turnover.endResult {a b : Run} {ch : Channel} (change : Turnover p s a b ch) (ended : a.endResult.isSome = true) :
    b.endResult.isSome = true := by
  cases change with
  | result e may none => rfl
  | _ => exact ended

theorem Stir.ended (step : Stir p s t) (tidy : s.Tidy) {h : Nat} (ended : s.Ended h) : t.Ended h := by
  cases step with
  | claim d k here =>
    unfold State.Ended
    rw [s.queueClaim_rm d k]
    exact ended
  | turn r f ch live here change =>
    intro q hq same
    rcases (tidy.mem_modRun live).1 hq with rfl | ⟨old, -⟩
    · exact change.endResult (ended r live (change.handle.symm.trans same))
    · exact ended q old same
  | remove r b live here may waits => exact fun q hq => ended q (tidy.mem_removeRun.1 hq).1
  | finish r b live here may flows shuts => exact fun q hq => ended q (tidy.mem_finished.1 hq).1
  | pass g gated =>
    intro q hq same
    obtain ⟨r, hr, rfl⟩ := List.mem_map.1 hq
    split at same
    · next passes => rw [if_pos passes]; exact ended r hr same
    · next stays => rw [if_neg stays]; exact ended r hr same

theorem Stirs.ended_of (chain : Stirs p s t) (tidy : s.Tidy) {h : Nat} (ended : s.Ended h) : t.Ended h :=
  (chain.keep (P := fun u => u.Tidy ∧ u.Ended h)
    (fun _ _ step both => ⟨step.tidy both.1, step.ended both.1 both.2⟩) ⟨tidy, ended⟩).2

/-! ### Ends -/

/-- The scope in which runs of `ends` are ended and no valve opens. -/
def Scope.ending (ends : Nat → Prop) : Scope := ⟨ends, fun _ => False, fun _ => True, fun _ => True⟩

theorem Scope.ending_wide (ends : Nat → Prop) : (Scope.ending ends).Wide := ⟨fun _ => trivial, fun _ => trivial⟩

section
variable (tidy : s.Tidy)
include tidy

theorem State.Tidy.ended_endRun (h : Nat) (e : EndResult) : (s.endRun h e).Ended h := by
  cases found : findRun s.rm.pool h with
  | none =>
    rw [State.endRun_of_gone found]
    intro q hq same
    exact absurd same (findRun_isNone.1 (by rw [found]; rfl) q hq)
  | some r =>
    obtain ⟨live, rfl⟩ := State.mem_of_findRun found
    cases result : r.endResult with
    | some x =>
      rw [State.endRun_of_ended found (by rw [result]; rfl)]
      intro q hq same
      rw [tidy.only hq live same, result]
      rfl
    | none =>
      have given : Stir (Scope.ending fun _ => True) s (s.modRun r.handle fun q => { q with endResult := some e }) :=
        Stir.turnRun (f := fun q => { q with endResult := some e }) live trivial (.result r e trivial result)
      refine (Stirs.ended (Scope.ending_wide fun _ => True) tidy live trivial result e).ended_of (given.tidy tidy) ?_
      intro q hq same
      rcases (tidy.mem_modRun live).1 hq with rfl | ⟨-, other⟩
      · rfl
      · exact absurd same other

end

/-! ### The stop watch (R104 stage 1) -/

theorem mem_stopping {h : Nat} :
    h ∈ s.stopping ↔ ∃ r ∈ s.rm.pool, r.handle = h ∧ s.stopSet r.stopFlag = true ∧ r.endResult = none := by
  unfold State.stopping
  simp only [List.mem_reverse, List.mem_map, List.mem_filter, Bool.and_eq_true, Option.isNone_iff_eq_none]
  exact ⟨fun ⟨r, ⟨live, stop, open'⟩, same⟩ => ⟨r, live, same, stop, open'⟩,
    fun ⟨r, live, same, stop, open'⟩ => ⟨r, ⟨live, stop, open'⟩, same⟩⟩

theorem State.Tidy.stopping_nodup (tidy : s.Tidy) : s.stopping.Nodup :=
  List.nodup_reverse.2 (tidy.handles.sublist (List.filter_sublist.map _))

theorem Stirs.endRuns (tidy : s.Tidy) {hs : List Nat} {ends : Nat → Prop} (may : ∀ h ∈ hs, ends h) :
    Stirs (Scope.ending ends) s (hs.foldl (fun u h => u.endRun h .stopped) s) :=
  Stirs.fold _ hs (fun _ h member tidy => Stirs.endRun (Scope.ending_wide ends) tidy (may h member) .stopped) tidy

/-- The stop watch reaches a run in a state in which that run has been given no end, and goes on from there. -/
theorem State.Tidy.stopWatch_at (tidy : s.Tidy) {h : Nat} (member : h ∈ s.stopping) : ∃ u,
    Stirs (Scope.ending (· ≠ h)) s u ∧ Stirs (Scope.ending fun _ => True) (u.endRun h .stopped) s.stopWatch := by
  obtain ⟨front, rest, cut⟩ := List.append_of_mem member
  have apart : ∀ k ∈ front, k ≠ h := by
    have nodup := tidy.stopping_nodup
    rw [cut] at nodup
    intro k hk same
    exact (List.nodup_append.1 nodup).2.2 k hk h List.mem_cons_self same
  have before := Stirs.endRuns tidy apart
  refine ⟨_, before, ?_⟩
  have neat := (Stirs.endRun (p := Scope.ending fun _ => True) (Scope.ending_wide _) (before.tidy tidy) (h := h) trivial
    .stopped).tidy (before.tidy tidy)
  have after := Stirs.endRuns (ends := fun _ => True) neat (hs := rest) fun _ _ => trivial
  unfold State.stopWatch
  rw [cut, List.foldl_append]
  exact after

theorem State.Tidy.stopWatch_chain (tidy : s.Tidy) {ends : Nat → Prop} (may : ∀ h ∈ s.stopping, ends h) :
    Stirs (Scope.ending ends) s s.stopWatch := Stirs.endRuns tidy may

theorem State.Tidy.gateTest_chain (tidy : s.Tidy) {ends : Nat → Prop} : Stirs (Scope.ending ends) s s.gateTest :=
  Stirs.gateTest (Scope.ending_wide ends) tidy

/-- What the stop watch leaves of the run it stops, the evaluation leaves. -/
theorem State.Tidy.evaluate_at (tidy : s.Tidy) {h : Nat} (member : h ∈ s.stopping) : ∃ u,
    Stirs (Scope.ending (· ≠ h)) s u ∧ Stirs (Scope.ending fun _ => True) (u.endRun h .stopped) s.evaluate := by
  obtain ⟨u, before, after⟩ := tidy.stopWatch_at member
  have neat := (tidy.stopWatch_chain (ends := fun _ => True) fun _ _ => trivial).tidy tidy
  exact ⟨u, before, after.trans neat.gateTest_chain⟩

theorem State.Tidy.evaluate_chain (tidy : s.Tidy) {ends : Nat → Prop} (may : ∀ h ∈ s.stopping, ends h) :
    Stirs (Scope.ending ends) s s.evaluate :=
  Stirs.evaluate (Scope.ending_wide ends) tidy may

/-! ### What an evaluation leaves -/

section
variable (tidy : s.Tidy)
include tidy

/-- R108: after an evaluation every run whose stop flag is set has its result. -/
theorem State.Tidy.evaluate_stopped : ∀ r ∈ s.evaluate.rm.pool, s.evaluate.stopSet r.stopFlag = true → r.endResult.isSome = true := by
  intro r live stop
  have chain := tidy.evaluate_chain (ends := fun _ => True) fun _ _ => trivial
  obtain ⟨x, hx, same⟩ := chain.idents tidy r live
  have flag : x.stopFlag = r.stopFlag := by have e := congrArg Run.stopFlag same; exact e
  rw [chain.sights.stopSet, ← flag] at stop
  have ended : s.evaluate.Ended x.handle := by
    cases result : x.endResult with
    | some e =>
      refine chain.ended_of tidy fun q hq own => ?_
      rw [tidy.only hq hx own, result]
      rfl
    | none =>
      have member : x.handle ∈ s.stopping := mem_stopping.2 ⟨x, hx, rfl, stop, result⟩
      obtain ⟨u, before, after⟩ := tidy.evaluate_at member
      have neat := before.tidy tidy
      exact after.ended_of ((Stirs.endRun (p := Scope.ending fun _ => True) (Scope.ending_wide _) neat trivial .stopped).tidy neat)
        (neat.ended_endRun x.handle .stopped)
  exact ended r live (handle_of_ident same).symm

end

/-- R104 stage 2: the state in which the runs whose gate is satisfied have passed it. -/
def State.passed (s : State) : State := s.setPool (s.rm.pool.map fun r => if s.passes r then passGate r else r)

theorem State.passes_iff {r : Run} : s.passes r = true ↔ r.state = .gated ∧ s.gateOpen r.gate = true := by
  unfold State.passes
  rw [Bool.and_eq_true, beq_iff_eq]

theorem State.passed_step (s : State) : Stir (Scope.ending fun _ => False) s s.passed :=
  Stir.pass s s.passes fun _ _ passes => ⟨(State.passes_iff.1 passes).1, trivial, trivial⟩

theorem State.Tidy.passed_chain (tidy : s.Tidy) : Stirs Scope.selection s.passed s.gateTest :=
  Stirs.headSelectAll (s.passed_step.tidy tidy) fun _ _ => trivial

/-- No step makes a run GATED. -/
theorem Stir.gated_before (step : Stir p s t) (tidy : s.Tidy) {q : Run} (live : q ∈ t.rm.pool) (gated : q.state = .gated) :
    ∃ x ∈ s.rm.pool, x.state = .gated ∧ x.ident = q.ident := by
  cases step with
  | claim d k here => exact ⟨q, by rwa [s.queueClaim_rm d k] at live, gated, rfl⟩
  | turn r f ch liveR here change =>
    rcases (tidy.mem_modRun liveR).1 live with rfl | ⟨old, -⟩
    · refine ⟨r, liveR, ?_, change.ident.symm⟩
      generalize f r = b at change gated
      cases change with
      | result e may none => exact gated
      | _ => cases gated
    · exact ⟨q, old, gated, rfl⟩
  | remove r b liveR here may waits => exact ⟨q, (tidy.mem_removeRun.1 live).1, gated, rfl⟩
  | finish r b liveR here may flows shuts => exact ⟨q, (tidy.mem_finished.1 live).1, gated, rfl⟩
  | pass g all =>
    obtain ⟨r, hr, rfl⟩ := List.mem_map.1 live
    by_cases passes : g r = true
    · rw [if_pos passes] at gated
      cases gated
    · rw [if_neg passes] at gated ⊢
      exact ⟨r, hr, gated, rfl⟩

theorem Stirs.gated_before (chain : Stirs p s t) (tidy : s.Tidy) : ∀ q ∈ t.rm.pool, q.state = .gated →
    ∃ x ∈ s.rm.pool, x.state = .gated ∧ x.ident = q.ident := by
  refine (chain.keep (P := fun u => u.Tidy ∧ ∀ q ∈ u.rm.pool, q.state = .gated →
    ∃ x ∈ s.rm.pool, x.state = .gated ∧ x.ident = q.ident) (fun u v step both => ?_) ⟨tidy, fun q hq gated => ⟨q, hq, gated, rfl⟩⟩).2
  refine ⟨step.tidy both.1, fun q hq gated => ?_⟩
  obtain ⟨x, hx, waits, same⟩ := step.gated_before both.1 hq gated
  obtain ⟨y, hy, waited, own⟩ := both.2 x hx waits
  exact ⟨y, hy, waited, own.trans same⟩

section
variable (tidy : s.Tidy)
include tidy

theorem State.Tidy.gateTest_gated : ∀ r ∈ s.gateTest.rm.pool, r.state = .gated → s.gateTest.gateOpen r.gate = false := by
  intro r live gated
  have neat := s.passed_step.tidy tidy
  have chain := tidy.passed_chain
  obtain ⟨x, hx, waits, same⟩ := chain.gated_before neat r live gated
  obtain ⟨y, hy, shape⟩ := List.mem_map.1 hx
  by_cases passes : s.passes y = true
  · rw [if_pos passes] at shape
    rw [← shape] at waits
    cases waits
  · rw [if_neg passes] at shape
    subst shape
    have shut : s.gateOpen y.gate ≠ true := fun holds => passes (State.passes_iff.2 ⟨waits, holds⟩)
    have gate : r.gate = y.gate := by have e := congrArg Run.gate same; exact e.symm
    rw [gate]
    refine Bool.eq_false_iff.2 fun holds => shut ?_
    have whole : Stirs (Scope.ending fun _ => False) s s.gateTest := tidy.gateTest_chain
    refine whole.sights.symm.gateOpen (fun q hq => ?_) holds
    obtain ⟨z, hz, own⟩ := whole.stands tidy id hq
    exact ⟨z, hz, handle_of_ident own⟩

/-- R101, R104: after an evaluation no GATED run has a gate that is satisfied. -/
theorem State.Tidy.evaluate_gated : ∀ r ∈ s.evaluate.rm.pool, r.state = .gated → s.evaluate.gateOpen r.gate = false :=
  ((tidy.stopWatch_chain (ends := fun _ => True) fun _ _ => trivial).tidy tidy).gateTest_gated

/-- R104: a run whose gate is satisfied, and which is not stopped, passes it. -/
theorem State.Tidy.evaluate_passes {r : Run} (live : r ∈ s.rm.pool) (gated : r.state = .gated)
    (calm : s.stopSet r.stopFlag = false) (holds : s.gateOpen r.gate = true) : s.evaluate.Passed r.handle := by
  have kept : ¬ r.handle ∈ s.stopping := fun member => by
    obtain ⟨x, hx, same, stop, -⟩ := mem_stopping.1 member
    rw [tidy.only hx live same, calm] at stop
    cases stop
  have chain : Stirs (Scope.ending (· ∈ s.stopping)) s s.stopWatch := tidy.stopWatch_chain fun _ => id
  have neat := chain.tidy tidy
  have open' := chain.sights.gateOpen (fun q hq => (chain.idents tidy q hq).imp fun _ both => ⟨both.1, handle_of_ident both.2⟩) holds
  have either : r ∈ s.stopWatch.rm.pool ∨ s.stopWatch.Passed r.handle := by
    refine (chain.keep (P := fun u => u.Tidy ∧ (r ∈ u.rm.pool ∨ u.Passed r.handle)) (fun u v step both => ?_) ⟨tidy, .inl live⟩).2
    refine ⟨step.tidy both.1, ?_⟩
    rcases both.2 with stays | passed
    · exact step.gated_or_passed both.1 kept stays gated
    · exact .inr (step.passed both.1 kept (fun _ => id) passed)
  have through : s.stopWatch.passed.Passed r.handle := by
    rcases either with stays | passed
    · exact ⟨passGate r, List.mem_map.2 ⟨r, stays, if_pos (State.passes_iff.2 ⟨gated, open'⟩)⟩, rfl, rfl, .inl rfl⟩
    · exact s.stopWatch.passed_step.passed neat id (fun _ => id) passed
  exact neat.passed_chain.passed (s.stopWatch.passed_step.tidy neat) id (fun _ => id) through

end

end Sys2Proof.Machine
end

section
/-!
SUPPORT. A run that is stopped, by its state (R56, R104, R108): one that waits departs with its record, one that flows closes, one
that closes goes on closing for its end.
-/

namespace Sys2Proof.Machine

variable {p : Scope} {s t : State}

/-! ### An end by the state of the run (R56–R60) -/

/-- R56: the state in which a run has been given its result. -/
def State.resulted (s : State) (h : Nat) (e : EndResult) : State := s.modRun h fun q => { q with endResult := some e }

section
variable {h : Nat} {r : Run} (found : findRun s.rm.pool h = some r) (open' : r.endResult = none) (e : EndResult)
include found open'

theorem State.endRun_of_waiting (waits : r.state = .gated ∨ r.state = .queued ∨ r.state = .asking) :
    s.endRun h e = (s.resulted h e).depart h false := by
  unfold State.endRun
  rw [found]
  dsimp only
  rw [if_neg (by rw [open']; nofun)]
  rcases waits with state | state | state <;> rw [state] <;> rfl

theorem State.endRun_of_flowing (flows : r.state = .flowing) :
    s.endRun h e = (s.resulted h e).demandClose r.channel .ending := by
  unfold State.endRun
  rw [found]
  dsimp only
  rw [if_neg (by rw [open']; nofun), flows]
  rfl

theorem State.endRun_of_closing {q : Purpose} (closes : r.state = .closing q) :
    s.endRun h e = (s.resulted h e).setRunState h (.closing .ending) := by
  unfold State.endRun
  rw [found]
  dsimp only
  rw [if_neg (by rw [open']; nofun), closes]
  rfl

end

section
variable (tidy : s.Tidy) {r : Run} (live : r ∈ s.rm.pool)
include tidy live

theorem State.Tidy.resulted (open' : r.endResult = none) (e : EndResult) : (s.resulted r.handle e).Tidy := by
  have given : Stir (Scope.ending fun _ => True) s (s.modRun r.handle fun q => { q with endResult := some e }) :=
    Stir.turnRun (f := fun q => { q with endResult := some e }) live trivial (.result r e trivial open')
  exact given.tidy tidy

theorem State.Tidy.mem_resulted {e : EndResult} : { r with endResult := some e } ∈ (s.resulted r.handle e).rm.pool :=
  (tidy.mem_modRun live).2 (.inl rfl)

/-- A run that closes goes on closing, for its end. -/
theorem State.Tidy.endRun_closing (open' : r.endResult = none) {q : Purpose} (closes : r.state = .closing q) (e : EndResult) :
    { r with state := .closing .ending, endResult := some e } ∈ (s.endRun r.handle e).rm.pool := by
  rw [State.endRun_of_closing (tidy.find_eq live) open' e closes]
  exact ((tidy.resulted live open' e).mem_modRun (tidy.mem_resulted live)).2 (.inl rfl)

/-- A run that flows closes for its end, where the end switch does not confirm at once. -/
theorem State.Tidy.endRun_flowing (open' : r.endResult = none) (flows : r.state = .flowing)
    (slow : (s.chan r.channel).confirmed = false) (e : EndResult) :
    { r with state := .closing .ending, endResult := some e } ∈ (s.endRun r.handle e).rm.pool ∧
      (s.endRun r.handle e).chan r.channel = (s.chan r.channel).beginClose := by
  have neat := tidy.resulted live open' e
  have mem := tidy.mem_resulted live (e := e)
  have head := neat.head_eq mem (isHead_of_flowing flows)
  have begun := (State.demandClose_of_flowing head flows .ending rfl).1 fun shuts => by
    have confirmed := shuts.confirmed
    rw [show (s.resulted r.handle e).chan r.channel = s.chan r.channel from rfl, slow] at confirmed
    cases confirmed
  rw [State.endRun_of_flowing (tidy.find_eq live) open' e flows]
  rw [show ({ r with endResult := some e } : Run).channel = r.channel from rfl] at begun
  rw [begun]
  exact ⟨(neat.mem_begun mem .ending).2 (.inl rfl), State.chan_setChan_same _ _ _⟩

/-- A run that waits departs with its record. -/
theorem State.Tidy.endRun_waiting (open' : r.endResult = none) (waits : r.state = .gated ∨ r.state = .queued ∨ r.state = .asking)
    (e : EndResult) : (s.endRun r.handle e).log.records =
      s.log.records ++ [completionRecord { r with endResult := some e } false s.clock.seconds] := by
  have neat := tidy.resulted live open' e
  rw [State.endRun_of_waiting (tidy.find_eq live) open' e waits]
  have roll := (s.resulted r.handle e).depart_roll r.handle false { r with endResult := some e }
    (neat.find_eq (tidy.mem_resulted live))
  exact congrArg (fun roll : List Nat × LogUnit => roll.2.records) roll

end

/-! ### The log -/

theorem Stir.records (step : Stir p s t) : s.log.records <+: t.log.records := by
  cases step with
  | claim d k here => rw [log_of_mute (s.queueClaim_mute d k)]
  | remove r b live here may waits => exact List.prefix_append _ _
  | finish r b live here may flows shuts => exact List.prefix_append _ _
  | _ => exact List.prefix_rfl

theorem Stirs.records (chain : Stirs p s t) : s.log.records <+: t.log.records :=
  chain.keep (P := fun u => s.log.records <+: u.log.records) (fun _ _ step grown => grown.trans step.records) List.prefix_rfl

/-! ### A run before it is reached -/

/-- A run of which nothing has changed that its completion record holds, by what it waits for. -/
def State.Waits (s : State) (r : Run) : Prop :=
  ∃ x ∈ s.rm.pool, x.ident = r.ident ∧ x.preemptions = r.preemptions ∧ x.endResult = r.endResult ∧
    (x.state = .gated ∨ x.state = .queued ∨ x.state = .asking)

theorem completionRecord_of_ident {x r : Run} (same : x.ident = r.ident) (count : x.preemptions = r.preemptions) (e : EndResult)
    (b : Bool) (now : BitVec 32) :
    completionRecord { x with endResult := some e } b now = completionRecord { r with endResult := some e } b now := by
  have whole := congrArg (fun y : Run => completionRecord { y with preemptions := x.preemptions, endResult := some e } b now) same
  rw [count] at whole
  exact (congrArg (fun n => completionRecord { x with preemptions := n, endResult := some e } b now) count).trans whole

theorem Turnover.waits {a b : Run} {ch : Channel} (change : Turnover p s a b ch) (kept : ¬ p.ends a.handle)
    (shut : ¬ p.opens a.channel) (waits : a.state = .gated ∨ a.state = .queued ∨ a.state = .asking) :
    b.preemptions = a.preemptions ∧ b.endResult = a.endResult ∧ (b.state = .gated ∨ b.state = .queued ∨ b.state = .asking) := by
  have not : ∀ {st : RunState}, a.state = st → st.isClosing = true ∨ st = .flowing → False := by
    intro st here other
    subst here
    rcases waits with e | e | e <;> rw [e] at other <;> rcases other with f | f <;> cases f
  cases change with
  | ask free was => exact ⟨rfl, rfl, .inr (.inr rfl)⟩
  | unask asks => exact ⟨rfl, rfl, .inr (.inl rfl)⟩
  | preempt flows => exact (not flows (.inr rfl)).elim
  | close q flows => exact (not flows (.inr rfl)).elim
  | preemptShut flows shuts => exact (not flows (.inr rfl)).elim
  | closeShut flows shuts => exact (not flows (.inr rfl)).elim
  | result e may none => exact absurd may kept
  | ending q may closes => exact absurd may kept
  | opens may can asks => exact absurd may shut

theorem Stir.waits (step : Stir p s t) (tidy : s.Tidy) {r : Run} (kept : ¬ p.ends r.handle) (shut : ∀ c, ¬ p.opens c)
    (waits : s.Waits r) : t.Waits r := by
  obtain ⟨x, live, same, count, result, waits⟩ := waits
  have mine : ¬ p.ends x.handle := by rw [handle_of_ident same]; exact kept
  cases step with
  | claim d k here => exact ⟨x, by rw [s.queueClaim_rm d k]; exact live, same, count, result, waits⟩
  | turn q f ch liveQ here change =>
    by_cases own : x.handle = q.handle
    · obtain rfl := tidy.only live liveQ own
      obtain ⟨counts, results, state⟩ := change.waits mine (shut _) waits
      exact ⟨f x, (tidy.mem_modRun live).2 (.inl rfl), change.ident.trans same, counts.trans count, results.trans result, state⟩
    · exact ⟨x, (tidy.mem_modRun liveQ).2 (.inr ⟨live, own⟩), same, count, result, waits⟩
  | remove q b liveQ here may other =>
    refine ⟨x, tidy.mem_removeRun.2 ⟨live, fun own => ?_⟩, same, count, result, waits⟩
    obtain rfl := tidy.only live liveQ own
    exact mine may
  | finish q b liveQ here may flows shuts =>
    refine ⟨x, tidy.mem_finished.2 ⟨live, fun own => ?_⟩, same, count, result, waits⟩
    obtain rfl := tidy.only live liveQ own
    exact mine may
  | pass g gated =>
    by_cases passes : g x = true
    · exact ⟨passGate x, List.mem_map.2 ⟨x, live, if_pos passes⟩, same, count, result, .inr (.inl rfl)⟩
    · exact ⟨x, List.mem_map.2 ⟨x, live, if_neg passes⟩, same, count, result, waits⟩

theorem Stirs.waits (chain : Stirs p s t) (tidy : s.Tidy) {r : Run} (kept : ¬ p.ends r.handle) (shut : ∀ c, ¬ p.opens c)
    (waits : s.Waits r) : t.Waits r :=
  (chain.keep (P := fun u => u.Tidy ∧ u.Waits r)
    (fun _ _ step both => ⟨step.tidy both.1, step.waits both.1 kept shut both.2⟩) ⟨tidy, waits⟩).2

/-- A run that is served, or closes, with its valve. -/
def State.Serves (s : State) (r : Run) : Prop :=
  (s.chan r.channel).confirmed = false ∧
    ((s.chan r.channel).valve.driven = true ∨ (s.chan r.channel).valve = .closing) ∧
    ∃ x ∈ s.rm.pool, x.ident = r.ident ∧ x.endResult = none ∧
      (x.state = .flowing ∨ x.state.isClosing = true ∧ (s.chan r.channel).valve = .closing)

theorem Channel.beginClose_closing {ch : Channel} (moves : ch.valve.driven = true ∨ ch.valve = .closing) :
    ch.beginClose.valve = .closing := by
  rcases moves with drives | closing
  · exact (Channel.beginClose_shutting drives).1
  · rw [Channel.beginClose_of_not_driven (Valve.not_driven_closing closing)]
    exact closing

theorem Turnover.serves {a b : Run} {ch : Channel} (change : Turnover p s a b ch) (kept : ¬ p.ends a.handle)
    (slow : (s.chan a.channel).confirmed = false) (flows : a.state = .flowing) :
    ch = (s.chan a.channel).beginClose ∧ b.endResult = a.endResult ∧ b.state.isClosing = true := by
  have not : ∀ {st : RunState}, a.state = st → st ≠ .flowing → False := fun here other => other (here.symm.trans flows)
  have fast : (s.chan a.channel).shuts → False := fun shuts => by
    have confirmed := shuts.confirmed
    rw [slow] at confirmed
    cases confirmed
  cases change with
  | ask free was => exact (not was nofun).elim
  | unask asks => exact (not asks nofun).elim
  | preempt flows => exact ⟨rfl, rfl, rfl⟩
  | close q flows => exact ⟨rfl, rfl, rfl⟩
  | preemptShut flows shuts => exact (fast shuts).elim
  | closeShut flows shuts => exact (fast shuts).elim
  | result e may none => exact absurd may kept
  | ending q may closes => exact absurd may kept
  | opens may can asks => exact (not asks nofun).elim

theorem Stir.valve_moves (step : Stir p s t) {c : Chan} (slow : (s.chan c).confirmed = false) (shut : ¬ p.opens c)
    (moves : (s.chan c).valve.driven = true ∨ (s.chan c).valve = .closing) :
    ((t.chan c).valve.driven = true ∨ (t.chan c).valve = .closing) ∧
      ((s.chan c).valve = .closing → (t.chan c).valve = .closing) := by
  rcases step.valve c with same | begun | ⟨confirmed, -⟩ | ⟨may, -, -⟩
  · rw [valve_of_mute same]
    exact ⟨moves, id⟩
  · rw [valve_of_mute begun, Channel.beginClose_closing moves]
    exact ⟨.inr rfl, fun _ => rfl⟩
  · rw [slow] at confirmed
    cases confirmed
  · exact absurd may shut

theorem Stir.serves (step : Stir p s t) (tidy : s.Tidy) {r : Run} (kept : ¬ p.ends r.handle) (shut : ∀ c, ¬ p.opens c)
    (serves : s.Serves r) : t.Serves r := by
  obtain ⟨slow, moves, x, live, same, open', state⟩ := serves
  obtain ⟨moves', closing'⟩ := step.valve_moves slow (shut _) moves
  have mine : ¬ p.ends x.handle := by rw [handle_of_ident same]; exact kept
  have on : x.channel = r.channel := channel_of_ident same
  refine ⟨(step.once.confirmed r.channel).trans slow, moves', ?_⟩
  have still : x ∈ t.rm.pool → ∃ x ∈ t.rm.pool, x.ident = r.ident ∧ x.endResult = none ∧
      (x.state = .flowing ∨ x.state.isClosing = true ∧ (t.chan r.channel).valve = .closing) := fun stays => ⟨x, stays, same, open', state.imp_right fun both => ⟨both.1, closing' both.2⟩⟩
  rcases state with flows | ⟨closes, valve⟩
  · cases step with
    | claim d k here => exact still (by rw [s.queueClaim_rm d k]; exact live)
    | turn q f ch liveQ here change =>
      by_cases own : x.handle = q.handle
      · obtain rfl := tidy.only live liveQ own
        obtain ⟨chan, results, state⟩ := change.serves mine (by rw [on]; exact slow) flows
        refine ⟨f x, (tidy.mem_modRun live).2 (.inl rfl), change.ident.trans same, results.trans open', .inr ⟨state, ?_⟩⟩
        rw [chan, on, State.chan_setChan_same]
        exact Channel.beginClose_closing moves
      · exact still ((tidy.mem_modRun liveQ).2 (.inr ⟨live, own⟩))
    | remove q b liveQ here may other =>
      refine still (tidy.mem_removeRun.2 ⟨live, fun own => ?_⟩)
      obtain rfl := tidy.only live liveQ own
      exact mine may
    | finish q b liveQ here may flows shuts =>
      refine still (tidy.mem_finished.2 ⟨live, fun own => ?_⟩)
      obtain rfl := tidy.only live liveQ own
      exact mine may
    | pass g gated =>
      refine still (List.mem_map.2 ⟨x, live, if_neg fun passes => ?_⟩)
      rw [(gated x live passes).1] at flows
      cases flows
  · exact still ((step.sinks tidy live closes).resolve_right fun ended => mine ended.1)

theorem Stirs.serves (chain : Stirs p s t) (tidy : s.Tidy) {r : Run} (kept : ¬ p.ends r.handle) (shut : ∀ c, ¬ p.opens c)
    (serves : s.Serves r) : t.Serves r :=
  (chain.keep (P := fun u => u.Tidy ∧ u.Serves r)
    (fun _ _ step both => ⟨step.tidy both.1, step.serves both.1 kept shut both.2⟩) ⟨tidy, serves⟩).2

/-! ### A stopped run (R104 stage 1, R108) -/

section
variable (tidy : s.Tidy) {r : Run} (live : r ∈ s.rm.pool) (stop : s.stopSet r.stopFlag = true) (open' : r.endResult = none)
include tidy live stop open'

theorem State.Tidy.stopped_waiting (waits : r.state = .gated ∨ r.state = .queued ∨ r.state = .asking) :
    completionRecord { r with endResult := some .stopped } false s.clock.seconds ∈ s.evaluate.log.records := by
  obtain ⟨u, before, after⟩ := tidy.evaluate_at (mem_stopping.2 ⟨r, live, rfl, stop, open'⟩)
  have neat := before.tidy tidy
  obtain ⟨x, hx, same, count, result, state⟩ :=
    before.waits (r := r) tidy (fun other => other rfl) (fun _ => id) ⟨r, live, rfl, rfl, rfl, waits⟩
  have now : u.clock = s.clock := clock_of_bare before.bare
  refine after.records.subset ?_
  have records := neat.endRun_waiting hx (result.trans open') state .stopped
  rw [now, completionRecord_of_ident same count, handle_of_ident same] at records
  rw [records]
  exact List.mem_append_right _ List.mem_cons_self

theorem State.Tidy.stopped_closing {q : Purpose} (closes : r.state = .closing q) :
    { r with state := .closing .ending, endResult := some .stopped } ∈ s.evaluate.rm.pool := by
  obtain ⟨u, before, after⟩ := tidy.evaluate_at (mem_stopping.2 ⟨r, live, rfl, stop, open'⟩)
  have neat := before.tidy tidy
  have still := before.sinks tidy (fun other => other rfl) live (by rw [closes]; rfl)
  have given : Stirs (Scope.ending fun _ => True) u (u.endRun r.handle .stopped) :=
    Stirs.endRun (Scope.ending_wide fun _ => True) neat trivial .stopped
  exact after.ending (given.tidy neat) (neat.endRun_closing still open' closes .stopped) rfl nofun

theorem State.Tidy.stopped_flowing (flows : r.state = .flowing) (drives : (s.chan r.channel).valve.driven = true)
    (slow : (s.chan r.channel).confirmed = false) : (s.evaluate.chan r.channel).valve = .closing ∧
      ∃ q ∈ s.evaluate.rm.pool, q.handle = r.handle ∧ q.state = .closing .ending ∧ q.endResult = some .stopped := by
  obtain ⟨u, before, after⟩ := tidy.evaluate_at (mem_stopping.2 ⟨r, live, rfl, stop, open'⟩)
  have neat := before.tidy tidy
  have given : Stirs (Scope.ending fun _ => True) u (u.endRun r.handle .stopped) :=
    Stirs.endRun (Scope.ending_wide fun _ => True) neat trivial .stopped
  obtain ⟨slow', moves, x, hx, same, none', state⟩ :=
    before.serves (r := r) tidy (fun other => other rfl) (fun _ => id) ⟨slow, .inl drives, r, live, rfl, open', .inl flows⟩
  have handle := handle_of_ident same
  have channel := channel_of_ident same
  have reached : ((u.endRun r.handle .stopped).chan r.channel).valve = .closing ∧
      { x with state := .closing .ending, endResult := some .stopped } ∈ (u.endRun r.handle .stopped).rm.pool := by
    rw [← handle]
    rw [← handle] at given
    rcases state with flows | ⟨closes, valve⟩
    · obtain ⟨mem, chan⟩ := neat.endRun_flowing hx none' flows (by rw [channel]; exact slow') .stopped
      rw [channel] at chan
      exact ⟨by rw [chan]; exact Channel.beginClose_closing moves, mem⟩
    · obtain ⟨q, closes⟩ : ∃ q, x.state = .closing q := by
        cases st : x.state with
        | closing q => exact ⟨q, rfl⟩
        | _ => rw [st] at closes; cases closes
      have mem := neat.endRun_closing hx none' closes .stopped
      exact ⟨(given.shutting slow' ⟨valve, rfl⟩).1, mem⟩
  have slow'' := (given.confirmed r.channel).trans slow'
  exact ⟨(after.shutting slow'' ⟨reached.1, rfl⟩).1, _, after.ending (given.tidy neat) reached.2 rfl nofun, handle, rfl, rfl⟩

end

end Sys2Proof.Machine
end

section
/-!
SUPPORT. A valve that rests, or that closes unconfirmed, stays as it is through the operations over runs and valves, whatever the pool
holds; a valve that closes unconfirmed stays so through the notices too.
-/

namespace Sys2Proof.Machine

/-- A valve that neither a close demand nor the end switch moves: it is CLOSED or STUCK, or CLOSING and not confirmed. -/
def Channel.fixed (ch : Channel) : Prop := ch.valve.driven = false ∧ (ch.valve = .closing → ch.confirmed = false)

/-- A valve is CLOSING and its end switch does not confirm. -/
def Channel.stalled (ch : Channel) : Prop := ch.valve = .closing ∧ ch.confirmed = false

theorem Channel.stalled.fixed {ch : Channel} (stalled : ch.stalled) : ch.fixed :=
  ⟨Valve.not_driven_closing stalled.1, fun _ => stalled.2⟩

theorem Channel.fixed_of_closed {ch : Channel} (closed : ch.valve = .closed) : ch.fixed :=
  ⟨Valve.not_driven_closed closed, fun closing => by rw [closed] at closing; cases closing⟩

theorem Channel.fixed_of_stuck {ch : Channel} (stuck : ch.valve = .stuck) : ch.fixed :=
  ⟨Valve.not_driven_stuck stuck, fun closing => by rw [stuck] at closing; cases closing⟩

theorem Channel.stalled_of_mute {a b : Channel} (same : a.mute = b.mute) (stalled : b.stalled) : a.stalled :=
  ⟨(valve_of_mute same).trans stalled.1, (confirmed_of_mute same).trans stalled.2⟩

theorem Channel.fixed_of_mute {a b : Channel} (same : a.mute = b.mute) (fixed : b.fixed) : a.fixed :=
  ⟨by rw [valve_of_mute same]; exact fixed.1,
    fun closing => (confirmed_of_mute same).trans (fixed.2 ((valve_of_mute same).symm.trans closing))⟩

theorem Channel.fixed.beginClose {ch : Channel} (fixed : ch.fixed) : ch.beginClose = ch :=
  Channel.beginClose_of_not_driven fixed.1

theorem Channel.fixed.not_shuts {ch : Channel} (fixed : ch.fixed) : ¬ ch.shuts := fun shuts => by
  have closing := shuts.1
  rw [fixed.beginClose] at closing
  have slow := fixed.2 closing
  rw [shuts.confirmed] at slow
  cases slow

/-- A fixed channel is left as it is, less its announced record. -/
def Fixed (c : Chan) (s t : State) : Prop := (s.chan c).fixed → (t.chan c).mute = (s.chan c).mute

/-- A stalled channel is left as it is, less its announced record. -/
def Held (c : Chan) (s t : State) : Prop := (s.chan c).stalled → (t.chan c).mute = (s.chan c).mute

namespace Fixed

variable {c : Chan} {s t u : State}

theorem refl (s : State) : Fixed c s s := fun _ => rfl

theorem trans (h : Fixed c s t) (k : Fixed c t u) : Fixed c s u := fun fixed =>
  (k (Channel.fixed_of_mute (h fixed) fixed)).trans (h fixed)

theorem of_mute (same : t.mute = s.mute) : Fixed c s t := fun _ => chan_of_mute same c
theorem of_chan (same : t.chan c = s.chan c) : Fixed c s t := fun _ => congrArg Channel.mute same

theorem setChan (d : Chan) (ch : Channel) (same : d = c → (s.chan c).fixed → ch.mute = (s.chan c).mute) :
    Fixed c s (s.setChan d ch) := fun fixed => by
  by_cases here : d = c
  · rw [← here, State.chan_setChan_same, here]
    exact same here fixed
  · rw [State.chan_setChan_ne _ _ here]

theorem fold {α : Type} (op : State → α → State) (each : ∀ s x, Fixed c s (op s x)) (xs : List α) (s : State) :
    Fixed c s (xs.foldl op s) :=
  List.foldlRecOn xs op (motive := fun t => Fixed c s t) (refl s) fun t sofar x _ => sofar.trans (each t x)

theorem pickHead (s : State) (d : Chan) : Fixed c s (s.pickHead d) := of_chan (State.chan_pickHead s d c)
theorem requeue (s : State) (d : Chan) (h : Nat) : Fixed c s (s.requeue d h) := of_chan (State.chan_pickHead _ d c)
theorem announce (s : State) (d : Chan) : Fixed c s (s.announce d) := of_mute (s.announce_mute d)
theorem queueCurrent (s : State) (d : Chan) : Fixed c s (s.queueCurrent d) := of_mute (s.queueCurrent_mute d)

theorem beginClose (s : State) (d : Chan) : Fixed c s (s.setChan d (s.chan d).beginClose) :=
  setChan d _ fun here fixed => by rw [here, fixed.beginClose]

/-- A close that the end switch confirms as it begins. -/
theorem shut (s : State) (d : Chan) (shuts : (s.chan d).shuts) : Fixed c s (s.setChan d (s.chan d).beginClose.endClose) :=
  setChan d _ fun here fixed => absurd (here ▸ shuts) fixed.not_shuts

theorem preempt (s : State) (d : Chan) (r : Run) : Fixed c s (s.preempt d r) := by
  unfold State.preempt
  dsimp only
  split
  · next shuts => exact (shut (s.modRun r.handle _) d shuts).trans (requeue _ d _)
  · exact beginClose (s.modRun r.handle _) d

theorem headSelect (s : State) (d : Chan) : Fixed c s (s.headSelect d) := by
  unfold State.headSelect
  split
  · exact pickHead s d
  · split
    · split
      · exact refl s
      · exact of_chan rfl
    · split
      · exact refl s
      · exact preempt s d _
    · exact refl s

theorem headSelectAll (s : State) (cs : List Chan) : Fixed c s (s.headSelectAll cs) := fold _ headSelect cs s

theorem releaseWaiting (s : State) (h : Nat) : Fixed c s (s.releaseWaiting h) :=
  headSelectAll (s.setPool (s.rm.pool.map fun r => if waitsOn h r then passGate r else r)) _

theorem depart (s : State) (h : Nat) (b : Bool) : Fixed c s (s.depart h b) := by
  unfold State.depart
  split
  · exact refl s
  · next r found =>
    have gone : Fixed c s (((s.removeRun r b).releaseWaiting h).headSelect r.channel) :=
      (releaseWaiting (s.removeRun r b) h).trans (headSelect _ _)
    dsimp only
    split
    · exact gone.trans (of_mute (State.queueDeparture_mute _ r))
    · exact gone

theorem dismissHead (s : State) (d : Chan) (b : Bool) : Fixed c s (s.dismissHead d b) := by
  unfold State.dismissHead
  split
  · split
    · exact depart s _ b
    · exact requeue s d _
    · exact refl s
  · exact refl s

theorem demandClose (s : State) (d : Chan) (q : Purpose) : Fixed c s (s.demandClose d q) := by
  by_cases flows : ∃ r ∈ s.head d, r.state = .flowing
  · obtain ⟨r, head, flows⟩ := flows
    obtain ⟨-, here, -⟩ := State.mem_of_head head
    obtain ⟨slow, fast⟩ := State.demandClose_of_flowing head flows q here
    subst here
    by_cases shuts : (s.chan r.channel).shuts
    · rw [fast shuts, s.begun_endClose]
      exact (shut (s.setRunState r.handle _) r.channel shuts).trans (dismissHead _ _ _)
    · rw [slow shuts]
      exact beginClose (s.setRunState r.handle _) r.channel
  · rw [State.demandClose_of_other fun r head flowing => flows ⟨r, head, flowing⟩]
    exact refl s

theorem closeAll (s : State) (q : Purpose) : Fixed c s (s.closeAll q) := fold _ (fun t d => demandClose t d q) allChans s

theorem endRun (s : State) (h : Nat) (e : EndResult) : Fixed c s (s.endRun h e) := by
  unfold State.endRun
  split
  · exact refl s
  · split
    · exact refl s
    · dsimp only
      split
      · exact depart (s.modRun h _) h false
      · exact depart (s.modRun h _) h false
      · exact depart (s.modRun h _) h false
      · exact demandClose (s.modRun h _) _ _
      · exact of_chan rfl

theorem evaluate (s : State) : Fixed c s s.evaluate :=
  (fold (fun t h => t.endRun h .stopped) (fun t h => endRun t h .stopped) s.stopping s).trans
    (headSelectAll (s.stopWatch.setPool (s.stopWatch.rm.pool.map fun r => if s.stopWatch.passes r then passGate r else r)) _)

theorem evaluateIf (s : State) (b : Bool) : Fixed c s (s.evaluateIf b) := by
  unfold State.evaluateIf
  split
  · exact evaluate s
  · exact refl s

end Fixed

namespace Held

variable {c : Chan} {s t u : State}

theorem of_fixed (h : Fixed c s t) : Held c s t := fun stalled => h stalled.fixed

theorem trans (h : Held c s t) (k : Held c t u) : Held c s u := fun stalled =>
  (k (Channel.stalled_of_mute (h stalled) stalled)).trans (h stalled)

theorem of_chan (same : t.chan c = s.chan c) : Held c s t := of_fixed (.of_chan same)
theorem closeAll (s : State) (q : Purpose) : Held c s (s.closeAll q) := of_fixed (.closeAll s q)
theorem evaluateIf (s : State) (b : Bool) : Held c s (s.evaluateIf b) := of_fixed (.evaluateIf s b)

theorem grantNotice (s : State) (d : Chan) : Held c s (s.grantNotice d) := by
  unfold State.grantNotice
  split
  · next can =>
    split
    · next r head =>
      obtain ⟨-, -, -, closed, -⟩ := State.of_canOpen can
      refine Held.trans (t := (s.setRunState r.handle .flowing).setChan d (s.chan d).beginOpen) (fun stalled => ?_)
        (of_fixed (.announce _ d))
      by_cases here : d = c
      · have closing : (s.chan d).valve = .closing := by rw [here]; exact stalled.1
        rw [closed] at closing
        cases closing
      · exact congrArg Channel.mute (State.chan_setChan_ne _ _ here)
    · exact of_fixed (.refl s)
  · exact of_fixed (.queueCurrent s d)

theorem notices (s : State) (granted revoked : List Chan) : Held c s (s.notices granted revoked) :=
  List.foldlRecOn allChans _ (motive := fun t => Held c s t) (of_fixed (.refl s)) fun t sofar d _ => sofar.trans (by
    split
    · exact grantNotice t d
    · split
      · exact of_fixed ((Fixed.demandClose t d _).trans (.queueCurrent _ d))
      · exact of_fixed (.refl t))

theorem recompute (s : State) : Held c s s.recompute := by
  unfold State.recompute
  generalize s.allocate = a
  exact Held.trans (t := (s.setTable a.table).setAlloc a.result) (of_chan rfl) (notices _ _ _)

end Held

/-- A station that does not listen again by itself at the end of a frame does not after its recomputation and evaluation. -/
theorem State.staysOnFrame_of_held {s t : State} (mu : t.mu = s.mu) (held : ∀ c, Held c s t) (stays : s.StaysOnFrame) : t.StaysOnFrame := by
  refine stays.imp (fun stays => ?_) fun ⟨c, present, closing, slow⟩ => ⟨c, ?_, Channel.stalled_of_mute (held c ⟨closing, slow⟩) ⟨closing, slow⟩⟩
  · unfold State.Stays
    rw [mu]
    exact stays
  · have settings : (t.chan c).settings = (s.chan c).settings := settings_of_mute (held c ⟨closing, slow⟩)
    unfold Channel.present
    rw [settings]
    exact present

end Sys2Proof.Machine
end

section
/-!
SUPPORT. One applied frame (R126, R127): the state in which its body is applied, the recomputation and evaluation that follow, and
what the end of the frame leaves: all but announced records, outbound set, ack pending, and the marks of a RESYNC that ends.
-/

namespace Sys2Proof.Machine

variable {s t u : State}

/-! ### The end of an applied frame -/

theorem State.dropSilent_mute (s : State) : s.dropSilent.mute = s.mute := by
  unfold State.dropSilent
  refine fold_leaves State.mute _ _ s fun t a => ?_
  split
  · unfold State.queueDrop
    split
    · rfl
    · exact t.enqueue_mute _
  · rfl

theorem State.enterSynced_mute (s : State) : s.enterSynced.mute = s.regained.mute := by
  have dropped : s.regained.announceAll.dropSilent.mute = s.regained.mute :=
   (State.dropSilent_mute _).trans (State.announceAll_mute _)
  unfold State.enterSynced
  dsimp only
  split
  · exact (State.enqueue_mute _ _).trans dropped
  · exact dropped

theorem State.staleTest_cases (u : State) : u.staleTest = u ∨
    u.mu.station = .resync ∧ u.anyStale = false ∧ u.staleTest = u.enterSynced := by
  unfold State.staleTest
  split
  · next both => exact .inr ⟨both.1, Bool.eq_false_iff.2 both.2, rfl⟩
  · exact .inl rfl

theorem State.staleTest_of_fresh (station : u.mu.station = .resync) (fresh : u.anyStale = false) : u.staleTest = u.enterSynced :=
  if_pos ⟨station, Bool.eq_false_iff.1 fresh⟩

theorem State.staleTest_of_other (other : u.mu.station ≠ .resync) : u.staleTest = u := if_neg fun both => other both.1

theorem State.staleTest_of_stale (stale : u.anyStale = true) : u.staleTest = u := if_neg fun both => both.2 stale

theorem member_clearStale (u : State) (a : Addr) : u.clearStale.member a = (u.member a).map fun m => { m with stale := false } := by
  unfold State.member State.clearStale
  rw [State.setMu_mu]
  exact mapVec_get _ _ _ _

/-- What the test of R145 leaves: the return to SYNCED writes the station state, the stale marks and the adoption condition. -/
theorem State.staleTest_parts (u : State) : u.staleTest.rm = u.rm ∧ u.staleTest.log = u.log ∧ u.staleTest.alloc = u.alloc ∧
    u.staleTest.hu = u.hu ∧ u.staleTest.clock = u.clock ∧ u.staleTest.straps = u.straps ∧
    (∀ c, (u.staleTest.chan c).mute = (u.chan c).mute) ∧
    { u.staleTest.ct with adoptionPending := u.ct.adoptionPending } = u.ct ∧
    u.staleTest.mu.orphans = u.mu.orphans ∧ u.staleTest.mu.cause = u.mu.cause ∧
    ∀ a, (u.staleTest.member a).map (fun m => { m with stale := false }) = (u.member a).map fun m => { m with stale := false } := by
  rcases u.staleTest_cases with same | ⟨-, -, synced⟩
  · rw [same]
    exact ⟨rfl, rfl, rfl, rfl, rfl, rfl, fun _ => rfl, rfl, rfl, rfl, fun _ => rfl⟩
  · rw [synced]
    have mute := u.enterSynced_mute
    generalize u.enterSynced = v at mute
    refine ⟨(rm_of_mute mute).trans rfl, (log_of_mute mute).trans rfl, (alloc_of_mute mute).trans rfl, (hu_of_mute mute).trans rfl,
      (clock_of_mute mute).trans rfl, (straps_of_mute mute).trans rfl, fun c => (chan_of_mute mute c).trans rfl, ?_, ?_, ?_,
      fun a => ?_⟩
    · rw [ct_of_mute mute]
      rfl
    · rw [mu_of_mute mute]
      rfl
    · rw [mu_of_mute mute]
      rfl
    · have member : v.member a = (u.member a).map fun m => { m with stale := false } := by
        rw [← member_clearStale]
        unfold State.member
        rw [mu_of_mute mute]
        rfl
      rw [member, Option.map_map]
      rfl

section
variable {x y : ClaimUnit} {b : Bool} (same : { x with adoptionPending := b } = y)
include same

theorem flags_of_adoption : x.flags = y.flags := by have e := congrArg ClaimUnit.flags same; exact e
theorem pointers_of_adoption : x.pointers = y.pointers := by have e := congrArg ClaimUnit.pointers same; exact e
theorem table_of_adoption : x.table = y.table := by have e := congrArg ClaimUnit.table same; exact e

end

/-- The end of an applied frame, where the station does not listen again by itself. -/
def State.rested (u : State) : State := u.staleTest.closing

section
variable (u : State)

theorem State.rested_rm : u.rested.rm = u.rm := (State.closing_rm _).trans u.staleTest_parts.1
theorem State.rested_log : u.rested.log = u.log := (State.closing_log _).trans u.staleTest_parts.2.1
theorem State.rested_alloc : u.rested.alloc = u.alloc := (State.closing_alloc _).trans u.staleTest_parts.2.2.1
theorem State.rested_clock : u.rested.clock = u.clock := (State.closing_clock _).trans u.staleTest_parts.2.2.2.2.1
theorem State.rested_straps : u.rested.straps = u.straps := (State.closing_straps _).trans u.staleTest_parts.2.2.2.2.2.1

theorem State.rested_hu : ∃ b, u.rested.hu = { u.hu with ackPending := b } := by
  obtain ⟨b, same⟩ := State.closing_hu u.staleTest
  obtain ⟨-, -, -, hu, -⟩ := u.staleTest_parts
  exact ⟨b, same.trans (by rw [hu])⟩

theorem State.rested_chan (c : Chan) : (u.rested.chan c).mute = (u.chan c).mute := by
  obtain ⟨-, -, -, -, -, -, chan, -⟩ := u.staleTest_parts
  exact (State.closing_chan _ c).trans (chan c)

theorem State.rested_ct : { u.rested.ct with adoptionPending := u.ct.adoptionPending } = u.ct := by
  obtain ⟨-, -, -, -, -, -, -, ct, -⟩ := u.staleTest_parts
  unfold State.rested
  rw [State.closing_ct]
  exact ct

theorem State.rested_orphans : u.rested.mu.orphans = u.mu.orphans := by
  obtain ⟨-, -, -, -, -, -, -, -, orphans, -⟩ := u.staleTest_parts
  unfold State.rested
  rw [State.closing_mu]
  exact orphans

theorem State.rested_cause : u.rested.mu.cause = u.mu.cause := by
  obtain ⟨-, -, -, -, -, -, -, -, -, cause, -⟩ := u.staleTest_parts
  unfold State.rested
  rw [State.closing_mu]
  exact cause

/-- A member's record at the end of a frame, its stale mark aside. -/
theorem State.rested_member (a : Addr) :
    (u.rested.member a).map (fun m => { m with stale := false }) = (u.member a).map fun m => { m with stale := false } := by
  obtain ⟨-, -, -, -, -, -, -, -, -, -, member⟩ := u.staleTest_parts
  have same : u.rested.member a = u.staleTest.member a := by
    unfold State.rested State.member
    rw [State.closing_mu]
  rw [same]
  exact member a

theorem State.rested_flags : u.rested.ct.flags = u.ct.flags :=
  flags_of_adoption u.rested_ct

theorem State.rested_pointers : u.rested.ct.pointers = u.ct.pointers :=
  pointers_of_adoption u.rested_ct

theorem State.rested_table : u.rested.ct.table = u.ct.table :=
  table_of_adoption u.rested_ct

theorem State.rested_gauge (a : Addr) : (u.rested.member a).map Member.gauge = (u.member a).map Member.gauge := by
  have e := congrArg (Option.map Member.gauge) (u.rested_member a)
  rw [Option.map_map, Option.map_map] at e
  exact e

theorem State.rested_sights : Sights u u.rested := ⟨u.rested_flags, u.rested_gauge⟩

/-- The end of an applied frame is `State.rested` where the station does not listen again by itself. -/
theorem State.conclude_staleTest (stays : u.StaysOnFrame) : u.staleTest.conclude = u.rested := by
  refine State.conclude_of_not_quits ?_
  rcases u.staleTest_cases with same | ⟨-, -, synced⟩
  · rw [same]
    exact State.not_quits_of_staysOnFrame stays
  · rw [synced]
    exact State.not_quits_of_loud (by rw [u.enterSynced_station]; rfl)

end

/-! ### The beginning of an applied frame -/

/-- R126, R135: what a frame writes of its sender's record before its body is applied. -/
def Member.heardBy (own : Addr) (now : BitVec 32) (f : Frame) (m : Member) : Member :=
  { m with lastSeq := f.seq, heard := now, silence := if f.sender = own then none else some Config.silenceMs, silent := false }

/-- R115, R120, R126: `h` is `s` with a frame that has come to the station, or that it has sent: but for the bus and the record
of its sender nothing has changed. -/
structure State.Heard (s h : State) (f : Frame) : Prop where
  shape : h = { s with mu := { s.mu with roster := h.mu.roster }, bus := h.bus }
  lastSender : h.bus.lastSender = f.sender
  outbound : h.bus.outbound = s.bus.outbound
  member : ∀ a, h.member a = if f.sender = a then (s.member a).map (Member.heardBy s.own s.clock.seconds f) else s.member a

/-- R115, R126: the state in which the body of a frame from the line is applied. -/
def State.hearing (s : State) (f : Frame) : State :=
  (s.endReception.setBus { s.endReception.bus with lastSender := f.sender }).hear f

/-- R127: the state in which the recomputation of a frame is made. -/
def State.bodied (h : State) (f : Frame) : State := h.applyBody f

/-- R127, R20, R103: the state of a frame after recomputation and evaluation. -/
def State.answered (h : State) (f : Frame) : State := (h.bodied f).recompute.evaluateIf (evaluationDue f h (h.bodied f))

theorem State.hear_heard {u : State} {f : Frame} (bus : u = { s with bus := u.bus }) (sender : u.bus.lastSender = f.sender)
    (outbound : u.bus.outbound = s.bus.outbound) : s.Heard (u.hear f) f := by
  rw [bus] at sender outbound ⊢
  generalize u.bus = v at sender outbound ⊢
  refine ⟨rfl, sender, outbound, fun a => ?_⟩
  refine (State.member_modMember _ f.sender a _).trans ?_
  split
  · next same => subst same; rfl
  · rfl

theorem State.hearing_heard (s : State) (f : Frame) : s.Heard (s.hearing f) f := State.hear_heard rfl rfl rfl

/-- The frame is the next one of a member, or a BEAT of no member. -/
def State.Next (s : State) (f : Frame) : Prop :=
  (∃ m, s.member f.sender = some m ∧ f.seq = m.lastSeq + 1) ∨ s.member f.sender = none ∧ ∃ b, f.body = .beat b

theorem State.hasGap_of_next {f : Frame} (next : s.Next f) : s.hasGap f = false := by
  unfold State.hasGap
  rcases next with ⟨m, member, seq⟩ | ⟨none, -⟩
  · rw [member]
    simp [seq]
  · rw [none]
    rfl

theorem State.isMember_of_hears {a : Addr} {seq : Seq} (hears : s.Hears a seq) : s.isMember a = true := by
  obtain ⟨-, -, -, -, -, member⟩ := hears
  obtain ⟨m, found, -⟩ := (Option.any_eq_true ..).1 member
  unfold State.isMember
  rw [Option.mem_def.1 found]
  rfl

theorem State.next_of_hears {a : Addr} {seq : Seq} (hears : s.Hears a seq) (body : FrameBody) : s.Next ⟨a, seq, body⟩ := by
  obtain ⟨-, -, -, -, -, member⟩ := hears
  rw [Option.any_eq_true] at member
  obtain ⟨m, found, seq⟩ := member
  exact .inl ⟨m, found, (eq_of_beq seq).symm⟩

theorem State.next_of_hearsBeat {a : Addr} {seq : Seq} {b : BeatBody} (hears : s.HearsBeat a seq b) :
    s.Next ⟨a, seq, .beat b⟩ := by
  obtain ⟨-, -, -, -, -, -, member⟩ := hears
  cases found : s.member a with
  | none => exact .inr ⟨found, b, rfl⟩
  | some m => exact .inl ⟨m, found, member m (by rw [found]; rfl)⟩

theorem State.applyFrame_of_next {u : State} {f : Frame} (gap : u.hasGap f = false) :
    u.applyFrame f = ((u.hear f).answered f).staleTest.conclude := by
  unfold State.applyFrame
  dsimp only
  rw [gap]
  rfl

theorem State.applyFrame_of_gap {u : State} {f : Frame} (gap : u.hasGap f = true) :
    u.applyFrame f = ((u.hear f).answered f).lostFrame.staleTest.conclude := by
  unfold State.applyFrame
  dsimp only
  rw [gap]
  rfl

/-- R124: a frame of another station that is applied. -/
theorem State.takeFrame_of_applied {f : Frame} (released : s.inReset = false) (receives : s.canReceive = true)
    (other : f.sender ≠ s.own) (station : s.mu.station ≠ .config) (fits : bodyFits f.body = true)
    (known : s.isMember f.sender = true ∨ ∃ b, f.body = .beat b) : s.takeFrame f.sender f.seq f.body =
      (s.endReception.setBus { s.endReception.bus with lastSender := f.sender }).applyFrame f := by
  unfold State.takeFrame
  rw [State.whenReleased_of_released _ released]
  unfold State.receiveFrame
  rw [if_pos receives, if_pos fits]
  unfold State.classify
  dsimp only
  rw [if_neg (show f.sender ≠ s.endReception.own from other), if_neg (show s.endReception.mu.station ≠ .config from station)]
  rcases known with member | ⟨b, beat⟩
  · split
    · rfl
    · exact if_pos member
  · obtain ⟨a, q, body⟩ := f
    obtain rfl : body = .beat b := beat
    rfl

/-- R124, R126: a frame that is applied without a gap. -/
theorem State.takeFrame_of_next {f : Frame} (released : s.inReset = false) (receives : s.canReceive = true)
    (other : f.sender ≠ s.own) (station : s.mu.station ≠ .config) (fits : bodyFits f.body = true) (next : s.Next f) :
    s.takeFrame f.sender f.seq f.body = ((s.hearing f).answered f).staleTest.conclude := by
  refine (State.takeFrame_of_applied released receives other station fits ?_).trans
    (State.applyFrame_of_next (State.hasGap_of_next next))
  refine next.imp (fun member => ?_) fun none => none.2
  obtain ⟨m, found, -⟩ := member
  unfold State.isMember
  rw [found]
  rfl

namespace State.Heard

variable {h : State} {f : Frame} (heard : s.Heard h f)
include heard

theorem rm : h.rm = s.rm := by rw [heard.shape]
theorem log : h.log = s.log := by rw [heard.shape]
theorem ct : h.ct = s.ct := by rw [heard.shape]
theorem hu : h.hu = s.hu := by rw [heard.shape]
theorem alloc : h.alloc = s.alloc := by rw [heard.shape]
theorem chans : h.chans = s.chans := by rw [heard.shape]
theorem clock : h.clock = s.clock := by rw [heard.shape]
theorem straps : h.straps = s.straps := by rw [heard.shape]
theorem events : h.events = s.events := by rw [heard.shape]
theorem station : h.mu.station = s.mu.station := by rw [heard.shape]
theorem cause : h.mu.cause = s.mu.cause := by rw [heard.shape]
theorem orphans : h.mu.orphans = s.mu.orphans := by rw [heard.shape]
theorem inReset : h.inReset = s.inReset := by rw [heard.shape]

theorem own : h.own = s.own := by
  unfold State.own
  rw [heard.straps]

theorem chan (c : Chan) : h.chan c = s.chan c := by
  unfold State.chan
  rw [heard.chans]

theorem gauge (a : Addr) : (h.member a).map Member.gauge = (s.member a).map Member.gauge := by
  rw [heard.member]
  split
  · rw [Option.map_map]
    rfl
  · rfl

theorem isMember (a : Addr) : h.isMember a = s.isMember a := by
  unfold State.isMember
  rw [heard.member]
  split
  · exact Option.isSome_map ..
  · rfl

end State.Heard

/-! ### The recomputation and evaluation of a frame -/

theorem State.Tidy.recompute (tidy : s.Tidy) : s.recompute.Tidy := by
  unfold State.recompute
  generalize s.allocate = a
  have neat : ((s.setTable a.table).setAlloc a.result).Tidy := tidy_of_rm (s := s) rfl tidy
  exact (Stirs.notices (p := ⟨fun _ => True, fun _ => True, fun _ => True, fun _ => True⟩) neat (fun _ => trivial) _ _
    fun _ _ => trivial).tidy neat

theorem State.recompute_sights (s : State) : Sights s s.recompute := by
  refine ⟨?_, fun a => by unfold State.member; rw [s.recompute_mu]⟩
  rw [s.recompute_ct]

theorem State.staysOnFrame_settle (s : State) (b : Bool) (stays : s.StaysOnFrame) : (s.recompute.evaluateIf b).StaysOnFrame :=
  State.staysOnFrame_of_held ((State.evaluateIf_mu _ b).trans s.recompute_mu)
    (fun _ => (Held.recompute s).trans (Held.evaluateIf _ b)) stays

/-- R127: a frame that is applied without a gap, where its body does not make the station listen again. -/
theorem State.takeFrame_rested {f : Frame} (released : s.inReset = false) (receives : s.canReceive = true)
    (other : f.sender ≠ s.own) (station : s.mu.station ≠ .config) (fits : bodyFits f.body = true) (next : s.Next f)
    (stays : ((s.hearing f).bodied f).StaysOnFrame) :
    s.takeFrame f.sender f.seq f.body = ((s.hearing f).answered f).rested :=
  (State.takeFrame_of_next released receives other station fits next).trans
    (State.conclude_staleTest _ (State.staysOnFrame_settle _ _ stays))

theorem State.staysOnFrame_of_parts (station : t.mu.station = s.mu.station) (cause : t.mu.cause = s.mu.cause)
    (chans : t.chans = s.chans) (stays : s.StaysOnFrame) : t.StaysOnFrame := by
  refine stays.imp (fun stays => ?_) fun ⟨c, here⟩ => ⟨c, ?_⟩
  · unfold State.Stays
    rw [station, cause]
    exact stays
  · unfold State.chan
    rw [chans]
    exact here

/-- R126, R127: a frame of a member that the station applies, where its body leaves station state and valves. -/
theorem State.takeFrame_of_hears {a : Addr} {seq : Seq} {body : FrameBody} (hears : s.Hears a seq) (fits : bodyFits body = true)
    (stays : ∀ h, s.Heard h ⟨a, seq, body⟩ → h.StaysOnFrame → (h.bodied ⟨a, seq, body⟩).StaysOnFrame) :
    s.takeFrame a seq body = ((s.hearing ⟨a, seq, body⟩).answered ⟨a, seq, body⟩).rested := by
  have next := State.next_of_hears hears body
  obtain ⟨released, receives, other, hosted, still, -⟩ := hears
  have heard := s.hearing_heard ⟨a, seq, body⟩
  exact State.takeFrame_rested (f := ⟨a, seq, body⟩) released receives other hosted fits next
    (stays _ heard (State.staysOnFrame_of_parts heard.station heard.cause heard.chans still))

end Sys2Proof.Machine
end

section
namespace Sys2Proof
open Sys2Proof.Machine

/-- What an applied FLAG frame leaves of R104: the evaluation that it calls for is the last to touch runs, flags and gauges. -/
theorem flagFrame_evaluated {s : State} {a : Addr} {seq : Seq} {set clear : BitVec 16} (tidy : s.Tidy) (hears : s.Hears a seq) :
    ∃ t, exec (.flagFrame a seq set clear) s = .next t ∧
      (∀ r ∈ t.rm.pool, t.stopSet r.stopFlag = true → r.endResult.isSome = true) ∧
      (∀ r ∈ t.rm.pool, r.state = .gated → t.gateOpen r.gate = false) := by
  generalize frame : (⟨a, seq, .flag set clear⟩ : Frame) = f
  have heard := s.hearing_heard f
  have whole : s.takeFrame a seq (.flag set clear) = ((s.hearing f).answered f).rested := by
    rw [← frame]
    exact State.takeFrame_of_hears hears rfl fun h _ => State.staysOnFrame_of_parts rfl rfl rfl
  generalize s.hearing f = h at heard whole
  have bodied : (h.bodied f).Tidy := by
    rw [← frame]
    exact tidy_of_rm (s := s) (congrArg RunUnit.pool heard.rm) tidy
  have answered : h.answered f = (h.bodied f).recompute.evaluate := by
    rw [← frame]
    rfl
  refine ⟨_, congrArg Host.Outcome.next whole, ?_⟩
  rw [answered]
  have neat := bodied.recompute
  generalize (h.bodied f).recompute = u at neat
  have stopped := neat.evaluate_stopped
  have gated := neat.evaluate_gated
  generalize u.evaluate = v at stopped gated
  rw [v.rested_rm]
  refine ⟨fun r live stop => stopped r live (by rwa [v.rested_sights.stopSet] at stop), fun r live waits => ?_⟩
  refine Bool.eq_false_iff.2 fun holds => Bool.eq_false_iff.1 (gated r live waits) ?_
  exact v.rested_sights.symm.gateOpen (fun q hq => ⟨q, by rw [v.rested_rm]; exact hq, rfl⟩) holds

/-- Settles O15: the stop watch run by run and the gate test, as chains of steps that keep results, records and closes. -/
theorem evaluationStopsAndPasses : Obligations.EvaluationStopsAndPasses := by
  unfold Obligations.EvaluationStopsAndPasses
  intro s runs one
  have tidy := State.tidy_of_sound runs one
  obtain ⟨-, results⟩ := runs
  have open' : ∀ r ∈ s.rm.pool, r.state ≠ .closing .ending → r.endResult = none := by
    intro r live other
    obtain ⟨-, -, ended⟩ := results r live
    cases result : r.endResult with
    | none => rfl
    | some e => exact absurd (ended.1 (by rw [result]; rfl)) other
  refine ⟨fun n => ⟨Iff.rfl, ?_, Iff.rfl⟩, fun a v => ⟨?_, ?_, ?_, ?_⟩, fun h => findRun_isNone, rfl, fun g => rfl, rfl,
    tidy.evaluate_stopped, tidy.evaluate_gated, fun r live stop => ⟨fun waits => ?_, fun flows _ drives slow => ?_,
      fun q closes none => tidy.stopped_closing live stop none closes⟩, fun r live gated calm holds => ?_,
    fun a seq set clear hears => flagFrame_evaluated tidy hears⟩
  · show (!s.ct.flags.getLsbD n.val) = true ↔ _
    rw [Bool.not_eq_true']
  · refine (s.gateHolds_gauge a .eq v).trans ?_
    simp only [Comparison.holds, beq_iff_eq]
  · refine (s.gateHolds_gauge a .ne v).trans ?_
    simp only [Comparison.holds, bne_iff_ne]
  · refine (s.gateHolds_gauge a .ge v).trans ?_
    simp only [Comparison.holds, decide_eq_true_eq]
  · refine (s.gateHolds_gauge a .lt v).trans ?_
    simp only [Comparison.holds, decide_eq_true_eq]
  · refine tidy.stopped_waiting live stop (open' r live fun ends => ?_) waits
    rcases waits with state | state | state <;> rw [state] at ends <;> cases ends
  · exact tidy.stopped_flowing live stop (open' r live (by rw [flows]; nofun)) flows drives slow
  · obtain ⟨x, hx, handle, satisfied, state⟩ := tidy.evaluate_passes live gated calm holds
    refine ⟨x, hx, handle, satisfied, ?_⟩
    rcases state with e | e <;> rw [e] <;> nofun

end Sys2Proof
end

section
/-!
SUPPORT. What a recomputation reads (R21–R32), and its notices on one channel (R34–R36): a channel whose entry has been latched
opens, one whose entry is not placed closes, and neither is touched by the notices to the others.
-/

namespace Sys2Proof.Machine

variable {s t : State}

/-! ### What an allocation reads -/

/-- What an allocation reads of a member. -/
def Member.share (m : Member) : Nat × Nat := (m.weight, m.cap)

/-- What an allocation reads beside the entries. -/
structure Grounds (s t : State) : Prop where
  view : t.ct.capacityView = s.ct.capacityView
  pointers : t.ct.pointers = s.ct.pointers
  orphans : t.mu.orphans = s.mu.orphans
  halt : t.hu.halt = s.hu.halt
  own : t.own = s.own
  shares : ∀ a, (t.member a).map Member.share = (s.member a).map Member.share

theorem Grounds.refl (s : State) : Grounds s s := ⟨rfl, rfl, rfl, rfl, rfl, fun _ => rfl⟩

theorem Grounds.symm (h : Grounds s t) : Grounds t s :=
  ⟨h.view.symm, h.pointers.symm, h.orphans.symm, h.halt.symm, h.own.symm, fun a => (h.shares a).symm⟩

theorem Grounds.trans {u : State} (h : Grounds s t) (k : Grounds t u) : Grounds s u :=
  ⟨k.view.trans h.view, k.pointers.trans h.pointers, k.orphans.trans h.orphans, k.halt.trans h.halt, k.own.trans h.own,
    fun a => (k.shares a).trans (h.shares a)⟩

theorem targetWalk_congr {x y : Roster} (same : ∀ a : Addr, (y[a.val]).map Member.share = (x[a.val]).map Member.share)
    (effective : Nat) (table : Table) (pointers : Vector Addr 4) :
    targetWalk effective table y pointers = targetWalk effective table x pointers := by
  have weighted : ∀ (p : Addr) (l : Level) (cls : Entry → Bool), rotationOrder table y p l cls = rotationOrder table x p l cls := by
    intro p l cls
    have queue : ∀ a : Addr, (y[a.val]).map (fun m => (a, m.weight, channelsOf (table[a.val]) l cls)) =
        (x[a.val]).map fun m => (a, m.weight, channelsOf (table[a.val]) l cls) := by
      intro a
      have e := congrArg (Option.map fun w : Nat × Nat => (a, w.1, channelsOf (table[a.val]) l cls)) (same a)
      rw [Option.map_map, Option.map_map] at e
      exact e
    unfold rotationOrder
    rw [funext queue]
  have caps : mapVec (fun m : Option Member => m.elim 0 Member.cap) y = mapVec (fun m : Option Member => m.elim 0 Member.cap) x := by
    ext1 i hi
    rw [mapVec_get, mapVec_get]
    have e := congrArg (fun o : Option (Nat × Nat) => o.elim 0 Prod.snd) (same ⟨i, hi⟩)
    dsimp only at e
    revert e
    cases y[i] <;> cases x[i] <;> exact id
  unfold targetWalk candidateOrder Walk.start
  simp only [caps, weighted]

/-- An allocation reads the entries and `Grounds` alone. -/
theorem Grounds.allocate (h : Grounds s t) (table : t.ct.table = s.ct.table) : t.allocate = s.allocate := by
  have frozen : t.frozen = s.frozen := by
    unfold State.frozen
    rw [h.orphans]
  have cleared : t.clearedTable = s.clearedTable := by
    unfold State.clearedTable
    rw [frozen, h.halt, table]
  unfold State.allocate
  dsimp only
  rw [cleared, frozen, h.view, h.orphans, h.halt, h.own, h.pointers, targetWalk_congr h.shares]

theorem Grounds.recomputedFrom {pre : Table} (h : Grounds s t) (before : s.ct.table = pre)
    (table : t.ct.table = s.allocate.table) (result : t.alloc = s.allocate.result) : t.RecomputedFrom pre := by
  have ground : Grounds s ({ t with ct := { t.ct with table := pre } } : State) :=
    ⟨h.view, h.pointers, h.orphans, h.halt, h.own, h.shares⟩
  have same := ground.allocate before.symm
  unfold State.RecomputedFrom
  rw [same]
  exact ⟨table, result⟩

theorem grounds_settle (u : State) (b : Bool) : Grounds u (u.recompute.evaluateIf b) := by
  have ct := (State.evaluateIf_ct u.recompute b).trans u.recompute_ct
  have mu := (State.evaluateIf_mu u.recompute b).trans u.recompute_mu
  have hu := (State.evaluateIf_hu u.recompute b).trans u.recompute_hu
  have straps := (straps_of_bare (State.evaluateIf_bare u.recompute b)).trans u.recompute_straps
  refine ⟨by rw [ct], by rw [ct], by rw [mu], by rw [hu], by unfold State.own; rw [straps], fun a => ?_⟩
  unfold State.member
  rw [mu]

theorem view_of_adoption {x y : ClaimUnit} {b : Bool} (same : { x with adoptionPending := b } = y) :
    x.capacityView = y.capacityView := by have e := congrArg ClaimUnit.capacityView same; exact e

theorem announcedSet_of_adoption {x y : ClaimUnit} {b : Bool} (same : { x with adoptionPending := b } = y) :
    x.announcedSet = y.announcedSet := by have e := congrArg ClaimUnit.announcedSet same; exact e

theorem grounds_rested (u : State) : Grounds u u.rested := by
  obtain ⟨b, hu⟩ := u.rested_hu
  refine ⟨view_of_adoption u.rested_ct, u.rested_pointers, u.rested_orphans, by rw [hu],
    by unfold State.own; rw [u.rested_straps], fun a => ?_⟩
  have e := congrArg (Option.map Member.share) (u.rested_member a)
  rw [Option.map_map, Option.map_map] at e
  exact e

/-- R20, R22: the end of a frame shows the marks and the result of its recomputation. -/
theorem recomputedFrom_rested (u : State) (b : Bool) : ((u.recompute.evaluateIf b).rested).RecomputedFrom u.ct.table := by
  have ground := (grounds_settle u b).trans (grounds_rested _)
  have table : (u.recompute.evaluateIf b).ct.table = u.allocate.table := by
    rw [State.evaluateIf_ct, u.recompute_ct]
  have result : (u.recompute.evaluateIf b).alloc = u.allocate.result :=
    (alloc_of_bare (State.evaluateIf_bare _ b)).trans u.recompute_alloc
  exact ground.recomputedFrom rfl ((State.rested_table _).trans table) ((State.rested_alloc _).trans result)

theorem says_settle (u : State) (b : Bool) (a : Addr) (c : Chan) : ((u.recompute.evaluateIf b).rested).says a c = u.says a c := by
  unfold State.says
  rw [State.rested_table, State.evaluateIf_ct, slot_recompute, Option.map_map]
  exact congrArg (Option.map · _) (funext fun e => u.remark_said _ e)

/-! ### The notices on one channel -/

/-- The notice that a channel is given, if any. -/
def State.notice (s : State) (granted revoked : List Chan) (c : Chan) : State :=
  if c ∈ granted then s.grantNotice c else if c ∈ revoked then s.revocationNotice c else s

/-- The scope of one channel. -/
def Scope.only (c : Chan) : Scope := ⟨fun _ => False, (· = c), fun _ => False, (· = c)⟩

/-- The scope of every channel but one. -/
def Scope.but (c : Chan) : Scope := ⟨fun _ => False, (· ≠ c), fun _ => False, (· ≠ c)⟩

theorem Stirs.notice (tidy : s.Tidy) {p : Scope} {c : Chan} (here : p.at' c) (may : p.opens c) (granted revoked : List Chan) :
    Stirs p s (s.notice granted revoked c) := by
  unfold State.notice
  split
  · exact Stirs.grantNotice here may
  · split
    · exact Stirs.revocationNotice tidy here
    · exact .refl s

/-- The notices reach a channel in a state in which they have touched only others, and go on over others. -/
theorem State.Tidy.notices_at (tidy : s.Tidy) (granted revoked : List Chan) (c : Chan) : ∃ u,
    Stirs (Scope.but c) s u ∧ Stirs (Scope.but c) (u.notice granted revoked c) (s.notices granted revoked) := by
  obtain ⟨front, rest, cut⟩ := List.append_of_mem (mem_allChans c)
  have nodup : allChans.Nodup := by decide
  rw [cut] at nodup
  obtain ⟨-, tail, apart⟩ := List.nodup_append.1 nodup
  have others : ∀ (u : State) (ds : List Chan), u.Tidy → (∀ d ∈ ds, d ≠ c) →
      Stirs (Scope.but c) u (ds.foldl (fun v d => v.notice granted revoked d) u) := fun u ds neat other =>
    Stirs.fold _ ds (fun v d member neat => Stirs.notice neat (other d member) (other d member) granted revoked) neat
  have before := others s front tidy fun d member => apart d member c List.mem_cons_self
  refine ⟨_, before, ?_⟩
  have neat := before.tidy tidy
  have here := Stirs.notice (p := Scope.only c) neat (c := c) rfl rfl granted revoked
  have after := others _ rest (here.tidy neat) fun d member same => by
    subst same
    exact (List.nodup_cons.1 tail).1 member
  unfold State.notices
  rw [cut, List.foldl_append]
  exact after

theorem head_elsewhere {p : Scope} (chain : Stirs p s t) (tidy : s.Tidy) {c : Chan} (apart : ¬ p.at' c) : t.head c = s.head c := by
  obtain ⟨-, mem⟩ := chain.elsewhere tidy apart
  cases head : s.head c with
  | none =>
    refine List.find?_eq_none.2 fun q live => ?_
    rw [Bool.and_eq_true, beq_iff_eq]
    rintro ⟨here, isHead⟩
    rw [State.no_head_of_none head q ((mem q here).1 live) here] at isHead
    cases isHead
  | some r =>
    obtain ⟨live, here, isHead⟩ := State.mem_of_head head
    rw [← here]
    exact (chain.tidy tidy).head_eq ((mem r here).2 live) isHead

theorem canOpen_congr {c : Chan} (station : t.mu.station = s.mu.station)
    (chan : t.chan c = s.chan c) (head : t.head c = s.head c)
    (same : (slot t.ct.table t.own c).map Entry.said = (slot s.ct.table s.own c).map Entry.said) : t.canOpen c = s.canOpen c := by
  unfold State.canOpen
  dsimp only
  rw [station, chan, head]
  refine congrArg (and _) ?_
  cases s.head c with
  | none => rfl
  | some r =>
    revert same
    cases slot t.ct.table t.own c with
    | none =>
      cases slot s.ct.table s.own c with
      | none => exact fun _ => rfl
      | some e => nofun
    | some d =>
      cases slot s.ct.table s.own c with
      | none => nofun
      | some e =>
        intro same
        have both : d.said = e.said := Option.some.inj same
        have level : d.level = e.level := congrArg Prod.fst both
        have demand : d.demand = e.demand := congrArg (fun x : Level × Nat × Phase => x.2.1) both
        dsimp only
        rw [level, demand]

section
variable {c : Chan}

/-- R35, R71: a grant notice opens the valve of a channel that may open. -/
theorem State.grantNotice_opens (can : s.canOpen c = true) : ((s.grantNotice c).chan c).valve = .opening := by
  obtain ⟨-, -, -, -, r, -, head, -⟩ := State.of_canOpen can
  unfold State.grantNotice
  rw [if_pos can, head]
  dsimp only
  have chan := chan_of_mute (State.announce_mute ((s.setRunState r.handle .flowing).setChan c (s.chan c).beginOpen) c) c
  rw [State.chan_setChan_same] at chan
  exact valve_of_mute chan

/-- R36, R49, R72: a revocation notice closes the valve of a channel whose head flows, where no end switch confirms. -/
theorem State.revocationNotice_shuts {r : Run} (head : s.head c = some r) (flows : r.state = .flowing)
    (drives : (s.chan c).valve.driven = true) (slow : (s.chan c).confirmed = false) :
    ((s.revocationNotice c).chan c).Shutting (some (s.chan c).closeLoad) := by
  obtain ⟨-, here, -⟩ := State.mem_of_head head
  subst here
  have begun := (State.demandClose_of_flowing head flows .revoked rfl).1 fun shuts => by
    rw [shuts.confirmed] at slow
    cases slow
  have chan := chan_of_mute (State.queueCurrent_mute (s.demandClose r.channel .revoked) r.channel) r.channel
  refine Channel.Shutting.of_mute chan ?_
  rw [begun]
  unfold State.begun
  rw [State.chan_setChan_same]
  exact Channel.beginClose_shutting drives

end

/-- The state of a recomputation in which its notices are taken. -/
def State.written (s : State) : State := (s.setTable s.allocate.table).setAlloc s.allocate.result

theorem State.recompute_eq (s : State) : s.recompute =
    s.written.notices s.allocate.granted (allChans.filter s.written.revoked) := rfl

section
variable (s : State)

theorem State.written_rm : s.written.rm = s.rm := by unfold State.written; generalize s.allocate = a; rfl
theorem State.written_mu : s.written.mu = s.mu := by unfold State.written; generalize s.allocate = a; rfl
theorem State.written_straps : s.written.straps = s.straps := by unfold State.written; generalize s.allocate = a; rfl
theorem State.written_chan (c : Chan) : s.written.chan c = s.chan c := by unfold State.written; generalize s.allocate = a; rfl
theorem State.written_head (c : Chan) : s.written.head c = s.head c := by unfold State.written; generalize s.allocate = a; rfl
theorem State.written_own : s.written.own = s.own := by unfold State.written; generalize s.allocate = a; rfl
theorem State.written_table : s.written.ct.table = s.allocate.table := by unfold State.written; generalize s.allocate = a; rfl

end

theorem State.Tidy.written (tidy : s.Tidy) : s.written.Tidy :=
  tidy_of_rm (s := s) (congrArg RunUnit.pool s.written_rm) tidy

section
variable (tidy : s.Tidy) {c : Chan}
include tidy

/-- R30, R35: a channel that may open and whose own entry a recomputation latches opens. -/
theorem State.Tidy.recompute_opens (can : s.canOpen c = true) (fresh : ∀ e ∈ slot s.ct.table s.own c, e.latched = false)
    (latched : ∃ e ∈ slot s.allocate.table s.own c, e.latched = true) : (s.recompute.chan c).valve = .opening := by
  have granted : c ∈ s.allocate.granted := by
    obtain ⟨e, found, marked⟩ := latched
    rw [slot_allocate] at found
    obtain ⟨o, old, rfl⟩ := Option.map_eq_some_iff.1 found
    rw [s.remark_latched, fresh o old, Bool.and_false, Bool.false_or, Bool.and_eq_true, Bool.and_eq_true] at marked
    obtain ⟨⟨latches, placed⟩, asks⟩ := marked
    rw [s.allocate_granted, if_pos latches]
    refine List.mem_filter.2 ⟨mem_allChans c, ?_⟩
    rw [slot_placed, old]
    have unlatched : (s.placing (s.own, c) o).latched = false := by
      rw [s.placing_latched, fresh o old, Bool.and_false]
    have phase : (s.placing (s.own, c) o).phase = o.phase :=
      congrArg (fun x : Level × Nat × Phase => x.2.2) (s.placing_said (s.own, c) o)
    have set : (s.placing (s.own, c) o).placed = true := placed
    show (s.placing (s.own, c) o).qualifies = true
    unfold Entry.qualifies
    rw [unlatched, phase, set, asks]
    rfl
  rw [s.recompute_eq]
  have neat := tidy.written
  obtain ⟨u, before, after⟩ := neat.notices_at s.allocate.granted (allChans.filter s.written.revoked) c
  have neat1 := before.tidy neat
  have only := Stirs.notice (p := Scope.only c) neat1 (c := c) rfl rfl s.allocate.granted (allChans.filter s.written.revoked)
  obtain ⟨later, -⟩ := after.elsewhere (only.tidy neat1) (c := c) fun other => other rfl
  obtain ⟨earlier, -⟩ := before.elsewhere neat (c := c) fun other => other rfl
  have may : u.canOpen c = true := by
    rw [← can]
    have table : u.ct.table = s.allocate.table := by rw [ct_of_bare before.bare, s.written_table]
    have own : u.own = s.own := by
      unfold State.own
      rw [straps_of_bare before.bare, s.written_straps]
    refine canOpen_congr ?_ (earlier.trans (s.written_chan c)) ?_ ?_
    · rw [mu_of_bare before.bare, s.written_mu]
    · exact (head_elsewhere before neat (c := c) fun other => other rfl).trans (s.written_head c)
    · rw [table, own, slot_allocate, Option.map_map]
      exact congrArg (Option.map · _) (funext fun e => s.remark_said _ e)
  rw [later]
  unfold State.notice
  rw [if_pos granted]
  exact State.grantNotice_opens may

/-- R34, R36: a channel whose head flows and whose own entry a recomputation does not place closes. -/
theorem State.Tidy.recompute_shuts {r : Run} (head : s.head c = some r) (flows : r.state = .flowing)
    (slow : (s.chan c).confirmed = false) (drives : (s.chan c).valve.driven = true) (unplaced : ∀ e ∈ slot s.allocate.table s.own c, e.placed = false) :
    (s.recompute.chan c).Shutting (some (s.chan c).closeLoad) := by
  have not : c ∉ s.allocate.granted := by
    rw [s.allocate_granted]
    split
    · intro member
      obtain ⟨-, any⟩ := List.mem_filter.1 member
      rw [slot_placed, Option.any_map, Option.any_eq_true] at any
      obtain ⟨o, old, qualifies⟩ := any
      have placed : (s.placing (s.own, c) o).placed = true := by
        have q : (s.placing (s.own, c) o).qualifies = true := qualifies
        unfold Entry.qualifies at q
        rw [Bool.and_eq_true, Bool.and_eq_true] at q
        exact q.1.1
      have set : (s.remark (s.own, c) o).placed = true := (s.remark_placed _ o).trans placed
      have found : slot s.allocate.table s.own c = some (s.remark (s.own, c) o) := by
        rw [slot_allocate, Option.mem_def.1 old, Option.map_some]
      rw [unplaced _ found] at set
      cases set
    · nofun
  have revoked : c ∈ allChans.filter s.written.revoked := by
    refine List.mem_filter.2 ⟨mem_allChans c, ?_⟩
    unfold State.revoked
    rw [s.written_head, head, s.written_table, s.written_own, Option.any_some]
    rw [flows, BEq.rfl, Bool.true_and, Bool.not_eq_true', Bool.eq_false_iff, ne_eq, Option.any_eq_true]
    rintro ⟨e, found, placed⟩
    rw [unplaced e found] at placed
    cases placed
  rw [s.recompute_eq]
  have neat := tidy.written
  obtain ⟨u, before, after⟩ := neat.notices_at s.allocate.granted (allChans.filter s.written.revoked) c
  have neat1 := before.tidy neat
  have only := Stirs.notice (p := Scope.only c) neat1 (c := c) rfl rfl s.allocate.granted (allChans.filter s.written.revoked)
  obtain ⟨later, -⟩ := after.elsewhere (only.tidy neat1) (c := c) fun other => other rfl
  obtain ⟨earlier, -⟩ := before.elsewhere neat (c := c) fun other => other rfl
  have chan : u.chan c = s.chan c := earlier.trans (s.written_chan c)
  rw [later]
  unfold State.notice
  rw [if_neg not, if_pos revoked, ← chan]
  refine State.revocationNotice_shuts (r := r) ?_ flows (by rw [chan]; exact drives) (by rw [chan]; exact slow)
  rw [head_elsewhere before neat (c := c) fun other => other rfl, s.written_head]
  exact head

end

/-! ### An evaluation with nothing to do -/

theorem State.evaluate_of_idle (idle : ∀ r ∈ s.rm.pool, r.stopFlag = none ∧ r.state ≠ .gated) : s.evaluate = s := by
  have nothing : s.stopping = [] := by
    refine List.eq_nil_iff_forall_not_mem.2 fun h member => ?_
    obtain ⟨r, live, -, stop, -⟩ := mem_stopping.1 member
    rw [(idle r live).1] at stop
    cases stop
  have watch : s.stopWatch = s := by
    unfold State.stopWatch
    rw [nothing]
    rfl
  have none : ∀ r ∈ s.rm.pool, s.passes r = false := fun r live =>
    Bool.eq_false_iff.2 fun passes => (idle r live).2 (State.passes_iff.1 passes).1
  have pool : s.rm.pool.map (fun r => if s.passes r then passGate r else r) = s.rm.pool :=
    (List.map_congr_left fun r live => if_neg (by rw [none r live]; nofun)).trans (List.map_id _)
  have chans : channelsWhere s.rm.pool s.passes = [] := by
    refine List.filter_eq_nil_iff.2 fun c _ any => ?_
    obtain ⟨r, live, both⟩ := List.any_eq_true.1 any
    rw [none r live, Bool.and_false] at both
    cases both
  unfold State.evaluate
  rw [watch]
  unfold State.gateTest
  rw [pool, chans]
  rfl

theorem State.evaluateIf_of_idle (b : Bool) (idle : ∀ r ∈ s.rm.pool, r.stopFlag = none ∧ r.state ≠ .gated) :
    s.evaluateIf b = s := by
  unfold State.evaluateIf
  rw [State.evaluate_of_idle idle]
  exact ite_self s

theorem Stirs.idle {p : Scope} (chain : Stirs p s t) (tidy : s.Tidy) (idle : ∀ r ∈ s.rm.pool, r.stopFlag = none ∧ r.state ≠ .gated) :
    ∀ r ∈ t.rm.pool, r.stopFlag = none ∧ r.state ≠ .gated := by
  intro r live
  obtain ⟨x, hx, same⟩ := chain.idents tidy r live
  refine ⟨?_, fun gated => ?_⟩
  · have flag : x.stopFlag = r.stopFlag := by have e := congrArg Run.stopFlag same; exact e
    rw [← flag]
    exact (idle x hx).1
  · obtain ⟨y, hy, waits, -⟩ := chain.gated_before tidy r live gated
    exact (idle y hy).2 waits

theorem State.Tidy.recompute_chain (tidy : s.Tidy) :
    Stirs ⟨fun _ => False, fun _ => True, fun _ => False, fun _ => True⟩ s.written s.recompute := by
  rw [s.recompute_eq]
  exact Stirs.notices tidy.written (fun _ => trivial) _ _ fun _ _ => trivial

theorem State.recompute_idle (s : State) (tidy : s.Tidy) (idle : ∀ r ∈ s.rm.pool, r.stopFlag = none ∧ r.state ≠ .gated) :
    ∀ r ∈ s.recompute.rm.pool, r.stopFlag = none ∧ r.state ≠ .gated :=
  tidy.recompute_chain.idle tidy.written (by rw [s.written_rm]; exact idle)

theorem State.recompute_chan_bare (s : State) (c : Chan) : (s.recompute.chan c).bare = (s.chan c).bare := by
  have unmoved : ∀ t r, ((s.setTable t).setAlloc r).chan c = s.chan c := fun _ _ => rfl
  have same := chan_of_bare s.recompute_bare c
  rwa [unmoved] at same

/-! ### The notices of an applied frame -/

theorem chan_of_chans (same : t.chans = s.chans) (c : Chan) : t.chan c = s.chan c := by
  unfold State.chan
  rw [same]

/-- A valve that closes as the recomputation of a frame begins goes on closing. -/
theorem shutting_rested {u : State} (b : Bool) {c : Chan} {load : Option Nat} (slow : (u.chan c).confirmed = false)
    (shutting : (u.chan c).Shutting load) : (((u.recompute.evaluateIf b).rested).chan c).Shutting load := by
  have held := ((Held.recompute u).trans (Held.evaluateIf _ b)) ⟨shutting.1, slow⟩
  exact Channel.Shutting.of_mute ((State.rested_chan _ c).trans held) shutting

section
variable {u : State} {b : Bool}

/-- A latched entry at the end of a frame: no mark is set while the halt state is not NONE. -/
theorem halt_of_latched {c : Chan} {e : Entry} (found : e ∈ slot ((u.recompute.evaluateIf b).rested).ct.table u.own c)
    (latched : e.latched = true) : u.hu.halt = .none := by
  rw [State.rested_table, State.evaluateIf_ct, slot_recompute] at found
  obtain ⟨o, -, rfl⟩ := Option.map_eq_some_iff.1 found
  exact ((u.remark_latched_iff _ o).1 latched).1

theorem own_rested (straps : u.straps = s.straps) : u.own = s.own := by
  unfold State.own
  rw [straps]

theorem slot_rested (a : Addr) (c : Chan) : slot ((u.recompute.evaluateIf b).rested).ct.table a c = slot u.allocate.table a c := by
  rw [State.rested_table, State.evaluateIf_ct, u.recompute_ct]

/-- R34–R36: the notices of a frame whose body leaves runs and valves. -/
theorem noticesTaken_of_plain {pre : Table} (rm : u.rm = s.rm) (chans : u.chans = s.chans)
    (station : u.mu.station = s.mu.station) (straps : u.straps = s.straps) (table : u.ct.table = pre) :
    s.NoticesTaken ((u.recompute.evaluateIf b).rested) pre := by
  subst table
  intro runs one c slow
  have tidy : u.Tidy := tidy_of_rm (s := s) (congrArg RunUnit.pool rm) (State.tidy_of_sound runs one)
  have own := own_rested straps
  have chan := chan_of_chans chans c
  have head : u.head c = s.head c := by unfold State.head; rw [rm]
  rw [← own]
  refine ⟨fun can fresh latched => ?_, fun r found flows drives unplaced => ?_⟩
  · rw [slot_rested] at latched
    have may : u.canOpen c = true := by
      rw [← can]
      exact canOpen_congr station chan head (by rw [own])
    have opens := tidy.recompute_opens may fresh latched
    have neat := tidy.recompute
    have slow' : (u.recompute.chan c).confirmed = false := by
      rw [confirmed_of_bare (u.recompute_chan_bare c), chan]
      exact slow
    have evaluated := Stirs.evaluateIf (p := Scope.ending fun _ => True) (Scope.ending_wide _) neat (fun _ _ => trivial) b
    rw [valve_of_mute (State.rested_chan _ c)]
    refine ⟨evaluated.opening slow' (.inl opens), fun idle => ?_⟩
    have calm : u.recompute.evaluateIf b = u.recompute := State.evaluateIf_of_idle b (u.recompute_idle tidy (by rw [rm]; exact idle))
    rw [calm]
    exact opens
  · have unplaced' : ∀ e ∈ slot u.allocate.table u.own c, e.placed = false := fun e found =>
      unplaced e (by rw [slot_rested]; exact found)
    rw [← chan] at drives slow ⊢
    rw [← head] at found
    have shuts := tidy.recompute_shuts found flows slow drives unplaced'
    have slow' : (u.recompute.chan c).confirmed = false := by
      rw [confirmed_of_bare (u.recompute_chan_bare c)]
      exact slow
    have held := Held.evaluateIf (c := c) u.recompute b ⟨shuts.1, slow'⟩
    exact Channel.Shutting.of_mute ((State.rested_chan _ c).trans held) shuts

/-- R34–R36: the notices of a frame whose body closes every valve as it enters HALTED. -/
theorem noticesTaken_of_halted {pre : Table} (halt : u.hu.halt ≠ .none) (straps : u.straps = s.straps)
    (shut : s.RunsSound → s.OneHead → ∀ c : Chan, (s.chan c).confirmed = false → ∀ r ∈ s.head c, r.state = .flowing →
      (s.chan c).valve.driven = true →
      (u.chan c).confirmed = false ∧ (u.chan c).Shutting (some (s.chan c).closeLoad)) :
    s.NoticesTaken ((u.recompute.evaluateIf b).rested) pre := by
  intro runs one c slow
  rw [← own_rested straps]
  refine ⟨fun _ _ ⟨e, found, latched⟩ => absurd (halt_of_latched found latched) halt, fun r found flows drives _ => ?_⟩
  obtain ⟨slow', shutting⟩ := shut runs one c slow r found flows drives
  exact shutting_rested b slow' shutting

end

end Sys2Proof.Machine
end

section
/-!
SUPPORT. The notices of a recomputation read neither the halt unit nor when a member was last heard: taken in a state that differs
in these alone they give the same runs and valves.
-/

namespace Sys2Proof.Machine

/-- `z` with the roster, the halt unit, the events and, but for the outbound set, the bus of `x`. -/
def State.veil (x z : State) : State :=
  { z with
    mu := { z.mu with roster := x.mu.roster }
    bus := { x.bus with outbound := z.bus.outbound }
    hu := x.hu
    events := x.events }

section
variable (x z : State)

theorem veil_enqueue (f : OutFrame) : (x.veil z).enqueue f = x.veil (z.enqueue f) := by
  show (if z.mu.station.takes f then _ else _) = x.veil (if z.mu.station.takes f then _ else _)
  split <;> rfl

theorem veil_queueClaim (c : Chan) (k : ClaimContent) : (x.veil z).queueClaim c k = x.veil (z.queueClaim c k) := by
  show (if z.mu.station.silent then _ else State.setChan ((x.veil z).enqueue _) c _) =
    x.veil (if z.mu.station.silent then _ else _)
  rw [veil_enqueue]
  split <;> rfl

theorem veil_announce (c : Chan) : (x.veil z).announce c = x.veil (z.announce c) := by
  unfold State.announce
  rw [show (x.veil z).derive c = z.derive c from rfl, show (x.veil z).chan c = z.chan c from rfl]
  cases z.derive c with
  | none =>
    cases (z.chan c).announced with
    | gone l => rfl
    | live k => exact veil_queueClaim x z c _
  | some d =>
    cases (z.chan c).announced with
    | gone l => exact veil_queueClaim x z c _
    | live k =>
      dsimp only
      split
      · rfl
      · exact veil_queueClaim x z c _

theorem veil_queueCurrent (c : Chan) : (x.veil z).queueCurrent c = x.veil (z.queueCurrent c) := by
  unfold State.queueCurrent
  rw [show (x.veil z).derive c = z.derive c from rfl, show (x.veil z).bus.outbound = z.bus.outbound from rfl]
  cases z.derive c with
  | some d => exact veil_queueClaim x z c _
  | none =>
    dsimp only
    cases pendingClaim z.bus.outbound c with
    | none => exact veil_queueClaim x z c _
    | some k => cases k <;> exact veil_queueClaim x z c _

theorem veil_queueDeparture (r : Run) : (x.veil z).queueDeparture r = x.veil (z.queueDeparture r) := by
  unfold State.queueDeparture
  dsimp only
  rw [show (x.veil z).chan r.channel = z.chan r.channel from rfl, show (x.veil z).head r.channel = z.head r.channel from rfl]
  cases (z.chan r.channel).valve with
  | closed =>
    cases (z.chan r.channel).inFault <;> cases z.head r.channel <;> exact veil_queueClaim x z _ _
  | closing => exact veil_queueClaim x z _ _
  | stuck => exact veil_queueClaim x z _ _
  | _ => rfl

theorem veil_pickHead (c : Chan) : (x.veil z).pickHead c = x.veil (z.pickHead c) := by
  unfold State.pickHead
  rw [show (x.veil z).rm.pool = z.rm.pool from rfl]
  cases firstEligible z.rm.pool c <;> rfl

theorem veil_requeue (c : Chan) (h : Nat) : (x.veil z).requeue c h = x.veil (z.requeue c h) :=
  veil_pickHead x (z.setRunState h .queued) c

theorem veil_preempt (c : Chan) (r : Run) : (x.veil z).preempt c r = x.veil (z.preempt c r) := by
  unfold State.preempt
  dsimp only
  rw [show ∀ h f, ((x.veil z).modRun h f).chan c = z.chan c from fun _ _ => rfl,
    show ∀ h f, (z.modRun h f).chan c = z.chan c from fun _ _ => rfl]
  split
  · exact veil_requeue x ((z.modRun r.handle Run.preempted).setChan c (z.chan c).beginClose.endClose) c r.handle
  · rfl

theorem veil_headSelect (c : Chan) : (x.veil z).headSelect c = x.veil (z.headSelect c) := by
  unfold State.headSelect
  rw [show (x.veil z).head c = z.head c from rfl, show (x.veil z).rm.pool = z.rm.pool from rfl]
  cases z.head c with
  | none => exact veil_pickHead x z c
  | some a =>
    dsimp only
    cases a.state <;> cases firstEligible z.rm.pool c <;> first | rfl | skip
    · dsimp only
      split <;> rfl
    · dsimp only
      split
      · rfl
      · exact veil_preempt x z c a

theorem veil_fold {α : Type} (op : State → α → State) (each : ∀ z a, op (x.veil z) a = x.veil (op z a)) (xs : List α) (z : State) :
    xs.foldl op (x.veil z) = x.veil (xs.foldl op z) := by
  induction xs generalizing z with
  | nil => rfl
  | cons a xs ih => rw [List.foldl_cons, List.foldl_cons, each, ih]

theorem veil_releaseWaiting (h : Nat) : (x.veil z).releaseWaiting h = x.veil (z.releaseWaiting h) :=
  veil_fold x State.headSelect (veil_headSelect x) _ (z.setPool (z.rm.pool.map fun r => if waitsOn h r then passGate r else r))

theorem veil_depart (h : Nat) (b : Bool) : (x.veil z).depart h b = x.veil (z.depart h b) := by
  unfold State.depart
  rw [show (x.veil z).rm.pool = z.rm.pool from rfl]
  cases findRun z.rm.pool h with
  | none => rfl
  | some r =>
    dsimp only
    rw [show (x.veil z).removeRun r b = x.veil (z.removeRun r b) from rfl, veil_releaseWaiting, veil_headSelect,
      veil_queueDeparture]
    split <;> rfl

theorem veil_dismissHead (c : Chan) (b : Bool) : (x.veil z).dismissHead c b = x.veil (z.dismissHead c b) := by
  unfold State.dismissHead
  rw [show (x.veil z).head c = z.head c from rfl]
  cases z.head c with
  | none => rfl
  | some r =>
    dsimp only
    cases r.state with
    | closing q => cases q <;> first | exact veil_depart x z _ b | exact veil_requeue x z c _
    | _ => rfl

theorem veil_demandClose (c : Chan) (q : Purpose) : (x.veil z).demandClose c q = x.veil (z.demandClose c q) := by
  by_cases flows : ∃ r ∈ z.head c, r.state = .flowing
  · obtain ⟨r, head, flows⟩ := flows
    obtain ⟨-, here, -⟩ := State.mem_of_head head
    obtain ⟨slow, fast⟩ := State.demandClose_of_flowing head flows q here
    obtain ⟨slow', fast'⟩ := State.demandClose_of_flowing (s := x.veil z) head flows q here
    by_cases shuts : (z.chan c).shuts
    · rw [fast shuts, fast' shuts]
      exact veil_dismissHead x ((z.begun r q).setChan c (z.chan c).beginClose.endClose) c false
    · rw [slow shuts, slow' shuts]
      rfl
  · rw [State.demandClose_of_other (s := x.veil z) fun r head flowing => flows ⟨r, head, flowing⟩,
      State.demandClose_of_other fun r head flowing => flows ⟨r, head, flowing⟩]

theorem veil_grantNotice (c : Chan) : (x.veil z).grantNotice c = x.veil (z.grantNotice c) := by
  unfold State.grantNotice
  rw [show (x.veil z).canOpen c = z.canOpen c from rfl, show (x.veil z).head c = z.head c from rfl, veil_queueCurrent]
  split
  · cases z.head c with
    | none => rfl
    | some r => exact veil_announce x ((z.setRunState r.handle .flowing).setChan c (z.chan c).beginOpen) c
  · rfl

theorem veil_revocationNotice (c : Chan) : (x.veil z).revocationNotice c = x.veil (z.revocationNotice c) := by
  unfold State.revocationNotice
  rw [veil_demandClose, veil_queueCurrent]

theorem veil_notices (granted revoked : List Chan) : (x.veil z).notices granted revoked = x.veil (z.notices granted revoked) :=
  veil_fold x (fun s c => s.notice granted revoked c) (fun z c => by
    unfold State.notice
    rw [veil_grantNotice, veil_revocationNotice]
    split
    · rfl
    · split <;> rfl) allChans z

/-- A recomputation that computes the same gives the same runs and valves. -/
theorem veil_recompute (same : (x.veil z).allocate = z.allocate) : (x.veil z).recompute = x.veil z.recompute := by
  have shape : ∀ a : Allocation, (((x.veil z).setTable a.table).setAlloc a.result).notices a.granted
      (allChans.filter (((x.veil z).setTable a.table).setAlloc a.result).revoked) =
      x.veil (((z.setTable a.table).setAlloc a.result).notices a.granted
        (allChans.filter ((z.setTable a.table).setAlloc a.result).revoked)) := fun a =>
    veil_notices x ((z.setTable a.table).setAlloc a.result) _ _
  unfold State.recompute
  rw [same]
  exact shape z.allocate

end

/-- R20, R34: the runs and valves at the end of a frame whose body leaves them and that calls for no evaluation. -/
theorem onlyNotified_of_veil {s u : State} {pre : Table} (veil : u.veil
      ({ s with ct := { s.ct with table := pre, pointers := u.ct.pointers } } : State) = u)
    (ground : Grounds ({ s with ct := { s.ct with table := pre, pointers := u.ct.pointers } } : State) u)
    (table : u.ct.table = pre) : s.OnlyNotified ((u.recompute.evaluateIf false).rested) pre := by
  have pointers : ((u.recompute.evaluateIf false).rested).ct.pointers = u.ct.pointers := by
    rw [State.rested_pointers, State.evaluateIf_ct, u.recompute_ct]
  unfold State.OnlyNotified
  rw [pointers]
  have whole := veil_recompute u ({ s with ct := { s.ct with table := pre, pointers := u.ct.pointers } } : State) (by
    rw [veil]
    exact ground.allocate table)
  rw [veil] at whole
  generalize ({ s with ct := { s.ct with table := pre, pointers := u.ct.pointers } } : State).recompute = v at whole
  have calm : u.recompute.evaluateIf false = u.recompute := rfl
  rw [calm, State.rested_rm, whole]
  refine ⟨rfl, fun c => ?_⟩
  rw [valve_of_mute (State.rested_chan _ c)]
  rfl

end Sys2Proof.Machine
end

section
/-!
SUPPORT. CLAIM, FLAG and GAUGE frames (R3, R10, R11): what each writes, and what the recomputation that follows shows of it.
-/

namespace Sys2Proof.Machine

variable {s u : State}

/-! ### CLAIM -/

/-- The state in which a frame has written entries and pointers. -/
def State.claimed (s : State) (table : Table) (pointers : Vector Addr 4) : State :=
  s.setCt { s.ct with table := table, pointers := pointers }

section
variable {c : Chan} {l : Level} {channel level demand phase cause : Byte} (a : Addr) (chan : toChan channel = some c)
  (lev : toLevel level = some l)
include chan lev

theorem State.applyClaim_of_live {d : Nat} {p : Phase} (dem : toDemand demand = some d) (ph : toPhase phase.toNat = some p) :
    s.applyClaim a channel level demand phase cause = s.setTable (setSlot s.ct.table a c (some ⟨l, d, p, false, false⟩)) := by
  have live : phase ≠ 0 := fun zero => by
    subst zero
    cases ph
  unfold State.applyClaim
  rw [chan, lev]
  dsimp only
  rw [if_neg live, ph, dem]

theorem State.applyClaim_of_gone {k : GoneCause} (zero : phase = 0) (gone : toCause cause.toNat = some k) :
    s.applyClaim a channel level demand phase cause = s.setCt { s.ct with
      table := setSlot s.ct.table a c none
      pointers := if k = .complete then s.ct.pointers.set l.val (a + 1) else s.ct.pointers } := by
  unfold State.applyClaim
  rw [chan, lev]
  dsimp only
  rw [if_pos zero, gone]
  cases k <;> rfl

end

theorem State.applyClaim_of_bad {channel level demand phase cause : Byte} (a : Addr)
    (bad : toChan channel = none ∨ toLevel level = none ∨ (phase ≠ 0 ∧ toPhase phase.toNat = none) ∨
      (phase ≠ 0 ∧ toDemand demand = none) ∨ (phase = 0 ∧ toCause cause.toNat = none)) :
    s.applyClaim a channel level demand phase cause = s := by
  unfold State.applyClaim
  cases chan : toChan channel with
  | none => rfl
  | some c =>
    cases lev : toLevel level with
    | none => rfl
    | some l =>
      dsimp only
      rw [chan, lev] at bad
      rcases bad with e | e | ⟨live, e⟩ | ⟨live, e⟩ | ⟨gone, e⟩
      · cases e
      · cases e
      · rw [if_neg live, e]
      · rw [if_neg live, e]
        cases toPhase phase.toNat <;> rfl
      · rw [if_pos gone, e]

theorem State.Heard.shares {h : State} {f : Frame} (heard : s.Heard h f) (a : Addr) :
    (h.member a).map Member.share = (s.member a).map Member.share := by
  rw [heard.member]
  split
  · rw [Option.map_map]
    rfl
  · rfl

theorem settle_alloc (u : State) (b : Bool) : ((u.recompute.evaluateIf b).rested).alloc = u.allocate.result :=
  ((State.rested_alloc _).trans (alloc_of_bare (State.evaluateIf_bare _ b))).trans u.recompute_alloc

theorem settle_slot {b : Bool} {a : Addr} {c : Chan} {e : Entry}
    (found : e ∈ slot ((u.recompute.evaluateIf b).rested).ct.table a c) :
    ∃ o, slot u.ct.table a c = some o ∧ e = u.remark (a, c) o := by
  rw [slot_rested, slot_allocate] at found
  obtain ⟨o, old, rfl⟩ := Option.map_eq_some_iff.1 found
  exact ⟨o, old, rfl⟩

section
variable {h : State} {f : Frame} (heard : s.Heard h f) (table : Table) (pointers : Vector Addr 4)
include heard

/-- R20, R34: at the end of a frame that has written entries and pointers, runs and valves are those of the recomputation. -/
theorem claimed_onlyNotified :
    s.OnlyNotified (((h.claimed table pointers).recompute.evaluateIf false).rested) table := by
  refine onlyNotified_of_veil ?_ ⟨?_, rfl, heard.orphans, congrArg HaltUnit.halt heard.hu, own_rested heard.straps,
    heard.shares⟩ rfl
  case refine_2 =>
    show h.ct.capacityView = s.ct.capacityView
    rw [heard.ct]
  have shape := heard.shape
  have outbound := heard.outbound
  generalize h.mu.roster = roster at shape
  generalize h.bus = bus at shape outbound
  subst shape
  unfold State.veil State.claimed
  rw [← outbound]
  rfl

theorem claimed_latched {a : Addr} {c : Chan} {o e : Entry} (entry : slot table a c = some o) (fresh : o.latched = false)
    (found : e ∈ slot (((h.claimed table pointers).recompute.evaluateIf false).rested).ct.table a c) :
    e.latched = true ↔ e.placed = true ∧ o.phase = .asking ∧
      (((h.claimed table pointers).recompute.evaluateIf false).rested).alloc.drain = true ∧ s.hu.halt = .none ∧ s.mu.orphans = [] := by
  obtain ⟨x, old, shape⟩ := settle_slot found
  rw [show (h.claimed table pointers).ct.table = table from rfl] at old
  obtain rfl : o = x := Option.some.inj (entry.symm.trans old)
  have latch := (h.claimed table pointers).remark_latched_iff (a, c) o
  have phase := (h.claimed table pointers).remark_phase (a, c) o
  rw [← shape] at latch phase
  have hu : (h.claimed table pointers).hu = s.hu := heard.hu
  have orphans : (h.claimed table pointers).mu.orphans = s.mu.orphans := heard.orphans
  rw [settle_alloc, latch, hu, orphans, phase, fresh]
  generalize (h.claimed table pointers).allocate.result.drain = drain
  clear latch phase shape found
  tauto

end

section
variable {h : State} {a : Addr} {channel level demand phase cause : Byte}

theorem State.applyClaim_live {c : Chan} {l : Level} {d : Nat} {p : Phase} (chan : toChan channel = some c)
    (lev : toLevel level = some l) (dem : toDemand demand = some d) (ph : toPhase phase.toNat = some p) :
    h.applyClaim a channel level demand phase cause =
      h.claimed (setSlot h.ct.table a c (some ⟨l, d, p, false, false⟩)) h.ct.pointers :=
  State.applyClaim_of_live a chan lev dem ph

theorem State.applyClaim_gone {c : Chan} {l : Level} {k : GoneCause} (chan : toChan channel = some c)
    (lev : toLevel level = some l) (zero : phase = 0) (gone : toCause cause.toNat = some k) :
    h.applyClaim a channel level demand phase cause = h.claimed (setSlot h.ct.table a c none)
      (if k = .complete then h.ct.pointers.set l.val (a + 1) else h.ct.pointers) :=
  State.applyClaim_of_gone a chan lev zero gone

theorem State.applyClaim_bad
    (bad : toChan channel = none ∨ toLevel level = none ∨ (phase ≠ 0 ∧ toPhase phase.toNat = none) ∨
      (phase ≠ 0 ∧ toDemand demand = none) ∨ (phase = 0 ∧ toCause cause.toNat = none)) :
    h.applyClaim a channel level demand phase cause = h.claimed h.ct.table h.ct.pointers :=
  State.applyClaim_of_bad a bad

theorem State.applyClaim_cases (h : State) (a : Addr) (channel level demand phase cause : Byte) : ∃ table pointers,
    h.applyClaim a channel level demand phase cause = h.claimed table pointers := by
  cases chan : toChan channel with
  | none => exact ⟨_, _, State.applyClaim_bad (.inl chan)⟩
  | some c =>
    cases lev : toLevel level with
    | none => exact ⟨_, _, State.applyClaim_bad (.inr (.inl lev))⟩
    | some l =>
      by_cases zero : phase = 0
      · cases gone : toCause cause.toNat with
        | none => exact ⟨_, _, State.applyClaim_bad (.inr (.inr (.inr (.inr ⟨zero, gone⟩))))⟩
        | some k => exact ⟨_, _, State.applyClaim_gone chan lev zero gone⟩
      · cases ph : toPhase phase.toNat with
        | none => exact ⟨_, _, State.applyClaim_bad (.inr (.inr (.inl ⟨zero, ph⟩)))⟩
        | some p =>
          cases dem : toDemand demand with
          | none => exact ⟨_, _, State.applyClaim_bad (.inr (.inr (.inr (.inl ⟨zero, dem⟩))))⟩
          | some d => exact ⟨_, _, State.applyClaim_live chan lev dem ph⟩

end

/-! ### FLAG and GAUGE -/

theorem State.gaugeOf_eq (s : State) (a : Addr) : s.gaugeOf a = ((s.member a).map Member.gauge).join := by
  unfold State.gaugeOf
  cases s.member a <;> rfl

theorem Sights.gaugeOf {s t : State} (h : Sights s t) (a : Addr) : t.gaugeOf a = s.gaugeOf a := by
  rw [State.gaugeOf_eq, State.gaugeOf_eq, h.gauges]

theorem sights_settle (u : State) (b : Bool) : Sights u ((u.recompute.evaluateIf b).rested) :=
  (u.recompute_sights.trans (sights_of_parts (State.evaluateIf_ct _ b) (State.evaluateIf_mu _ b))).trans (State.rested_sights _)

theorem settle_pointers (u : State) (b : Bool) : ((u.recompute.evaluateIf b).rested).ct.pointers = u.ct.pointers :=
  ((grounds_settle u b).trans (grounds_rested _)).pointers

theorem settle_flags (u : State) (b : Bool) : ((u.recompute.evaluateIf b).rested).ct.flags = u.ct.flags :=
  (sights_settle u b).flags

/-- R20, R34: the reallocation of a frame whose body leaves runs, valves and station state. -/
theorem reallocated_of_plain {b : Bool} (rm : u.rm = s.rm) (chans : u.chans = s.chans) (station : u.mu.station = s.mu.station)
    (straps : u.straps = s.straps) : s.Reallocated ((u.recompute.evaluateIf b).rested) u.ct.table :=
  ⟨recomputedFrom_rested u b, noticesTaken_of_plain rm chans station straps rfl⟩

/-! ### The last sender -/

theorem lastSender_of_silenced {a b : BusUnit} (same : { a with outbound := [] } = { b with outbound := [] }) :
    a.lastSender = b.lastSender := by have e := congrArg BusUnit.lastSender same; exact e

theorem silenced_of_bare {s t : State} (same : s.bare = t.bare) : { s.bus with outbound := [] } = { t.bus with outbound := [] } := by
  have e := congrArg State.bus same
  exact e

theorem State.staleTest_silenced (u : State) : { u.staleTest.bus with outbound := [] } = { u.bus with outbound := [] } := by
  rcases u.staleTest_cases with same | ⟨-, -, synced⟩
  · rw [same]
  · rw [synced]
    have mute := u.enterSynced_mute
    generalize u.enterSynced = v at mute
    exact (bus_of_mute mute).trans rfl

theorem State.recompute_silenced (u : State) : { u.recompute.bus with outbound := [] } = { u.bus with outbound := [] } := by
  have bare := u.recompute_bare
  generalize u.recompute = v at bare
  generalize u.allocate = a at bare
  exact (silenced_of_bare bare).trans rfl

theorem State.rested_silenced (u : State) : { u.rested.bus with outbound := [] } = { u.bus with outbound := [] } := by
  have ended := u.staleTest.closing_bus
  unfold State.rested
  generalize u.staleTest.closing = v at ended
  exact ended.trans u.staleTest_silenced

/-- A frame leaves the bus as its body did, the outbound set aside. -/
theorem settle_silenced (u : State) (b : Bool) :
    { ((u.recompute.evaluateIf b).rested).bus with outbound := [] } = { u.bus with outbound := [] } :=
  ((State.rested_silenced _).trans (silenced_of_bare (State.evaluateIf_bare _ b))).trans u.recompute_silenced

theorem settle_lastSender (u : State) (b : Bool) : ((u.recompute.evaluateIf b).rested).bus.lastSender = u.bus.lastSender :=
  lastSender_of_silenced (settle_silenced u b)

/-! ### What a CLAIM frame leaves -/

theorem settle_says (u : State) (b : Bool) (a : Addr) (c : Chan) :
    ((u.recompute.evaluateIf b).rested).says a c = (slot u.ct.table a c).map Entry.said := says_settle u b a c

section
variable (h : State) (table : Table) (pointers : Vector Addr 4)

theorem claimed_flags : (((h.claimed table pointers).recompute.evaluateIf false).rested).ct.flags = h.ct.flags :=
  settle_flags _ _

theorem claimed_pointers : (((h.claimed table pointers).recompute.evaluateIf false).rested).ct.pointers = pointers :=
  settle_pointers _ _

theorem claimed_recomputedFrom :
    (((h.claimed table pointers).recompute.evaluateIf false).rested).RecomputedFrom table := recomputedFrom_rested _ _

theorem claimed_says (a : Addr) (c : Chan) :
    (((h.claimed table pointers).recompute.evaluateIf false).rested).says a c = (slot table a c).map Entry.said :=
  settle_says _ _ a c

theorem claimed_lastSender :
    (((h.claimed table pointers).recompute.evaluateIf false).rested).bus.lastSender = h.bus.lastSender :=
  settle_lastSender _ _

end

section
variable {h : State} {f : Frame} (heard : s.Heard h f)
include heard

theorem State.Heard.claimApplied {channel level demand phase cause : Byte}
    (body : f.body = .claim channel level demand phase cause) :
    s.ClaimApplied ((h.answered f).rested) f.sender channel level demand phase cause := by
  obtain ⟨a, seq, b⟩ := f
  dsimp only at body heard ⊢
  subst body
  have answered : ∀ {table pointers}, h.applyClaim a channel level demand phase cause = h.claimed table pointers →
      h.answered ⟨a, seq, .claim channel level demand phase cause⟩ =
        (h.claimed table pointers).recompute.evaluateIf false := by
    intro table pointers wrote
    rw [← wrote]
    rfl
  have ct := heard.ct
  refine ⟨?_, ?_, fun c l d p chan lev dem ph => ?_, fun c l k chan lev zero gone => ?_, fun bad => ?_⟩
  · obtain ⟨table, pointers, wrote⟩ := h.applyClaim_cases a channel level demand phase cause
    rw [answered wrote, ← ct]
    exact claimed_flags ..
  · obtain ⟨table, pointers, wrote⟩ := h.applyClaim_cases a channel level demand phase cause
    rw [answered wrote]
    exact (claimed_lastSender ..).trans heard.lastSender
  · rw [answered (State.applyClaim_live chan lev dem ph), ct]
    refine ⟨?_, claimed_pointers .., fun e found => ?_, fun b e apart => ?_, claimed_recomputedFrom ..,
      claimed_onlyNotified heard _ _⟩
    · rw [claimed_says, slot_setSlot, if_pos ⟨rfl, rfl⟩]
      rfl
    · exact claimed_latched heard _ _ (by rw [slot_setSlot, if_pos ⟨rfl, rfl⟩]) rfl found
    · rw [claimed_says, slot_setSlot, if_neg]
      · rfl
      · rintro ⟨rfl, rfl⟩
        exact apart.elim (· rfl) (· rfl)
  · rw [answered (State.applyClaim_gone chan lev zero gone), ct]
    refine ⟨?_, fun b e apart => ?_, claimed_pointers .., claimed_recomputedFrom .., claimed_onlyNotified heard _ _⟩
    · rw [claimed_says, slot_setSlot, if_pos ⟨rfl, rfl⟩]
      rfl
    · rw [claimed_says, slot_setSlot, if_neg]
      · rfl
      · rintro ⟨rfl, rfl⟩
        exact apart.elim (· rfl) (· rfl)
  · rw [answered (State.applyClaim_bad bad), ct]
    exact ⟨claimed_pointers .., fun b e => claimed_says _ _ _ b e, claimed_recomputedFrom ..,
      claimed_onlyNotified heard _ _⟩

/-! ### What FLAG and GAUGE frames write -/

theorem State.Heard.gaugeOf (a : Addr) : h.gaugeOf a = s.gaugeOf a := by
  rw [State.gaugeOf_eq, State.gaugeOf_eq, heard.gauge]

theorem State.Heard.reallocated_of_plain {u : State} {b : Bool} (rm : u.rm = h.rm) (chans : u.chans = h.chans)
    (station : u.mu.station = h.mu.station) (straps : u.straps = h.straps) :
    s.Reallocated ((u.recompute.evaluateIf b).rested) u.ct.table :=
  Machine.reallocated_of_plain (rm.trans heard.rm) (chans.trans heard.chans) (station.trans heard.station)
    (straps.trans heard.straps)

theorem State.Heard.flagApplied {set clear : BitVec 16} (body : f.body = .flag set clear) :
    s.FlagApplied ((h.answered f).rested) set clear := by
  obtain ⟨a, seq, b⟩ := f
  dsimp only at body heard ⊢
  subst body
  rw [show h.answered ⟨a, seq, .flag set clear⟩ = (h.applyFlag set clear).recompute.evaluateIf true from rfl]
  have ct := heard.ct
  refine ⟨(settle_flags _ _).trans ?_, (settle_pointers _ _).trans ?_, fun d c => (settle_says _ _ d c).trans ?_, fun d => ?_, ?_⟩
  · rw [← ct]
    rfl
  · rw [← ct]
    rfl
  · unfold State.says
    rw [← ct]
    rfl
  · exact ((sights_settle _ _).gaugeOf d).trans (heard.gaugeOf d)
  · rw [← ct]
    exact heard.reallocated_of_plain (u := h.applyFlag set clear) rfl rfl rfl rfl

theorem State.Heard.gaugeOf_applyGauge {a : Addr} (g : GaugeField) (known : s.isMember a = true) (d : Addr) :
    (h.applyGauge a g).gaugeOf d = if a = d then (readGauge g).getD (s.gaugeOf a) else s.gaugeOf d := by
  rw [← heard.gaugeOf, ← heard.gaugeOf]
  unfold State.applyGauge State.gaugeOf
  rw [State.member_modMember]
  split
  · next same =>
    subst same
    obtain ⟨m, found⟩ := Option.isSome_iff_exists.1 (show (h.member a).isSome = true from (heard.isMember a).trans known)
    rw [found]
    rfl
  · rfl

theorem State.Heard.gaugeApplied {g : GaugeField} (body : f.body = .gauge g) (known : s.isMember f.sender = true) :
    s.GaugeApplied ((h.answered f).rested) f.sender g := by
  obtain ⟨a, seq, b⟩ := f
  dsimp only at body heard known ⊢
  subst body
  rw [show h.answered ⟨a, seq, .gauge g⟩ = (h.applyGauge a g).recompute.evaluateIf
    (h.gaugeOf a != (h.applyGauge a g).gaugeOf a) from rfl]
  generalize (h.gaugeOf a != (h.applyGauge a g).gaugeOf a) = due
  have gauge := heard.gaugeOf_applyGauge g known
  have kept := (sights_settle (h.applyGauge a g) due).gaugeOf
  have ct : (h.applyGauge a g).ct = s.ct := heard.ct
  refine ⟨?_, fun d apart => ?_, (settle_flags _ _).trans (by rw [ct]), (settle_pointers _ _).trans (by rw [ct]),
      fun d c => (settle_says _ _ d c).trans (by rw [ct]; rfl), ?_⟩
  · rw [kept, gauge, if_pos rfl]
  · rw [kept, gauge, if_neg fun same => apart same.symm]
  · rw [← ct]
    exact heard.reallocated_of_plain (u := h.applyGauge a g) rfl rfl rfl rfl

end

end Sys2Proof.Machine
end

section
namespace Sys2Proof
open Sys2Proof.Machine

/-- Settles O32: each frame's writing, and the recomputation that follows it. -/
theorem claimFlagGaugeFramesApplied : Obligations.ClaimFlagGaugeFramesApplied := by
  unfold Obligations.ClaimFlagGaugeFramesApplied
  intro s a seq channel level demand phase cause set clear g
  refine ⟨fun c => toChan_eq_some, fun l => toLevel_eq_some, fun d => toDemand_eq_some, fun p => toPhase_eq_some,
    fun k => toCause_eq_some, rfl, readGauge_absent_iff g, readGauge_present_iff g,
    fun hears => ⟨
      ⟨_, congrArg Host.Outcome.next (State.takeFrame_of_hears hears rfl fun h _ => ?_), (s.hearing_heard _).claimApplied rfl⟩,
      ⟨_, congrArg Host.Outcome.next (State.takeFrame_of_hears hears rfl fun h _ => State.staysOnFrame_of_parts rfl rfl rfl),
        (s.hearing_heard _).flagApplied rfl⟩,
      ⟨_, congrArg Host.Outcome.next (State.takeFrame_of_hears hears rfl fun h _ => State.staysOnFrame_of_parts rfl rfl rfl),
        (s.hearing_heard _).gaugeApplied rfl (State.isMember_of_hears hears)⟩⟩⟩
  obtain ⟨table, pointers, wrote⟩ := h.applyClaim_cases a channel level demand phase cause
  have bodied : h.bodied ⟨a, seq, .claim channel level demand phase cause⟩ = h.claimed table pointers := wrote
  rw [bodied]
  exact State.staysOnFrame_of_parts (s := h) rfl rfl rfl

end Sys2Proof
end

section
/-!
SUPPORT. The halt unit's tests as functions of its record (R161, R162, R165), the station-wide close (R66, R158), and what the end
of a frame leaves of halt unit, events and outbound set.
-/

namespace Sys2Proof.Machine

variable {s t u : State}

/-! ### The round and the settle set -/

/-- R162: the ack round as its test leaves it. -/
def HaltUnit.tested (h : HaltUnit) : HaltUnit :=
  if h.round = .opened ∧ h.ackedSet = h.ackSet then
    { h with round := if h.missing = 0 then .confirmed else .unconfirmed, roundTimer := none }
  else h

/-- R161: the ack round as the removal of a member leaves it. -/
def HaltUnit.removing (h : HaltUnit) (a : Addr) : HaltUnit :=
  if h.round = .opened ∧ inSet h.ackSet a ∧ (h.acked[a.val]).isNone then
    HaltUnit.tested { h with ackSet := removeAddr h.ackSet a, missing := insertAddr h.missing a }
  else h

/-- R165: the settle set as its test leaves it. -/
def HaltUnit.calmed (h : HaltUnit) : HaltUnit := if h.halt = .settling ∧ h.settle = 0 then { h with halt := .none, reasons := 0 } else h

/-- R165: an address leaves the settle set. -/
def HaltUnit.unsettling (h : HaltUnit) (a : Addr) : HaltUnit := HaltUnit.calmed { h with settle := removeAddr h.settle a }

/-- R161, R165: the halt unit told that a member has left. -/
def HaltUnit.told (h : HaltUnit) (a : Addr) : HaltUnit := (h.removing a).unsettling a

theorem State.testRound_hu (s : State) : s.testRound.hu = s.hu.tested := by
  unfold State.testRound HaltUnit.tested
  split
  · split <;> rfl
  · rfl

theorem State.roundRemoval_hu (s : State) (a : Addr) : (s.roundRemoval a).hu = s.hu.removing a := by
  unfold State.roundRemoval HaltUnit.removing
  split
  · exact State.testRound_hu _
  · rfl

theorem State.testSettle_hu (s : State) : s.testSettle.hu = s.hu.calmed := by
  unfold State.testSettle HaltUnit.calmed
  split <;> rfl

theorem State.settleRemoval_hu (s : State) (a : Addr) : (s.settleRemoval a).hu = s.hu.unsettling a := State.testSettle_hu _

theorem State.tellHalt_hu (s : State) (a : Addr) : (s.tellHalt a).hu = s.hu.told a := by
  unfold State.tellHalt HaltUnit.told
  rw [State.settleRemoval_hu, State.roundRemoval_hu]

theorem State.testSettle_events (s : State) : s.testSettle.events = s.events := by
  unfold State.testSettle
  split <;> rfl

theorem State.settleRemoval_events (s : State) (a : Addr) : (s.settleRemoval a).events = s.events := State.testSettle_events _

/-- R162: the events of a round test. -/
theorem State.hasEvent_testRound (s : State) (e : SiteEvent) : s.testRound.hasEvent e =
    (s.hasEvent e || (decide (s.hu.round = .opened ∧ s.hu.ackedSet = s.hu.ackSet) &&
      decide (e = if s.hu.missing = 0 then .haltConfirmed else .haltUnconfirmed))) := by
  unfold State.testRound
  split
  · next ends =>
    rw [decide_eq_true ends, Bool.true_and]
    split
    · exact State.hasEvent_raise _ _ _
    · exact State.hasEvent_raise _ _ _
  · next stays => rw [decide_eq_false stays, Bool.false_and, Bool.or_false]

theorem State.hasEvent_tellHalt_of (s : State) (a : Addr) {e : SiteEvent} (had : s.hasEvent e = true) :
    (s.tellHalt a).hasEvent e = true := by
  unfold State.tellHalt
  rw [hasEvent_of_events (State.settleRemoval_events _ _)]
  unfold State.roundRemoval
  split
  · rw [State.hasEvent_testRound, Bool.or_eq_true]
    exact .inl had
  · exact had

/-- R161: the removal of the last member that had not answered ends the round UNCONFIRMED. -/
theorem State.hasEvent_tellHalt_ended (s : State) (a : Addr) (round : s.hu.round = .opened) (asked : inSet s.hu.ackSet a = true)
    (silent : s.hu.acked[a.val] = none) (all : s.hu.ackedSet = removeAddr s.hu.ackSet a) :
    (s.tellHalt a).hasEvent .haltUnconfirmed = true := by
  have some' : insertAddr s.hu.missing a ≠ 0 := fun zero => by
    have member := inSet_insertAddr s.hu.missing a a
    rw [zero] at member
    simp [inSet] at member
  unfold State.tellHalt
  rw [hasEvent_of_events (State.settleRemoval_events _ _)]
  unfold State.roundRemoval
  rw [if_pos ⟨round, asked, by rw [silent]; rfl⟩, State.hasEvent_testRound]
  rw [decide_eq_true (by exact ⟨round, all⟩)]
  have missing : ¬ insertAddr s.hu.missing a = 0 := some'
  show (_ || (true && decide (SiteEvent.haltUnconfirmed = if insertAddr s.hu.missing a = 0 then _ else _))) = true
  rw [if_neg missing]
  simp

section
variable (h : HaltUnit) (a : Addr)

theorem HaltUnit.tested_of_ended (round : h.round = .opened) (all : h.ackedSet = h.ackSet) : h.tested =
    { h with round := if h.missing = 0 then .confirmed else .unconfirmed, roundTimer := none } := if_pos ⟨round, all⟩

theorem HaltUnit.tested_of_other (other : ¬ (h.round = .opened ∧ h.ackedSet = h.ackSet)) : h.tested = h := if_neg other

theorem HaltUnit.removing_of_asked (round : h.round = .opened) (asked : inSet h.ackSet a = true) (silent : h.acked[a.val] = none) :
    h.removing a = HaltUnit.tested { h with ackSet := removeAddr h.ackSet a, missing := insertAddr h.missing a } :=
  if_pos ⟨round, asked, by rw [silent]; rfl⟩

theorem HaltUnit.removing_of_other (other : h.round ≠ .opened ∨ inSet h.ackSet a = false ∨ h.acked[a.val] ≠ none) :
    h.removing a = h := if_neg fun all => by
  obtain ⟨round, asked, silent⟩ := all
  rcases other with apart | out | answered
  · exact apart round
  · rw [out] at asked; cases asked
  · exact answered (Option.isNone_iff_eq_none.1 silent)

theorem HaltUnit.removing_settle : (h.removing a).settle = h.settle ∧ (h.removing a).halt = h.halt ∧
    (h.removing a).reasons = h.reasons ∧ (h.removing a).ackPending = h.ackPending := by
  unfold HaltUnit.removing HaltUnit.tested
  split
  · split <;> exact ⟨rfl, rfl, rfl, rfl⟩
  · exact ⟨rfl, rfl, rfl, rfl⟩

theorem HaltUnit.calmed_round : h.calmed.round = h.round ∧ h.calmed.ackSet = h.ackSet ∧ h.calmed.acked = h.acked ∧
    h.calmed.missing = h.missing ∧ h.calmed.roundTimer = h.roundTimer ∧ h.calmed.settle = h.settle ∧
    h.calmed.ackPending = h.ackPending := by
  unfold HaltUnit.calmed
  split <;> exact ⟨rfl, rfl, rfl, rfl, rfl, rfl, rfl⟩

theorem HaltUnit.calmed_of_empty (settling : h.halt = .settling) (empty : h.settle = 0) :
    h.calmed.halt = .none ∧ h.calmed.reasons = 0 := by
  unfold HaltUnit.calmed
  rw [if_pos ⟨settling, empty⟩]
  exact ⟨rfl, rfl⟩

theorem HaltUnit.calmed_of_other (other : h.halt ≠ .settling ∨ h.settle ≠ 0) : h.calmed = h :=
  if_neg fun both => other.elim (· both.1) (· both.2)

end

/-- R161, R165: what `ToldHalt` asks of a state whose halt unit has been told, its ack pending aside. -/
theorem toldHalt_of {d : Addr} {b : Bool} (hu : t.hu = { s.hu.told d with ackPending := b })
    (event : s.hu.round = .opened → inSet s.hu.ackSet d = true → s.hu.acked[d.val] = none →
      s.hu.ackedSet = removeAddr s.hu.ackSet d → t.hasEvent .haltUnconfirmed = true) : s.ToldHalt t d := by
  obtain ⟨settle, halt, reasons, -⟩ := s.hu.removing_settle d
  obtain ⟨cRound, cAckSet, cAcked, cMissing, cTimer, cSettle, -⟩ :=
    HaltUnit.calmed_round { s.hu.removing d with settle := removeAddr (s.hu.removing d).settle d }
  have whole : s.hu.told d = HaltUnit.calmed { s.hu.removing d with settle := removeAddr (s.hu.removing d).settle d } := rfl
  unfold State.ToldHalt
  rw [hu, whole]
  refine ⟨fun round asked silent => ?_, fun other => ?_, ?_, fun settling empty => ?_, fun other => ?_⟩
  · have shape := s.hu.removing_of_asked d round asked silent
    dsimp only
    rw [cAckSet, cMissing, cAcked, cRound, cTimer]
    dsimp only
    rw [shape]
    by_cases all : s.hu.ackedSet = removeAddr s.hu.ackSet d
    · have zero : insertAddr s.hu.missing d ≠ 0 := fun zero => by
        have member := inSet_insertAddr s.hu.missing d d
        rw [zero] at member
        simp [inSet] at member
      rw [HaltUnit.tested_of_ended { s.hu with ackSet := removeAddr s.hu.ackSet d, missing := insertAddr s.hu.missing d } round all]
      exact ⟨rfl, rfl, rfl, fun _ => ⟨if_neg zero, rfl, event round asked silent all⟩, fun other => absurd all other⟩
    · rw [HaltUnit.tested_of_other _ fun both => all both.2]
      exact ⟨rfl, rfl, rfl, fun same => absurd same all, fun _ => ⟨round, rfl⟩⟩
  · dsimp only
    rw [cRound, cAckSet, cMissing, cAcked, cTimer]
    dsimp only
    rw [s.hu.removing_of_other d other]
    exact ⟨rfl, rfl, rfl, rfl, rfl⟩
  · exact cSettle.trans (congrArg (removeAddr · d) settle)
  · exact HaltUnit.calmed_of_empty _ (halt.trans settling) (cSettle.symm.trans empty)
  · have same := HaltUnit.calmed_of_other { s.hu.removing d with settle := removeAddr (s.hu.removing d).settle d }
      (other.imp (fun apart same => apart (halt.symm.trans same)) fun some' zero => some' (cSettle.trans zero))
    dsimp only
    rw [same]
    exact ⟨halt, reasons⟩

/-! ### The station-wide close (R66, R158) -/

theorem State.setRunState_quiet {c : Chan} {st : RunState} (still : st ≠ .flowing) (h : Nat) (quiet : s.Quiet c) :
    (s.setRunState h st).Quiet c := by
  intro y hy on flowing
  obtain ⟨z, hz, rfl⟩ := mem_updateRun.1 hy
  by_cases here : z.handle = h
  · rw [if_pos here] at flowing
    exact still flowing
  · rw [if_neg here] at on flowing
    exact quiet z hz on flowing

theorem State.requeue_quiet {c d : Chan} {h : Nat} (quiet : s.Quiet c) : (s.requeue d h).Quiet c := by
  have queued : (s.setRunState h .queued).Quiet c := State.setRunState_quiet (by decide) h quiet
  unfold State.requeue State.pickHead
  split
  · exact State.setRunState_quiet (by decide) _ queued
  · exact queued

/-- The scope of closes alone. -/
def Scope.closes : Scope := ⟨fun _ => False, fun _ => False, fun _ => False, fun _ => True⟩

section
variable (tidy : s.Tidy) {q : Purpose} (other : q ≠ .ending)
include tidy other

theorem State.Tidy.closeAll_chain : Stirs Scope.closes s (s.closeAll q) := Stirs.closeAll tidy (fun _ => trivial) other

/-- The station-wide close reaches a channel in a state in which it has touched only others. -/
theorem State.Tidy.closeAll_at (c : Chan) : ∃ u, Stirs (Scope.but c) s u ∧
    Stirs Scope.closes (u.demandClose c q) (s.closeAll q) := by
  obtain ⟨front, rest, cut⟩ := List.append_of_mem (mem_allChans c)
  have nodup : allChans.Nodup := by decide
  rw [cut] at nodup
  obtain ⟨-, -, apart⟩ := List.nodup_append.1 nodup
  have before : Stirs (Scope.but c) s (front.foldl (fun v d => v.demandClose d q) s) :=
    Stirs.fold _ front (fun v d member neat => Stirs.demandClose neat (apart d member c List.mem_cons_self) other) tidy
  refine ⟨_, before, ?_⟩
  have neat := before.tidy tidy
  have here := (Stirs.demandClose (p := Scope.closes) neat (c := c) trivial other).tidy neat
  have after : Stirs Scope.closes _ (rest.foldl (fun v d => v.demandClose d q) _) :=
    Stirs.fold _ rest (fun v d _ neat => Stirs.demandClose neat trivial other) here
  unfold State.closeAll
  rw [cut, List.foldl_append]
  exact after

theorem State.Tidy.closeAll_shuts {c : Chan} {r : Run} (head : s.head c = some r) (flows : r.state = .flowing)
    (drives : (s.chan c).valve.driven = true) (slow : (s.chan c).confirmed = false) :
    { r with state := .closing q } ∈ (s.closeAll q).rm.pool ∧ ((s.closeAll q).chan c).Shutting (some (s.chan c).closeLoad) := by
  obtain ⟨u, before, after⟩ := tidy.closeAll_at other c
  obtain ⟨chan, -⟩ := before.elsewhere tidy (c := c) fun other => other rfl
  have neat := before.tidy tidy
  have head' : u.head c = some r := (head_elsewhere before tidy (c := c) fun other => other rfl).trans head
  obtain ⟨live, here, -⟩ := State.mem_of_head head'
  subst here
  have begun := (State.demandClose_of_flowing head' flows q rfl).1 fun shuts => by
    have confirmed := shuts.confirmed
    rw [chan, slow] at confirmed
    cases confirmed
  have closing : (u.begun r q).chan r.channel = (s.chan r.channel).beginClose := by
    unfold State.begun
    rw [State.chan_setChan_same, chan]
  have slow' : ((u.begun r q).chan r.channel).confirmed = false := by
    rw [closing, confirmed_of_bare (Channel.beginClose_bare _)]
    exact slow
  have neat' : (u.begun r q).Tidy := (Stir.begun (p := Scope.closes) live flows trivial q).tidy neat
  rw [begun] at after
  exact ⟨after.sinks neat' id ((neat.mem_begun live q).2 (.inl rfl)) rfl,
    after.shutting slow' (by rw [closing]; exact Channel.beginClose_shutting drives)⟩

/-- R66, R158: after the station-wide close no run flows. -/
theorem State.Tidy.closeAll_quiet (c : Chan) : (s.closeAll q).Quiet c := by
  obtain ⟨u, before, after⟩ := tidy.closeAll_at other c
  have neat := before.tidy tidy
  have closes := Stirs.demandClose (p := Scope.closes) neat (c := c) trivial other
  refine after.quiet (closes.tidy neat) id ?_
  by_cases flows : ∃ r ∈ u.head c, r.state = .flowing
  · obtain ⟨r, head, flows⟩ := flows
    obtain ⟨live, here, -⟩ := State.mem_of_head head
    subst here
    obtain ⟨slow, fast⟩ := State.demandClose_of_flowing head flows q rfl
    have begun : (u.begun r q).Quiet r.channel := by
      intro x hx there flowing
      rcases (neat.mem_begun live q).1 hx with rfl | ⟨old, apart⟩
      · cases flowing
      · have rests := neat.alone live (isHead_of_flowing flows) x old apart there
        rw [flowing] at rests
        cases rests
    by_cases shuts : (u.chan r.channel).shuts
    · have step := Stir.begun (p := Scope.closes) live flows trivial q
      have neat' : ((u.begun r q).setChan r.channel (u.chan r.channel).beginClose.endClose).Tidy :=
        tidy_of_rm (s := u.begun r q) rfl (step.tidy neat)
      rw [fast shuts, u.begun_endClose]
      obtain ⟨live1, head1, neat1⟩ := neat.head_shut live flows q
      unfold State.dismissHead
      rw [head1]
      have still : ((u.setRunState r.handle (.closing q)).setChan r.channel (u.chan r.channel).beginClose.endClose).Quiet r.channel :=
        begun
      cases q <;> first | exact absurd rfl other | exact State.requeue_quiet still
    · rw [slow shuts]
      exact begun
  · rw [State.demandClose_of_other fun r head flowing => flows ⟨r, head, flowing⟩]
    intro x hx there flowing
    have head := neat.head_eq hx (isHead_of_flowing flowing)
    rw [there] at head
    exact flows ⟨x, head, flowing⟩

end

end Sys2Proof.Machine
end

section
/-!
SUPPORT. The end of a frame on the halt unit, the events and the outbound set; HALT, HALT_ACK and RELEASE frames (R156–R164).
-/

namespace Sys2Proof.Machine

variable {s t u : State}

/-! ### The end of a frame -/

theorem settle_hu (u : State) (b : Bool) : ∃ p, ((u.recompute.evaluateIf b).rested).hu = { u.hu with ackPending := p } := by
  obtain ⟨p, hu⟩ := State.rested_hu (u.recompute.evaluateIf b)
  exact ⟨p, by rw [hu, State.evaluateIf_hu, u.recompute_hu]⟩

theorem State.staleTest_hasEvent (u : State) {e : SiteEvent} (other : e ≠ .syncRegained) :
    u.staleTest.hasEvent e = u.hasEvent e := by
  rcases u.staleTest_cases with same | ⟨-, -, synced⟩
  · rw [same]
  · rw [synced, hasEvent_of_events (events_of_mute u.enterSynced_mute)]
    exact State.hasEvent_raise_ne _ other

theorem State.rested_hasEvent (u : State) {e : SiteEvent} (other : e ≠ .syncRegained) : u.rested.hasEvent e = u.hasEvent e :=
  (hasEvent_of_events (State.closing_events _) e).trans (u.staleTest_hasEvent other)

theorem settle_hasEvent (u : State) (b : Bool) {e : SiteEvent} (other : e ≠ .syncRegained) :
    ((u.recompute.evaluateIf b).rested).hasEvent e = u.hasEvent e := by
  rw [State.rested_hasEvent _ other]
  exact hasEvent_of_events ((events_of_bare (State.evaluateIf_bare _ b)).trans u.recompute_events) e

theorem settle_orphans (u : State) (b : Bool) : ((u.recompute.evaluateIf b).rested).mu.orphans = u.mu.orphans := by
  rw [State.rested_orphans, State.evaluateIf_mu, u.recompute_mu]

theorem settle_cause (u : State) (b : Bool) : ((u.recompute.evaluateIf b).rested).mu.cause = u.mu.cause := by
  rw [State.rested_cause, State.evaluateIf_mu, u.recompute_mu]

theorem settle_straps (u : State) (b : Bool) : ((u.recompute.evaluateIf b).rested).straps = u.straps := by
  rw [State.rested_straps, straps_of_bare (State.evaluateIf_bare _ b), u.recompute_straps]

/-- A member's record at the end of a frame, its stale mark aside. -/
theorem settle_member (u : State) (b : Bool) (a : Addr) :
    (((u.recompute.evaluateIf b).rested).member a).map (fun m => { m with stale := false }) =
      (u.member a).map fun m => { m with stale := false } := by
  have same : (u.recompute.evaluateIf b).member a = u.member a := by
    unfold State.member
    rw [State.evaluateIf_mu, u.recompute_mu]
  rw [State.rested_member, same]

theorem settle_isMember (u : State) (b : Bool) (a : Addr) : ((u.recompute.evaluateIf b).rested).isMember a = u.isMember a := by
  have same := congrArg Option.isSome (settle_member u b a)
  rw [Option.isSome_map, Option.isSome_map] at same
  exact same

theorem settle_none (u : State) (b : Bool) {a : Addr} (gone : u.member a = none) :
    ((u.recompute.evaluateIf b).rested).member a = none := by
  have same := settle_isMember u b a
  unfold State.isMember at same
  rw [gone] at same
  exact Option.not_isSome_iff_eq_none.1 (by rw [same]; nofun)

theorem settle_slot_none (u : State) (b : Bool) {a : Addr} {c : Chan} (gone : slot u.ct.table a c = none) :
    slot ((u.recompute.evaluateIf b).rested).ct.table a c = none := by
  rw [slot_rested, slot_allocate, gone]
  rfl

/-- The station state at the end of a frame: RESYNC may have given way to SYNCED. -/
theorem State.staleTest_station (u : State) : u.staleTest.mu.station = u.mu.station ∨
    u.mu.station = .resync ∧ u.staleTest.mu.station = .synced := by
  rcases u.staleTest_cases with same | ⟨resync, -, synced⟩
  · rw [same]
    exact .inl rfl
  · rw [synced]
    exact .inr ⟨resync, u.enterSynced_station⟩

theorem State.staleTest_active (u : State) : u.staleTest.mu.station.active = u.mu.station.active := by
  rcases u.staleTest_station with same | ⟨resync, synced⟩
  · rw [same]
  · rw [resync, synced]
    rfl

theorem State.rested_station (u : State) : u.rested.mu.station = u.mu.station ∨
    u.mu.station = .resync ∧ u.rested.mu.station = .synced := by
  unfold State.rested
  rw [State.closing_mu]
  exact u.staleTest_station

theorem settle_station (u : State) (b : Bool) : ((u.recompute.evaluateIf b).rested).mu.station = u.mu.station ∨
    u.mu.station = .resync ∧ ((u.recompute.evaluateIf b).rested).mu.station = .synced := by
  have station := State.rested_station (u.recompute.evaluateIf b)
  rw [State.evaluateIf_mu, u.recompute_mu] at station
  exact station

/-! ### The acknowledgement that is owed (R159) -/

theorem mem_insertOut_self {f : OutFrame} {out : List OutFrame} (fixed : ∀ g : OutFrame, g.sameKey f = true → g.combine f = f) :
    f ∈ insertOut f out := by
  induction out with
  | nil => exact List.mem_cons_self
  | cons g out ih =>
    unfold insertOut
    split
    · next same => rw [fixed g same]; exact List.mem_cons_self
    · exact List.mem_cons_of_mem _ ih

theorem mem_insertOut_of_other {f g : OutFrame} {out : List OutFrame} (other : g.sameKey f = false) (member : g ∈ out) :
    g ∈ insertOut f out := by
  induction out with
  | nil => cases member
  | cons h out ih =>
    unfold insertOut
    rcases List.mem_cons.1 member with rfl | later
    · rw [other]
      exact List.mem_cons_self
    · split
      · exact List.mem_cons_of_mem _ later
      · exact List.mem_cons_of_mem _ (ih later)

theorem stuckMask_of_valves (same : ∀ c, (t.chan c).valve = (s.chan c).valve) : t.stuckMask = s.stuckMask := by
  unfold State.stuckMask
  refine congrArg (fun op => List.foldl op (0 : Byte) allChans) (funext fun m => funext fun c => ?_)
  rw [same]

/-- R159: where ack pending holds as an event ends, it still does, or a HALT_ACK with the stuck channels is pending. -/
theorem State.closing_owes (v : State) (pending : v.hu.ackPending = true) (active : v.mu.station.active = true) :
    v.closing.hu.ackPending = true ∨ OutFrame.haltAck v.closing.stuckMask ∈ v.closing.bus.outbound := by
  have hu : v.announceAll.hu = v.hu := hu_of_bare v.announceAll_bare
  have mu : v.announceAll.mu = v.mu := mu_of_bare v.announceAll_bare
  have mask : v.closing.stuckMask = v.announceAll.stuckMask := stuckMask_of_valves fun c =>
    (valve_of_mute (v.closing_chan c)).trans (valve_of_mute (chan_of_mute v.announceAll_mute c)).symm
  rw [mask]
  unfold State.closing
  generalize v.announceAll = w at hu mu
  have leave : ∀ x : State, x.leaveTest.hu = x.hu := fun x => hu_of_mute x.leaveTest_mute
  by_cases settled : w.settled = true
  · right
    have tested : w.ackTest = (w.enqueue (.haltAck w.stuckMask)).setHu { w.hu with ackPending := false } :=
      if_pos ⟨by rw [hu]; exact pending, settled⟩
    have takes : w.mu.station.takes (.haltAck w.stuckMask) = true := by
      rw [mu]
      revert active
      cases v.mu.station <;> exact id
    have queued : OutFrame.haltAck w.stuckMask ∈ w.ackTest.bus.outbound := by
      rw [tested]
      show OutFrame.haltAck w.stuckMask ∈ (w.enqueue (.haltAck w.stuckMask)).bus.outbound
      unfold State.enqueue
      rw [if_pos takes]
      refine mem_insertOut_self fun g same => ?_
      cases g <;> first | rfl | cases same
    unfold State.leaveTest
    split
    · unfold State.enqueue
      split
      · exact mem_insertOut_of_other rfl queued
      · exact queued
    · exact queued
  · left
    have tested : w.ackTest = w := if_neg fun both => settled both.2
    rw [tested, leave, hu]
    exact pending

theorem settle_owes (u : State) (b : Bool) (pending : u.hu.ackPending = true) (active : u.mu.station.active = true) :
    ((u.recompute.evaluateIf b).rested).hu.ackPending = true ∨
      OutFrame.haltAck ((u.recompute.evaluateIf b).rested).stuckMask ∈ ((u.recompute.evaluateIf b).rested).bus.outbound := by
  have hu : (u.recompute.evaluateIf b).hu = u.hu := (State.evaluateIf_hu _ b).trans u.recompute_hu
  have mu : (u.recompute.evaluateIf b).mu = u.mu := (State.evaluateIf_mu _ b).trans u.recompute_mu
  generalize u.recompute.evaluateIf b = v at hu mu
  obtain ⟨-, -, -, tested, -⟩ := v.staleTest_parts
  have active' : v.staleTest.mu.station.active = true := by rw [v.staleTest_active, mu, active]
  unfold State.rested
  exact State.closing_owes v.staleTest (by rw [tested, hu, pending]) active'

/-! ### A HALT that is pending -/

theorem haltPending_insertOut {n : Nat} (f : OutFrame) {out : List OutFrame}
    (pending : ∃ r, OutFrame.halt r ∈ out ∧ r.getLsbD n = true) : ∃ r, OutFrame.halt r ∈ insertOut f out ∧ r.getLsbD n = true := by
  obtain ⟨r, member, bit⟩ := pending
  induction out with
  | nil => cases member
  | cons g out ih =>
    unfold insertOut
    by_cases same : g.sameKey f = true
    · rw [if_pos same]
      rcases List.mem_cons.1 member with rfl | later
      · cases f with
        | halt q => exact ⟨r ||| q, List.mem_cons_self, by rw [BitVec.getLsbD_or, bit]; rfl⟩
        | _ => cases same
      · exact ⟨r, List.mem_cons_of_mem _ later, bit⟩
    · rw [if_neg same]
      rcases List.mem_cons.1 member with rfl | later
      · exact ⟨r, List.mem_cons_self, bit⟩
      · obtain ⟨q, hq, bit'⟩ := ih later
        exact ⟨q, List.mem_cons_of_mem _ hq, bit'⟩

/-- A HALT with a reason is pending. -/
def State.Urges (s : State) (n : Nat) : Prop := s.HaltPending n

theorem State.Urges.enqueue {n : Nat} (pending : s.Urges n) (f : OutFrame) : (s.enqueue f).Urges n := by
  unfold State.enqueue
  split
  · exact haltPending_insertOut f pending
  · exact pending

theorem State.Urges.queueClaim {n : Nat} (pending : s.Urges n) (c : Chan) (k : ClaimContent) :
    (s.queueClaim c k).Urges n := by
  unfold State.queueClaim
  split
  · exact pending
  · exact State.Urges.enqueue pending _

theorem RunSide.urges {n : Nat} (chain : RunSide s t) (pending : s.Urges n) : t.Urges n :=
  chain.keep (P := fun u => u.Urges n) (fun v w move held => by
    cases move with
    | claim c k => exact State.Urges.queueClaim held c k
    | _ => exact held) pending

theorem State.Urges.dropSilent {n : Nat} (pending : s.Urges n) : s.dropSilent.Urges n := by
  unfold State.dropSilent
  refine List.foldlRecOn allAddrs _ (motive := fun v : State => v.Urges n) pending fun v held a _ => ?_
  split
  · unfold State.queueDrop
    split
    · exact held
    · exact State.Urges.enqueue held _
  · exact held

theorem State.Urges.enterSynced {n : Nat} (pending : s.Urges n) : s.enterSynced.Urges n := by
  have announced : s.regained.announceAll.Urges n := (RunSide.announceAll s.regained).urges pending
  have dropped := State.Urges.dropSilent announced
  unfold State.enterSynced
  dsimp only
  split
  · exact State.Urges.enqueue dropped _
  · exact dropped

theorem State.Urges.closing {n : Nat} (pending : s.Urges n) : s.closing.Urges n := by
  have announced : s.announceAll.Urges n := (RunSide.announceAll s).urges pending
  unfold State.closing
  generalize s.announceAll = v at announced
  have acked : v.ackTest.Urges n := by
    unfold State.ackTest
    split
    · exact State.Urges.enqueue announced _
    · exact announced
  generalize v.ackTest = w at acked
  unfold State.leaveTest
  split
  · exact State.Urges.enqueue acked _
  · exact acked

theorem State.Urges.rested {n : Nat} (pending : s.Urges n) : s.rested.Urges n := by
  refine State.Urges.closing ?_
  rcases s.staleTest_cases with same | ⟨-, -, synced⟩
  · rw [same]
    exact pending
  · rw [synced]
    exact State.Urges.enterSynced pending

theorem settle_urges {n : Nat} (u : State) (b : Bool) (pending : u.Urges n) :
    ((u.recompute.evaluateIf b).rested).Urges n := by
  refine State.Urges.rested ((RunSide.evaluateIf _ b).urges ?_)
  have chain := RunSide.recompute u
  generalize u.recompute = v at chain
  generalize u.allocate = a at chain
  exact chain.urges pending

end Sys2Proof.Machine
end

section
/-!
SUPPORT. HALT, HALT_ACK and RELEASE frames (R156–R164): the state each leaves before the recomputation.
-/

namespace Sys2Proof.Machine

variable {s t u v : State}

theorem with_of_calm (same : u.calm = v.calm) : u = { v with events := u.events, hu := u.hu } := by
  cases u
  cases v
  cases same
  rfl

/-! ### The halt unit's frames -/

/-- R156, R157: the halt unit as an entry to HALTED leaves it. -/
def State.haltedUnit (s : State) (r : BitVec 4) (f : HaltUnit → HaltUnit) : HaltUnit :=
  HaltUnit.tested (f { s.hu with
    halt := .halted, reasons := r, settle := 0, ackPending := s.hu.ackPending || s.mu.station.active })

theorem State.halting_hu (s : State) (r : BitVec 4) (f : HaltUnit → HaltUnit) : (s.halting r f).hu = s.haltedUnit r f :=
  State.testRound_hu _

theorem State.enterHalted_hu (s : State) (r : BitVec 4) (f : HaltUnit → HaltUnit) : (s.enterHalted r f).hu = s.haltedUnit r f :=
  (hu_of_bare (s.enterHalted_bare r f)).trans (s.halting_hu r f)

theorem State.hasEvent_enterHalted (s : State) (r : BitVec 4) (f : HaltUnit → HaltUnit) :
    (s.enterHalted r f).hasEvent .haltEntered = true := by
  rw [hasEvent_of_events (events_of_bare (s.enterHalted_bare r f))]
  exact State.hasEvent_raise_same _ _

theorem State.enterHalted_ct (s : State) (r : BitVec 4) (f : HaltUnit → HaltUnit) : (s.enterHalted r f).ct = s.ct :=
  (ct_of_bare (s.enterHalted_bare r f)).trans (ct_of_calm (s.halting_calm r f))

theorem State.enterHalted_mu (s : State) (r : BitVec 4) (f : HaltUnit → HaltUnit) : (s.enterHalted r f).mu = s.mu :=
  (mu_of_bare (s.enterHalted_bare r f)).trans (mu_of_calm (s.halting_calm r f))

theorem State.enterHalted_straps (s : State) (r : BitVec 4) (f : HaltUnit → HaltUnit) : (s.enterHalted r f).straps = s.straps :=
  (straps_of_bare (s.enterHalted_bare r f)).trans (straps_of_calm (s.halting_calm r f))

theorem State.halting_chan (s : State) (r : BitVec 4) (f : HaltUnit → HaltUnit) (c : Chan) : (s.halting r f).chan c = s.chan c :=
  chan_of_chans (chans_of_calm (s.halting_calm r f)) c

theorem Held.enterHalted (s : State) (r : BitVec 4) (f : HaltUnit → HaltUnit) (c : Chan) : Held c s (s.enterHalted r f) := by
  rw [s.enterHalted_eq]
  exact (Held.of_chan (s.halting_chan r f c)).trans (Held.closeAll _ _)

theorem State.staysOnFrame_enterHalted (s : State) (r : BitVec 4) (f : HaltUnit → HaltUnit) (stays : s.StaysOnFrame) :
    (s.enterHalted r f).StaysOnFrame :=
  State.staysOnFrame_of_held (s.enterHalted_mu r f) (fun c => Held.enterHalted s r f c) stays

section
variable (tidy : s.Tidy) (r : BitVec 4) (f : HaltUnit → HaltUnit)
include tidy

theorem State.Tidy.halting : (s.halting r f).Tidy :=
  tidy_of_rm (s := s) (congrArg RunUnit.pool (rm_of_calm (s.halting_calm r f))) tidy

theorem State.Tidy.enterHalted : (s.enterHalted r f).Tidy := by
  rw [s.enterHalted_eq]
  exact ((tidy.halting r f).closeAll_chain (q := .halt) (by decide)).tidy (tidy.halting r f)

theorem State.Tidy.enterHalted_quiet (c : Chan) : (s.enterHalted r f).Quiet c := by
  rw [s.enterHalted_eq]
  exact (tidy.halting r f).closeAll_quiet (q := .halt) (by decide) c

theorem State.Tidy.enterHalted_shuts {c : Chan} {x : Run} (head : s.head c = some x) (flows : x.state = .flowing)
    (drives : (s.chan c).valve.driven = true) (slow : (s.chan c).confirmed = false) :
    { x with state := .closing .halt } ∈ (s.enterHalted r f).rm.pool ∧
      ((s.enterHalted r f).chan c).Shutting (some (s.chan c).closeLoad) := by
  have chan := s.halting_chan r f c
  have head' : (s.halting r f).head c = some x := by
    unfold State.head
    rw [rm_of_calm (s.halting_calm r f)]
    exact head
  rw [s.enterHalted_eq, ← chan]
  exact (tidy.halting r f).closeAll_shuts (q := .halt) (by decide) head' flows (by rw [chan]; exact drives) (by rw [chan]; exact slow)

/-- While the halt state is not NONE a recomputation opens nothing. -/
theorem State.Tidy.recompute_closes (halt : s.hu.halt ≠ .none) : Stirs Scope.closes s.written s.recompute := by
  have none' : s.allocate.granted = [] := List.eq_nil_iff_forall_not_mem.2 fun c granted => halt (State.halt_of_granted granted)
  rw [s.recompute_eq, none']
  exact Stirs.notices tidy.written (fun _ => trivial) _ _ (by nofun)

end

theorem confirmed_enterHalted (s : State) (r : BitVec 4) (f : HaltUnit → HaltUnit) (c : Chan) :
    ((s.enterHalted r f).chan c).confirmed = (s.chan c).confirmed := by
  have bare := chan_of_bare (s.enterHalted_bare r f) c
  rw [s.halting_chan] at bare
  exact confirmed_of_bare bare

/-- R158: the heads that an entry to HALTED closes, as the end of a frame without evaluation shows them. -/
theorem closedHeads_of_halted {r : BitVec 4} {f : HaltUnit → HaltUnit} (tidy : s.Tidy) (halt : (s.haltedUnit r f).halt ≠ .none) :
    s.ClosedHeads (((s.enterHalted r f).recompute.evaluateIf false).rested) .halt := by
  have neat := tidy.enterHalted r f
  have closes := neat.recompute_closes (by rw [s.enterHalted_hu]; exact halt)
  have rm : (((s.enterHalted r f).recompute.evaluateIf false).rested).rm = (s.enterHalted r f).recompute.rm :=
    State.rested_rm ((s.enterHalted r f).recompute.evaluateIf false)
  refine ⟨fun c x head flows => ?_, fun c x head flows drives slow => ?_⟩
  · obtain ⟨live, here, -⟩ := State.mem_of_head head
    rw [rm] at live
    have quiet : (s.enterHalted r f).written.Quiet c := by
      unfold State.Quiet
      rw [State.written_rm]
      exact tidy.enterHalted_quiet r f c
    exact closes.quiet neat.written id quiet x live here flows
  · obtain ⟨live, shutting⟩ := tidy.enterHalted_shuts r f head flows drives slow
    have slow' : ((s.enterHalted r f).chan c).confirmed = false := (confirmed_enterHalted s r f c).trans slow
    obtain ⟨valve, timer⟩ := shutting_rested false slow' shutting
    refine ⟨?_, valve, timer⟩
    rw [rm]
    exact closes.sinks neat.written id (by rw [State.written_rm]; exact live) rfl

/-! ### The bodies of HALT, HALT_ACK and RELEASE frames -/

theorem State.Heard.rosterSet {h : State} {f : Frame} (heard : s.Heard h f) : h.rosterSet = s.rosterSet := by
  unfold State.rosterSet
  exact congrArg addrsWhere (funext heard.isMember)

theorem State.rosterSet_ne_zero {a : Addr} (member : s.isMember a = true) : s.rosterSet ≠ 0 := fun zero => by
  have here := inSet_rosterSet s a
  rw [zero, member] at here
  simp [inSet] at here

theorem ackedSet_empty (h : HaltUnit) (none' : ∀ b : Addr, h.acked[b.val] = none) : h.ackedSet = 0 := by
  refine BitVec.eq_of_getLsbD_eq fun i hi => ?_
  have member := inSet_ackedSet h ⟨i, hi⟩
  rw [none' ⟨i, hi⟩] at member
  simpa [inSet] using member

/-- R156: an entry to HALTED with a new round over a roster that holds a member. -/
theorem State.haltedUnit_open {a : Addr} (member : s.isMember a = true) (r : BitVec 4) :
    s.haltedUnit r (HaltUnit.openRound s.rosterSet) = { s.hu with
      halt := .halted, reasons := r, settle := 0, ackPending := s.hu.ackPending || s.mu.station.active, round := .opened
      ackSet := s.rosterSet, acked := Vector.replicate 16 none, missing := 0, roundTimer := some Config.roundMs } := by
  refine HaltUnit.tested_of_other _ fun both => State.rosterSet_ne_zero member ?_
  exact both.2.symm.trans (ackedSet_empty _ fun b => by simp [HaltUnit.openRound])

/-- R157: an entry to HALTED without a round. -/
theorem State.haltedUnit_clear (s : State) (r : BitVec 4) : s.haltedUnit r HaltUnit.clearRound =
    { s.hu.clearRound with halt := .halted, reasons := r, settle := 0, ackPending := s.hu.ackPending || s.mu.station.active } :=
  HaltUnit.tested_of_other _ fun both => RoundStatus.noConfusion both.1

/-- R164: the halt unit after an applied RELEASE. -/
def State.releasing (s : State) : HaltUnit :=
  { s.hu.clearRound with halt := .settling, ackPending := false
                         settle := if s.mu.station = .listening then insertAddr s.rosterSet s.own else s.rosterSet }

theorem State.applyRelease_of_halted (halted : s.hu.halt = .halted) {a : Addr} (member : s.isMember a = true) :
    s.applyRelease = if s.pressureLost && s.mu.station.active then ((s.setHu s.releasing).raise .haltReleased).enqueue (.halt reasonPressure)
      else (s.setHu s.releasing).raise .haltReleased := by
  have some' : s.releasing.settle ≠ 0 := fun zero => by
    have here := inSet_rosterSet s a
    rw [member] at here
    have inside : inSet s.releasing.settle a = true := by
      show inSet (if s.mu.station = .listening then insertAddr s.rosterSet s.own else s.rosterSet) a = true
      split
      · rw [inSet_insertAddr, here]
        rfl
      · exact here
    rw [zero] at inside
    simp [inSet] at inside
  have still : (s.setHu s.releasing).testSettle = s.setHu s.releasing := if_neg fun both => some' both.2
  unfold State.applyRelease
  rw [if_pos halted]
  dsimp only
  rw [show (s.setHu { s.hu.clearRound with
    halt := .settling, ackPending := false
    settle := if s.mu.station = .listening then insertAddr s.rosterSet s.own else s.rosterSet }) = s.setHu s.releasing from rfl, still]
  rfl

theorem State.applyHaltAck_hu (s : State) (a : Addr) (m : Byte) : (s.applyHaltAck a m).hu =
    if s.hu.round = .opened ∧ inSet s.hu.ackSet a ∧ (s.hu.acked[a.val]).isNone then
      HaltUnit.tested { s.hu with acked := s.hu.acked.set a.val (some m) }
    else s.hu := by
  unfold State.applyHaltAck
  split
  · exact State.testRound_hu _
  · rfl

theorem closing_ackPending (v : State) (clear : v.hu.ackPending = false) : v.closing.hu = v.hu := by
  have hu : v.announceAll.hu = v.hu := hu_of_bare v.announceAll_bare
  unfold State.closing
  generalize v.announceAll = w at hu
  have tested : w.ackTest = w := if_neg fun both => by
    rw [hu, clear] at both
    cases both.1
  rw [tested]
  exact (hu_of_mute w.leaveTest_mute).trans hu

/-- R159: the end of a frame makes no acknowledgement pending. -/
theorem settle_hu_of_clear (u : State) (b : Bool) (clear : u.hu.ackPending = false) :
    ((u.recompute.evaluateIf b).rested).hu = u.hu := by
  have hu : (u.recompute.evaluateIf b).hu = u.hu := (State.evaluateIf_hu _ b).trans u.recompute_hu
  generalize u.recompute.evaluateIf b = v at hu
  obtain ⟨-, -, -, tested, -⟩ := v.staleTest_parts
  unfold State.rested
  rw [closing_ackPending _ (by rw [tested, hu, clear]), tested, hu]

end Sys2Proof.Machine
end

section
/-!
SUPPORT. The rest that HALT_ACK and RELEASE frames turn on.
-/

namespace Sys2Proof.Machine

theorem HaltUnit.tested_kept (h : HaltUnit) : h.tested.halt = h.halt ∧ h.tested.reasons = h.reasons ∧
    h.tested.ackSet = h.ackSet ∧ h.tested.missing = h.missing := by
  unfold HaltUnit.tested
  split <;> exact ⟨rfl, rfl, rfl, rfl⟩

theorem HaltUnit.tested_acked (h : HaltUnit) : h.tested.acked = h.acked := by
  unfold HaltUnit.tested
  split <;> rfl

/-- R164: an applied RELEASE leaves all but the halt unit, the events and the outbound set. -/
theorem State.applyRelease_parts (s : State) : s.applyRelease.calm.bare = s.calm.bare ∧ s.applyRelease.rm = s.rm ∧
    s.applyRelease.chans = s.chans := by
  have freed : ∀ v : HaltUnit, ((s.setHu v).testSettle.raise .haltReleased).calm = s.calm := fun v => by
    rw [State.raise_calm, State.testSettle_calm, State.setHu_calm]
  unfold State.applyRelease
  split
  · dsimp only
    generalize HaltUnit.mk _ _ _ _ _ _ _ _ _ _ _ _ _ = v
    have calm := freed v
    generalize (s.setHu v).testSettle.raise .haltReleased = w at calm
    split
    · refine ⟨?_, (State.enqueue_rm _ _).trans (rm_of_calm calm), ?_⟩
      · rw [← calm]
        unfold State.enqueue
        split <;> rfl
      · rw [← chans_of_calm calm]
        unfold State.enqueue
        split <;> rfl
    · exact ⟨congrArg State.bare calm, rm_of_calm calm, chans_of_calm calm⟩
  · exact ⟨rfl, rfl, rfl⟩

theorem State.enqueue_hu (s : State) (f : OutFrame) : (s.enqueue f).hu = s.hu := by
  unfold State.enqueue
  split <;> rfl

theorem haltPending_of_enqueue {s : State} {r : BitVec 4} {n : Nat} (takes : s.mu.station.takes (.halt r) = true)
    (bit : r.getLsbD n = true) : (s.enqueue (.halt r)).Urges n := by
  have queued : ∀ out : List OutFrame, ∃ q, OutFrame.halt q ∈ insertOut (.halt r) out ∧ q.getLsbD n = true := by
    intro out
    induction out with
    | nil => exact ⟨r, List.mem_cons_self, bit⟩
    | cons g out ih =>
      unfold insertOut
      split
      · next same =>
        cases g with
        | halt q => exact ⟨q ||| r, List.mem_cons_self, by rw [BitVec.getLsbD_or, bit, Bool.or_true]⟩
        | _ => cases same
      · obtain ⟨q, member, set⟩ := ih
        exact ⟨q, List.mem_cons_of_mem _ member, set⟩
  unfold State.enqueue
  rw [if_pos takes]
  exact queued _

section
variable {s h : State} {f : Frame} (heard : s.Heard h f)
include heard

/-- What an entry to HALTED by a HALT frame leaves. -/
theorem haltApplied_of_entered {reasons : Byte} (other : s.hu.halt ≠ .halted) {g : HaltUnit → HaltUnit} {hu : HaltUnit}
    (unit : h.haltedUnit (toReasons reasons) g = hu) (halt : hu.halt = .halted)
    (words : hu.reasons = toReasons reasons) (settle : hu.settle = 0)
    (pending : hu.ackPending = (s.hu.ackPending || s.mu.station.active))
    (opened : s.mu.station ≠ .listening → hu.round = .opened ∧ hu.ackSet = s.rosterSet ∧ (∀ b : Addr, hu.acked[b.val] = none) ∧
      hu.missing = 0 ∧ hu.roundTimer = some 75000)
    (still : s.mu.station = .listening → hu.round = .none ∧ hu.roundTimer = none) :
    s.HaltApplied (((h.enterHalted (toReasons reasons) g).recompute.evaluateIf false).rested) reasons := by
  have chan := heard.chan
  have head : ∀ c, h.head c = s.head c := fun c => by
    unfold State.head
    rw [heard.rm]
  have station := heard.station
  have ct := heard.ct
  have rm := heard.rm
  have straps := heard.straps
  clear heard
  have neat : s.RunsSound → s.OneHead → h.Tidy := fun runs one =>
    tidy_of_rm (s := s) (congrArg RunUnit.pool rm) (State.tidy_of_sound runs one)
  have unit' : (h.enterHalted (toReasons reasons) g).hu = hu := (h.enterHalted_hu _ _).trans unit
  have closed := fun tidy => closedHeads_of_halted (r := toReasons reasons) (f := g) (s := h) tidy (by rw [unit, halt]; nofun)
  have shut := fun tidy c x head flows drives slow =>
    State.Tidy.enterHalted_shuts (s := h) tidy (toReasons reasons) g (c := c) (x := x) head flows drives slow
  have slowly := confirmed_enterHalted h (toReasons reasons) g
  have event := h.hasEvent_enterHalted (toReasons reasons) g
  have eMu := h.enterHalted_mu (toReasons reasons) g
  have eCt := (h.enterHalted_ct (toReasons reasons) g).trans ct
  have eStraps := (h.enterHalted_straps (toReasons reasons) g).trans straps
  generalize h.enterHalted (toReasons reasons) g = u at *
  obtain ⟨p, own⟩ := settle_hu u false
  rw [unit'] at own
  refine ⟨by rw [own]; exact halt, fun same => absurd same other, fun _ => ⟨by rw [own]; exact words, ?_, by rw [own]; exact settle,
    fun runs one => ?_, fun active => ?_⟩, fun _ apart => ?_, fun _ listens => ?_, fun b c => ?_, ?_⟩
  · rw [settle_hasEvent u false (by decide)]
    exact event
  · obtain ⟨quiet, closes⟩ := closed (neat runs one)
    refine ⟨quiet, fun c r found flows drives slow => ?_⟩
    rw [← chan] at drives slow ⊢
    exact closes c r (by rw [head]; exact found) flows drives slow
  · exact settle_owes u false (by rw [unit', pending, active, Bool.or_true]) (by rw [eMu, station]; exact active)
  · rw [own]
    exact opened apart
  · rw [own]
    exact still listens
  · refine (settle_says u false b c).trans ?_
    rw [eCt]
    rfl
  · have from' := recomputedFrom_rested u false
    rw [eCt] at from'
    refine ⟨from', noticesTaken_of_halted (by rw [unit', halt]; nofun) eStraps fun runs one c slow r found flows drives => ?_⟩
    rw [← chan] at drives slow ⊢
    rw [← head] at found
    exact ⟨(slowly c).trans slow, (shut (neat runs one) c r found flows drives slow).2⟩

theorem State.Heard.haltApplied {reasons : Byte} (body : f.body = .halt reasons) (member : s.isMember f.sender = true) :
    s.HaltApplied ((h.answered f).rested) reasons := by
  obtain ⟨a, seq, b⟩ := f
  dsimp only at body heard member
  subst body
  have hu := heard.hu
  have station := heard.station
  have answered : h.answered ⟨a, seq, .halt reasons⟩ = (h.applyHalt (toReasons reasons)).recompute.evaluateIf false := rfl
  rw [answered]
  by_cases halted : s.hu.halt = .halted
  · have body : h.applyHalt (toReasons reasons) = h.setHu { s.hu with reasons := s.hu.reasons ||| toReasons reasons } := by
      refine Eq.trans (if_pos (by rw [hu]; exact halted)) ?_
      rw [hu]
    rw [body]
    have again := heard.reallocated_of_plain (b := false)
      (u := h.setHu { s.hu with reasons := s.hu.reasons ||| toReasons reasons }) rfl rfl rfl rfl
    have ct : (h.setHu { s.hu with reasons := s.hu.reasons ||| toReasons reasons }).ct = s.ct := heard.ct
    have unit : (h.setHu { s.hu with reasons := s.hu.reasons ||| toReasons reasons }).hu =
          { s.hu with reasons := s.hu.reasons ||| toReasons reasons } := rfl
    generalize h.setHu { s.hu with reasons := s.hu.reasons ||| toReasons reasons } = u at *
    obtain ⟨p, own⟩ := settle_hu u false
    rw [unit] at own
    rw [ct] at again
    refine ⟨by rw [own]; exact halted, fun _ => ?_, fun other => absurd halted other, fun other => absurd halted other,
      fun other => absurd halted other, fun d c => ?_, again⟩
    · rw [own]
      exact ⟨rfl, rfl, rfl, rfl, rfl⟩
    · refine (settle_says u false d c).trans ?_
      rw [ct]
      rfl
  · have unhalted : h.hu.halt ≠ .halted := by rw [hu]; exact halted
    by_cases listens : s.mu.station = .listening
    · have body : h.applyHalt (toReasons reasons) = h.enterHalted (toReasons reasons) HaltUnit.clearRound :=
        (if_neg unhalted).trans (if_pos (by rw [station]; exact listens))
      rw [body]
      refine haltApplied_of_entered heard halted (State.haltedUnit_clear _ _) rfl rfl rfl ?_ (fun other => absurd listens other)
        fun _ => ⟨rfl, rfl⟩
      dsimp only
      rw [hu, station]
    · have body : h.applyHalt (toReasons reasons) =
          h.enterHalted (toReasons reasons) (HaltUnit.openRound h.rosterSet) :=
        (if_neg unhalted).trans (if_neg (by rw [station]; exact listens))
      rw [body]
      have member : h.isMember a = true := (heard.isMember a).trans member
      refine haltApplied_of_entered heard halted (State.haltedUnit_open member _) rfl rfl rfl ?_ (fun _ => ?_)
        fun same => absurd same listens
      · dsimp only
        rw [hu, station]
      · refine ⟨rfl, heard.rosterSet, fun b => ?_, rfl, rfl⟩
        simp

/-- R160: an applied HALT_ACK leaves all but the halt unit and the events. -/
theorem State.Heard.ackApplied {mask : Byte} (body : f.body = .haltAck mask) :
    s.AckApplied ((h.answered f).rested) f.sender mask := by
  obtain ⟨a, seq, b⟩ := f
  dsimp only at body heard ⊢
  subst body
  have hu := heard.hu
  have calm := h.applyHaltAck_calm a mask
  have ct : (h.applyHaltAck a mask).ct = s.ct := (ct_of_calm calm).trans heard.ct
  have straps : (h.applyHaltAck a mask).straps = s.straps := (straps_of_calm calm).trans heard.straps
  have mu : (h.applyHaltAck a mask).mu = h.mu := mu_of_calm calm
  have answered : h.answered ⟨a, seq, .haltAck mask⟩ = (h.applyHaltAck a mask).recompute.evaluateIf false := rfl
  rw [answered]
  have unit : (h.applyHaltAck a mask).hu = if s.hu.round = .opened ∧ inSet s.hu.ackSet a ∧ (s.hu.acked[a.val]).isNone then
      HaltUnit.tested { s.hu with acked := s.hu.acked.set a.val (some mask) } else s.hu := by
    rw [State.applyHaltAck_hu, hu]
  have kept : (h.applyHaltAck a mask).hu.halt = s.hu.halt ∧ (h.applyHaltAck a mask).hu.reasons = s.hu.reasons ∧
      (h.applyHaltAck a mask).hu.ackSet = s.hu.ackSet ∧ (h.applyHaltAck a mask).hu.missing = s.hu.missing := by
    rw [unit]
    split
    · exact HaltUnit.tested_kept { s.hu with acked := s.hu.acked.set a.val (some mask) }
    · exact ⟨rfl, rfl, rfl, rfl⟩
  obtain ⟨acked_halt, reasons, ackSet, missing⟩ := kept
  have event : s.hu.round = .opened → inSet s.hu.ackSet a = true → s.hu.acked[a.val] = none →
      ∀ e, HaltUnit.ackedSet { s.hu with acked := s.hu.acked.set a.val (some mask) } = s.hu.ackSet →
        e = (if s.hu.missing = 0 then SiteEvent.haltConfirmed else SiteEvent.haltUnconfirmed) →
        (h.applyHaltAck a mask).hasEvent e = true := by
    intro round asked silent e all same
    have body : h.applyHaltAck a mask =
        (h.setHu { s.hu with acked := s.hu.acked.set a.val (some mask) }).testRound := by
      unfold State.applyHaltAck
      rw [hu, if_pos ⟨round, asked, by rw [silent]; rfl⟩]
    rw [body, State.hasEvent_testRound, Bool.or_eq_true, Bool.and_eq_true, decide_eq_true_eq, decide_eq_true_eq]
    exact .inr ⟨⟨round, all⟩, same⟩
  have only : s.OnlyNotified (((h.applyHaltAck a mask).recompute.evaluateIf false).rested) s.ct.table := by
    refine onlyNotified_of_veil ?_ ⟨?_, ?_, ?_, ?_, ?_, ?_⟩ (by rw [ct])
    · refine Eq.trans ?_ (with_of_calm calm).symm
      have shape := heard.shape
      have outbound := heard.outbound
      unfold State.veil
      rw [mu, bus_of_calm calm, ct, ← outbound]
      generalize h.mu.roster = roster at shape
      generalize h.bus = bus at shape
      subst shape
      rfl
    · rw [ct]
    · rfl
    · rw [mu]; exact heard.orphans
    · exact acked_halt
    · exact own_rested straps
    · intro d
      unfold State.member
      rw [mu]
      exact heard.shares d
  have from' := recomputedFrom_rested (h.applyHaltAck a mask) false
  rw [ct] at from'
  generalize h.applyHaltAck a mask = u at *
  obtain ⟨p, own⟩ := settle_hu u false
  have events := fun e other => settle_hasEvent u false (e := e) other
  generalize (u.recompute.evaluateIf false).rested = t at *
  refine ⟨by rw [own]; exact acked_halt, by rw [own]; exact reasons, by rw [own]; exact ackSet, by rw [own]; exact missing,
    fun round asked silent => ?_, fun other => ?_, from', only⟩
  · rw [if_pos ⟨round, asked, by rw [silent]; rfl⟩] at unit
    have set : t.hu.acked = s.hu.acked.set a.val (some mask) := by
      rw [own]
      exact (congrArg HaltUnit.acked unit).trans (HaltUnit.tested_acked _)
    have ackedSet : t.hu.ackedSet = HaltUnit.ackedSet { s.hu with acked := s.hu.acked.set a.val (some mask) } := by
      unfold HaltUnit.ackedSet
      rw [set]
    rw [ackedSet]
    have shape : t.hu.round = u.hu.round := by rw [own]
    refine ⟨set, fun all none' => ⟨?_, ?_⟩, fun all some' => ⟨?_, ?_⟩, fun open' => ?_⟩
    · rw [shape, unit, HaltUnit.tested_of_ended { s.hu with acked := s.hu.acked.set a.val (some mask) } round all]
      exact if_pos none'
    · rw [events _ (by decide)]
      exact event round asked silent _ all (if_pos none').symm
    · rw [shape, unit, HaltUnit.tested_of_ended { s.hu with acked := s.hu.acked.set a.val (some mask) } round all]
      exact if_neg some'
    · rw [events _ (by decide)]
      exact event round asked silent _ all (if_neg some').symm
    · rw [shape, unit, HaltUnit.tested_of_other _ fun both => open' both.2]
      exact round
  · have other' : ¬ (s.hu.round = .opened ∧ inSet s.hu.ackSet a = true ∧ (s.hu.acked[a.val]).isNone = true) := by
      rintro ⟨round, asked, silent⟩
      rcases other with apart | out | answered
      · exact apart round
      · rw [out] at asked
        cases asked
      · exact answered (Option.isNone_iff_eq_none.1 silent)
    rw [if_neg other'] at unit
    rw [own, unit]
    exact ⟨rfl, rfl⟩

theorem State.Heard.releaseApplied (body : f.body = .release) (known : s.isMember f.sender = true) :
    s.ReleaseApplied ((h.answered f).rested) := by
  obtain ⟨a, seq, b⟩ := f
  dsimp only at body heard known
  subst body
  have hu := heard.hu
  have station := heard.station
  have straps := heard.straps
  obtain ⟨same, rm, chans⟩ := h.applyRelease_parts
  have mu : h.applyRelease.mu = h.mu := mu_of_bare (s := h.applyRelease.calm) (t := h.calm) same
  have ct : h.applyRelease.ct = s.ct := (ct_of_bare (s := h.applyRelease.calm) (t := h.calm) same).trans heard.ct
  have straps' : h.applyRelease.straps = h.straps := straps_of_bare (s := h.applyRelease.calm) (t := h.calm) same
  have answered : h.answered ⟨a, seq, .release⟩ = h.applyRelease.recompute.evaluateIf false := rfl
  rw [answered]
  have again := heard.reallocated_of_plain (b := false) rm chans (by rw [mu]) straps'
  rw [ct] at again
  refine ⟨fun halted => ?_, fun other => ?_, again⟩
  · have member : h.isMember a = true := (heard.isMember a).trans known
    have shape := State.applyRelease_of_halted (s := h) (by rw [hu]; exact halted) member
    have releasing : h.releasing = s.releasing := by
      unfold State.releasing
      rw [hu, station, heard.rosterSet]
      unfold State.own
      rw [straps]
    have unit : h.applyRelease.hu = s.releasing := by
      rw [shape, ← releasing]
      split
      · exact State.enqueue_hu _ _
      · rfl
    have clear := settle_hu_of_clear h.applyRelease false (by rw [unit]; rfl)
    have event : h.applyRelease.hasEvent .haltReleased = true := by
      rw [shape]
      split
      · rw [hasEvent_of_events (events_of_bare (State.enqueue_bare _ _))]
        exact State.hasEvent_raise_same _ _
      · exact State.hasEvent_raise_same _ _
    rw [clear, unit]
    refine ⟨rfl, rfl, rfl, rfl, rfl, ?_, fun ple ploss active => ?_, rfl⟩
    · rw [settle_hasEvent _ _ (by decide)]
      exact event
    · refine settle_urges h.applyRelease false ?_
      have asserted : (h.pressureLost && h.mu.station.active) = true := by
        unfold State.pressureLost
        rw [straps, hu, station, ple, ploss, active]
        rfl
      rw [shape, if_pos asserted]
      have takes : h.mu.station.takes (.halt reasonPressure) = true := by
        rw [station]
        revert active
        cases s.mu.station <;> exact id
      refine haltPending_of_enqueue takes ?_
      decide
  · have body : h.applyRelease = h := if_neg (by rw [hu]; exact other)
    obtain ⟨p, own⟩ := settle_hu h.applyRelease false
    rw [body, hu] at own
    rw [body, own]
    exact ⟨rfl, rfl, rfl⟩

/-- A HALT leaves the station where it is, and no valve that is at rest opens by it. -/
theorem State.Heard.staysOnFrame_halt {reasons : Byte} (body : f.body = .halt reasons) (stays : h.StaysOnFrame) :
    (h.bodied f).StaysOnFrame := by
  obtain ⟨a, seq, b⟩ := f
  dsimp only at body
  subst body
  show (h.applyHalt (toReasons reasons)).StaysOnFrame
  unfold State.applyHalt
  split
  · exact State.staysOnFrame_of_parts (s := h) rfl rfl rfl stays
  · split
    · exact State.staysOnFrame_enterHalted _ _ _ stays
    · exact State.staysOnFrame_enterHalted _ _ _ stays

end

end Sys2Proof.Machine
end

section
namespace Sys2Proof
open Sys2Proof.Machine

/-- Settles O35: an applied HALT by the halt state and the station state in which it is taken. -/
theorem haltFrameApplied : Obligations.HaltFrameApplied := by
  unfold Obligations.HaltFrameApplied
  intro s a seq reasons hears
  have heard := s.hearing_heard ⟨a, seq, .halt reasons⟩
  exact ⟨_, congrArg Host.Outcome.next (State.takeFrame_of_hears hears rfl fun h heard => heard.staysOnFrame_halt rfl),
    heard.haltApplied rfl (State.isMember_of_hears hears)⟩

/-- Settles O36: an applied HALT_ACK as the round of the halt unit takes it, and an applied RELEASE as `State.releasing` says. -/
theorem ackAndReleaseFramesApplied : Obligations.AckAndReleaseFramesApplied := by
  unfold Obligations.AckAndReleaseFramesApplied
  intro s a seq mask hears
  refine ⟨⟨_, congrArg Host.Outcome.next (State.takeFrame_of_hears hears rfl fun h _ => ?_), (s.hearing_heard _).ackApplied rfl⟩,
    ⟨_, congrArg Host.Outcome.next (State.takeFrame_of_hears hears rfl fun h _ => ?_),
      (s.hearing_heard _).releaseApplied rfl (State.isMember_of_hears hears)⟩⟩
  · have calm := h.applyHaltAck_calm a mask
    exact State.staysOnFrame_of_parts (congrArg MemberUnit.station (mu_of_calm calm))
      (congrArg MemberUnit.cause (mu_of_calm calm)) (chans_of_calm calm)
  · obtain ⟨same, -, chans⟩ := h.applyRelease_parts
    have mu : h.applyRelease.mu = h.mu := mu_of_bare (s := h.applyRelease.calm) (t := h.calm) same
    exact State.staysOnFrame_of_parts (congrArg MemberUnit.station mu) (congrArg MemberUnit.cause mu) chans

end Sys2Proof
end

section
/-!
SUPPORT. CANCEL by the state of the run it finds (R63, R57, R58), and what an admission leaves of the new run (R47).
-/

namespace Sys2Proof.Machine

variable {s : State}

/-! ### A run found by its handle -/

theorem findRun_updateRun {pool : List Run} {h : Nat} {r : Run} (found : findRun pool h = some r) {f : Run → Run}
    (same : ∀ q, (f q).handle = q.handle) : findRun (updateRun pool h f) h = some (f r) := by
  unfold findRun at found ⊢
  unfold updateRun
  rw [List.find?_map]
  have test : ((fun q : Run => q.handle == h) ∘ fun q => if (q.handle == h) = true then f q else q) = fun q => q.handle == h := by
    funext q
    show (((if (q.handle == h) = true then f q else q) : Run).handle == h) = (q.handle == h)
    by_cases own : (q.handle == h) = true
    · rw [if_pos own, same]
    · rw [if_neg own]
  rw [test, found, Option.map_some, if_pos (List.find?_some found)]

theorem mem_updateRun_of_found {pool : List Run} {h : Nat} {r : Run} (found : findRun pool h = some r) (f : Run → Run) :
    f r ∈ updateRun pool h f :=
  mem_updateRun.2 ⟨r, List.mem_of_find?_eq_some found, by
    exact if_pos (beq_iff_eq.1 (List.find?_some (p := fun q : Run => q.handle == h) found))⟩

theorem State.head_modRun (s : State) (h : Nat) {f : Run → Run} (channel : ∀ q, (f q).channel = q.channel)
    (state : ∀ q, (f q).state = q.state) (c : Chan) :
    (s.modRun h f).head c = (s.head c).map fun q => if q.handle == h then f q else q := by
  show headOf (updateRun s.rm.pool h f) c = (headOf s.rm.pool c).map _
  unfold headOf updateRun
  rw [List.find?_map]
  refine congrArg (Option.map _) (congrArg (fun p => s.rm.pool.find? p) (funext fun q => ?_))
  show (((if (q.handle == h) = true then f q else q) : Run).channel == c &&
    ((if (q.handle == h) = true then f q else q) : Run).state.isHead) = (q.channel == c && q.state.isHead)
  split
  · rw [channel, state]
  · rfl

/-! ### An end by the state of the run, whatever else the pool holds (R56–R60) -/

section
variable {h : Nat} {r : Run} (found : findRun s.rm.pool h = some r) (open' : r.endResult = none) (e : EndResult)
include found

theorem State.findRun_resulted : findRun (s.resulted h e).rm.pool h = some { r with endResult := some e } :=
  findRun_updateRun found fun _ => rfl

include open'

theorem State.endRun_departs (waits : r.state = .gated ∨ r.state = .queued ∨ r.state = .asking) :
    (s.endRun h e).log = { s.log with
      records := s.log.records ++ [completionRecord { r with endResult := some e } false s.clock.seconds]
      reservations := s.log.reservations - 1 } ∧
    (s.endRun h e).rm.pool.length + 1 = s.rm.pool.length := by
  have there := State.findRun_resulted found e
  rw [State.endRun_of_waiting found open' e waits]
  refine ⟨(congrArg Prod.snd (State.depart_roll _ h false _ there)).trans rfl, ?_⟩
  · exact (State.depart_length _ h false _ there).trans (List.length_map ..)

theorem State.endRun_goes_on {q : Purpose} (closes : r.state = .closing q) :
    (s.endRun h e).log = s.log ∧ { r with state := .closing .ending, endResult := some e } ∈ (s.endRun h e).rm.pool ∧
      (s.endRun h e).chans = s.chans := by
  rw [State.endRun_of_closing found open' e closes]
  exact ⟨rfl, mem_updateRun_of_found (State.findRun_resulted found e) _, rfl⟩

theorem State.endRun_closes (flows : r.state = .flowing) (head : s.head r.channel = some r)
    (slow : (s.chan r.channel).confirmed = false) :
    s.endRun h e = (s.resulted h e).begun { r with endResult := some e } .ending := by
  have own : r.handle = h := (State.mem_of_findRun found).2
  have there : (s.resulted h e).head r.channel = some { r with endResult := some e } := by
    refine (State.head_modRun s h (f := fun q => { q with endResult := some e }) (fun _ => rfl) (fun _ => rfl) r.channel).trans ?_
    rw [head, Option.map_some, if_pos (beq_iff_eq.2 own)]
  rw [State.endRun_of_flowing found open' e flows]
  refine (State.demandClose_of_flowing there flows .ending rfl).1 fun shuts => ?_
  have confirmed : (s.chan r.channel).confirmed = true := shuts.confirmed
  rw [slow] at confirmed
  cases confirmed

end

/-! ### CANCEL (R63) -/

theorem State.runCancel_of_gone (gone : findRun s.rm.pool (s.port.arg 0).toNat = none) :
    s.runCancel = s.finish .noSuchRun [] := by
  unfold State.runCancel
  rw [gone]
  rfl

theorem State.runCancel_of_live {r : Run} (live : findRun s.rm.pool (s.port.arg 0).toNat = some r) :
    s.runCancel = (s.endRun (s.port.arg 0).toNat .cancelled).conclude.finish .ok [] := by
  unfold State.runCancel
  rw [live]
  show ((s.endRun r.handle .cancelled).conclude).accept [] = _
  rw [(State.mem_of_findRun live).2]
  rfl

/-! ### Admission (R47) -/

/-- The state of a run that has just been admitted: its values are those of the new run, and no other run holds its handle. -/
def State.Fresh (s : State) (r : Run) : Prop :=
  (∃ x ∈ s.rm.pool, x.handle = r.handle) ∧ ∀ x ∈ s.rm.pool, x.handle = r.handle →
    x = { r with state := x.state } ∧ (x.state = .gated ∨ x.state = .queued ∨ x.state = .asking) ∧
      (r.state = .gated → x.state = .gated)

namespace State.Fresh

variable {r : Run}

theorem of_rm {t : State} (fresh : s.Fresh r) (same : t.rm = s.rm) : t.Fresh r := by
  unfold State.Fresh
  rw [same]
  exact fresh

theorem modRun (fresh : s.Fresh r) {h : Nat} (other : h ≠ r.handle) {f : Run → Run} (same : ∀ q, (f q).handle = q.handle) :
    (s.modRun h f).Fresh r := by
  obtain ⟨⟨x, live, own⟩, all⟩ := fresh
  refine ⟨⟨x, mem_updateRun.2 ⟨x, live, if_neg fun here => other (here.symm.trans own)⟩, own⟩, fun y hy mine => ?_⟩
  obtain ⟨z, hz, rfl⟩ := mem_updateRun.1 hy
  by_cases here : z.handle = h
  · rw [if_pos here, same] at mine
    exact absurd (here.symm.trans mine) other
  · rw [if_neg here] at mine ⊢
    exact all z hz mine

theorem setRunState (fresh : s.Fresh r) {h : Nat} (free : h = r.handle → r.state ≠ .gated) {st : RunState}
    (waits : st = .queued ∨ st = .asking) : (s.setRunState h st).Fresh r := by
  by_cases own : h = r.handle
  · obtain ⟨⟨x, live, mine⟩, all⟩ := fresh
    refine ⟨⟨_, mem_updateRun.2 ⟨x, live, rfl⟩, ?_⟩, fun y hy mine => ?_⟩
    · rw [if_pos (mine.trans own.symm)]
      exact mine
    · obtain ⟨z, hz, rfl⟩ := mem_updateRun.1 hy
      by_cases here : z.handle = h
      · rw [if_pos here]
        have values := (all z hz (here.trans own)).1
        exact ⟨congrArg (fun q : Run => { q with state := st }) values, .inr waits, fun gated => absurd gated (free own)⟩
      · rw [if_neg here] at mine
        exact absurd (mine.trans own.symm) here
  · exact fresh.modRun own fun _ => rfl

theorem not_gated (fresh : s.Fresh r) {q : Run} (live : q ∈ s.rm.pool) (eligible : q.state ≠ .gated) (own : q.handle = r.handle) :
    r.state ≠ .gated := fun gated => eligible ((fresh.2 q live own).2.2 gated)

theorem pickHead (fresh : s.Fresh r) (c : Chan) : (s.pickHead c).Fresh r := by
  cases first : firstEligible s.rm.pool c with
  | none => rwa [State.pickHead_of_none first]
  | some q =>
    obtain ⟨live, _, eligible⟩ := of_firstEligible first
    rw [State.pickHead_of_some first]
    exact fresh.setRunState (fresh.not_gated live eligible) (.inr rfl)

theorem preempt (fresh : s.Fresh r) {a : Run} (live : a ∈ s.rm.pool) (flows : a.state = .flowing) (c : Chan) :
    (s.preempt c a).Fresh r := by
  have other : a.handle ≠ r.handle := fun own => by
    have waits := (fresh.2 a live own).2.1
    rw [flows] at waits
    rcases waits with e | e | e <;> cases e
  have moved : (s.modRun a.handle Run.preempted).Fresh r := fresh.modRun other fun _ => rfl
  unfold State.preempt
  dsimp only
  split
  · exact ((moved.of_rm (t := (s.modRun a.handle Run.preempted).setChan c _) rfl).setRunState
      (fun own => absurd own other) (.inl rfl)).pickHead c
  · exact moved.of_rm rfl

theorem headSelect (fresh : s.Fresh r) (c : Chan) : (s.headSelect c).Fresh r := by
  unfold State.headSelect
  cases head : s.head c with
  | none => exact fresh.pickHead c
  | some a =>
    have live : a ∈ s.rm.pool := List.mem_of_find?_eq_some head
    dsimp only
    cases state : a.state with
    | asking =>
      cases first : firstEligible s.rm.pool c with
      | none => exact fresh
      | some q =>
        obtain ⟨there, _, eligible⟩ := of_firstEligible first
        dsimp only
        split
        · exact fresh
        · exact (fresh.setRunState (fresh.not_gated live (by rw [state]; nofun)) (.inl rfl)).setRunState
            (fresh.not_gated there eligible) (.inr rfl)
    | flowing =>
      cases firstEligible s.rm.pool c with
      | none => exact fresh
      | some q =>
        dsimp only
        split
        · exact fresh
        · exact fresh.preempt live state c
    | _ => exact fresh

end State.Fresh

theorem State.newRun_state (s : State) (c : Chan) (args : RunArgs) : (s.newRun c args).state = .gated ∨ (s.newRun c args).state = .queued := by
  show (if s.gateOpen args.gate then RunState.queued else .gated) = .gated ∨ (if s.gateOpen args.gate then RunState.queued else .gated) = .queued
  cases s.gateOpen args.gate
  · exact .inl rfl
  · exact .inr rfl

/-- R47 step 5: the new run stands in its list as it was made, but for a head selection. -/
theorem State.enterList_fresh {r : Run} (free : ∀ q ∈ s.rm.pool, q.handle ≠ r.handle) (waits : r.state = .gated ∨ r.state = .queued) :
    (s.enterList r).Fresh r := by
  refine State.Fresh.headSelect ⟨⟨r, List.mem_append_right _ List.mem_cons_self, rfl⟩, fun x live own => ?_⟩ r.channel
  rcases List.mem_append.1 live with old | new
  · exact absurd own (free x old)
  · obtain rfl := List.mem_singleton.1 new
    exact ⟨rfl, waits.imp_right .inl, id⟩

theorem State.enterList_roll (s : State) (r : Run) :
    (s.enterList r).roll = ((s.rm.pool ++ [r]).map Run.handle, s.log) := State.headSelect_roll _ _

theorem State.stopAtAdmission_roll (s : State) (r : Run) : (s.stopAtAdmission r).roll =
    (s.rm.pool.map Run.handle, { s.log with
      records := s.log.records ++ [completionRecord { r with endResult := some .stopped } false s.clock.seconds]
      reservations := s.log.reservations - 1 }) := State.releaseWaiting_roll _ _

theorem State.enterList_bare (s : State) (r : Run) : (s.enterList r).bare = s.bare := State.headSelect_bare _ _

theorem State.pool_of_admitted {ctx : List Byte} {c : Chan} {args : RunArgs} (admitted : s.admission ctx = .admitted c args) :
    s.rm.pool.length < 24 := by
  have full := (State.present_and_room_of_admitted admitted).2
  unfold State.fullness at full
  split at full
  · cases full
  · split at full
    · cases full
    · next bound => exact Nat.lt_of_not_le bound

theorem State.runSubmit_of_admitted {c : Chan} {args : RunArgs}
    (admitted : s.admission (submitContext s.port.args) = .admitted c args) :
    s.runSubmit = (s.beginRun c { args with submitTime := s.clock.seconds }).finish .ok [byteOf s.rm.nextHandle] := by
  unfold State.runSubmit State.runAdmission
  rw [admitted]
  rfl

theorem State.runLoadRun_of_admitted {c : Chan} {args : RunArgs} (admitted : s.admission s.port.args = .admitted c args) :
    s.runLoadRun = (s.beginRun c args).finish .ok [byteOf s.rm.nextHandle] := by
  unfold State.runLoadRun State.runAdmission
  rw [admitted]
  rfl

/-- R47: what an accepted admission leaves, by the stop flag of the new run. -/
theorem State.beginRun_parts (stays : s.Stays) (room : s.rm.pool.length < 24) (c : Chan) (args : RunArgs) :
    (s.beginRun c args).rm.handleCounter = s.rm.nextHandle ∧
    (s.stopSet args.stopFlag = false →
      (s.beginRun c args).log = { s.log with reservations := s.log.reservations + 1 } ∧
      (s.beginRun c args).rm.pool.length = s.rm.pool.length + 1 ∧ (s.beginRun c args).Fresh (s.newRun c args)) ∧
    (s.stopSet args.stopFlag = true →
      (s.beginRun c args).log = { s.log with records := s.log.records ++
        [completionRecord { s.newRun c args with endResult := some .stopped } false s.clock.seconds] } ∧
      (s.beginRun c args).rm.pool.length = s.rm.pool.length) ∧
    (s.beginRun c args).ct = s.ct ∧ (s.beginRun c args).mu = s.mu ∧ (s.beginRun c args).events = s.events ∧
    (s.beginRun c args).site = s.site ∧ (s.beginRun c args).clock = s.clock := by
  have bare := s.admitted_bare c args
  have mu : (s.admitted c args).mu = s.mu := (mu_of_bare bare).trans rfl
  rw [State.beginRun_eq,
    State.conclude_of_not_quits (State.not_quits_of_stays (by unfold State.Stays; rw [mu]; exact stays)), State.closing_rm,
    State.closing_log]
  refine ⟨(handleCounter_of_bare bare).trans rfl, fun calm => ?_, fun stopped => ?_, (State.closing_ct _).trans ((ct_of_bare bare).trans rfl),
    (State.closing_mu _).trans mu, (State.closing_events _).trans ((events_of_bare bare).trans rfl),
    (State.closing_site _).trans ((site_of_bare bare).trans rfl), (State.closing_clock _).trans ((clock_of_bare bare).trans rfl)⟩
  · have here : s.admitted c args = s.reserve.enterList (s.newRun c args) := if_neg (by rw [calm]; nofun)
    have roll := s.reserve.enterList_roll (s.newRun c args)
    have free : ∀ q ∈ s.rm.pool, q.handle ≠ (s.newRun c args).handle := (nextHandle_fresh s.rm (Nat.le_of_lt room)).2
    have fresh := State.enterList_fresh (s := s.reserve) free (s.newRun_state c args)
    rw [here]
    generalize s.reserve.enterList (s.newRun c args) = t at roll fresh
    refine ⟨(congrArg Prod.snd roll).trans rfl, ?_, fresh.of_rm (State.closing_rm t)⟩
    have length := congrArg (fun x : List Nat × LogUnit => x.1.length) roll
    simpa [State.roll, State.reserve] using length
  · have here : s.admitted c args = s.reserve.stopAtAdmission (s.newRun c args) := if_pos stopped
    have roll := s.reserve.stopAtAdmission_roll (s.newRun c args)
    rw [here]
    refine ⟨(congrArg Prod.snd roll).trans rfl, ?_⟩
    have length := congrArg (fun x : List Nat × LogUnit => x.1.length) roll
    simpa [State.roll, State.reserve] using length

end Sys2Proof.Machine
end

section
namespace Sys2Proof
open Sys2Proof.Machine

/-- Settles O11: an accepted admission by its stop flag; the submit time is the one thing in which the two commands differ. -/
theorem admissionMakesRun : Obligations.AdmissionMakesRun := by
  unfold Obligations.AdmissionMakesRun
  intro s k ctx c args released stays awaits named admitted
  have room := State.pool_of_admitted admitted
  have step : exec (hostRow k) s = .next ((s.beginRun c { args with
      submitTime := if k = .submit then s.clock.seconds else args.submitTime }).finish .ok [byteOf s.rm.nextHandle]) := by
    rw [exec_host_of_awaits released awaits]
    rcases named with ⟨rfl, rfl⟩ | ⟨rfl, rfl⟩
    · exact congrArg _ (State.runSubmit_of_admitted admitted)
    · exact congrArg _ (State.runLoadRun_of_admitted admitted)
  generalize submit : (if k = .submit then s.clock.seconds else args.submitTime) = time at step ⊢
  obtain ⟨counter, calm, stopped, ct, mu, events, site, clock⟩ := s.beginRun_parts stays room c { args with submitTime := time }
  have port := s.beginRun_port c { args with submitTime := time }
  generalize s.beginRun c { args with submitTime := time } = u at step counter calm stopped ct mu events site clock port
  refine ⟨_, step, State.finish_port_congr port .ok _, counter, fun clear => ?_, fun set => ?_, ct, mu, events, site, clock⟩
  · obtain ⟨log, length, ⟨r, live, own⟩, all⟩ := calm clear
    obtain ⟨values, -, waits⟩ := all r live own
    refine ⟨log, length, r, live, own, ?_⟩
    generalize r.state = st at values waits
    subst values
    exact ⟨rfl, rfl, rfl, rfl, rfl, rfl, rfl, rfl, rfl, rfl, rfl, rfl, rfl, rfl, rfl,
      fun shut => waits (if_neg (by rw [shut]; nofun))⟩
  · obtain ⟨log, length⟩ := stopped set
    exact ⟨(congrArg LogUnit.reservations log).trans rfl, length, _, (congrArg LogUnit.records log).trans rfl, rfl, rfl, rfl, rfl, rfl⟩

/-- Settles O12: the run that CANCEL finds ends by its state; the end of the event writes neither runs nor the log. -/
theorem cancelEndsRun : Obligations.CancelEndsRun := by
  unfold Obligations.CancelEndsRun
  intro s r released stays awaits
  have step : exec .cancel s = .next s.runCancel := exec_host_of_awaits released awaits
  rw [step]
  refine ⟨fun gone => by rw [State.runCancel_of_gone gone], fun live => ?_⟩
  rw [State.runCancel_of_live live]
  have own := (State.mem_of_findRun live).2
  have bare := s.endRun_bare (s.port.arg 0).toNat .cancelled
  have parts : ∀ u : State, u = s.endRun (s.port.arg 0).toNat .cancelled →
      u.conclude.port = s.port ∧ u.conclude.ct = s.ct ∧ u.conclude.mu = s.mu ∧ u.conclude.events = s.events ∧
      u.conclude.rm = u.rm ∧ u.conclude.log = u.log ∧ ∀ c, (u.conclude.chan c).mute = (u.chan c).mute := by
    intro u here
    rw [← here] at bare
    have mu : u.mu = s.mu := mu_of_bare bare
    rw [State.conclude_of_not_quits (State.not_quits_of_stays (by unfold State.Stays; rw [mu]; exact stays))]
    exact ⟨u.closing_port.trans (port_of_bare bare), u.closing_ct.trans (ct_of_bare bare), u.closing_mu.trans mu,
      u.closing_events.trans (events_of_bare bare), u.closing_rm, u.closing_log, u.closing_chan⟩
  obtain ⟨port, ct, mu, events, rm, log, chan⟩ := parts _ rfl
  generalize (s.endRun (s.port.arg 0).toNat .cancelled).conclude = v at port ct mu events rm log chan
  refine ⟨_, rfl, State.finish_port_congr port .ok [], ct, mu, events, fun ended => ?_, fun open' waits => ?_,
    fun p open' closes => ?_, fun open' flows head drives slow => ?_⟩
  · rw [State.endRun_of_ended live ended] at rm log
    exact ⟨rm, log⟩
  · obtain ⟨entry, length⟩ := State.endRun_departs live open' .cancelled waits
    have whole := log.trans entry
    exact ⟨congrArg LogUnit.records whole, congrArg LogUnit.reservations whole, (congrArg (fun x : RunUnit => x.pool.length + 1) rm).trans length⟩
  · obtain ⟨entry, mem, _⟩ := State.endRun_goes_on live open' .cancelled closes
    rw [← rm] at mem
    exact ⟨log.trans entry, _, mem, rfl, rfl, rfl⟩
  · rw [State.endRun_closes live open' .cancelled flows head slow] at rm log chan
    have here := chan r.channel
    have set : ((s.resulted (s.port.arg 0).toNat .cancelled).begun { r with endResult := some .cancelled } .ending).chan r.channel =
      (s.chan r.channel).beginClose := State.chan_setChan_same _ _ _
    rw [set] at here
    obtain ⟨valve, timer⟩ := (Channel.beginClose_shutting drives).of_mute here
    refine ⟨log, valve, timer, { r with state := .closing .ending, endResult := some .cancelled }, ?_, rfl, rfl, rfl⟩
    have found := State.findRun_resulted live .cancelled
    nth_rw 2 [← own] at found
    have mem : ({ r with state := .closing .ending, endResult := some .cancelled } : Run) ∈ updateRun
        (s.resulted (s.port.arg 0).toNat .cancelled).rm.pool r.handle fun q => { q with state := .closing .ending } :=
      mem_updateRun_of_found found _
    exact (congrArg RunUnit.pool rm).symm ▸ mem

end Sys2Proof
end

section
/-!
SUPPORT. The end of a close: the head that was closing departs or is QUEUED again (R52, R53, R61), by the close timer (R73,
R74) and by the end switch (R73, R75); and a head that flows ends at its time limit or without flow (R110, R79).
-/

namespace Sys2Proof.Machine

variable {s : State}

/-! ### Runs changed in place -/

theorem State.Tidy.modRun (tidy : s.Tidy) (h : Nat) {f : Run → Run} (handle : ∀ q, (f q).handle = q.handle)
    (channel : ∀ q, (f q).channel = q.channel) (head : ∀ q, (f q).state.isHead = true → q.state.isHead = true) :
    (s.modRun h f).Tidy where
  handles := by
    rw [s.map_modRun_handle h f fun q _ own => (handle q).trans own]
    exact tidy.handles
  heads := by
    have back : ∀ x ∈ (s.modRun h f).rm.pool, ∃ y ∈ s.rm.pool, y.handle = x.handle ∧ y.channel = x.channel ∧
        (x.state.isHead = true → y.state.isHead = true) := by
      intro x hx
      obtain ⟨y, hy, rfl⟩ := mem_updateRun.1 hx
      refine ⟨y, hy, ?_⟩
      by_cases own : y.handle = h
      · rw [if_pos own]
        exact ⟨(handle y).symm, (channel y).symm, head y⟩
      · rw [if_neg own]
        exact ⟨rfl, rfl, id⟩
    intro r hr q hq same headR headQ
    obtain ⟨x, hx, hx1, hx2, hx3⟩ := back r hr
    obtain ⟨y, hy, hy1, hy2, hy3⟩ := back q hq
    rw [← hx1, ← hy1]
    exact tidy.heads x hx y hy (by rw [hx2, hy2, same]) (hx3 headR) (hy3 headQ)

/-- A run that flows ends: it closes for its end, and no record is written. -/
theorem State.Tidy.endRun_closes (tidy : s.Tidy) {r : Run} (live : r ∈ s.rm.pool) (open' : r.endResult = none)
    (flows : r.state = .flowing) (drives : (s.chan r.channel).valve.driven = true) (slow : (s.chan r.channel).confirmed = false)
    (e : EndResult) : { r with state := .closing .ending, endResult := some e } ∈ (s.endRun r.handle e).rm.pool ∧
      (s.endRun r.handle e).chan r.channel = { s.chan r.channel with
        valve := .closing, openTimer := none, noFlowTimer := none, closeTimer := some (s.chan r.channel).closeLoad } ∧
      (s.endRun r.handle e).log = s.log := by
  obtain ⟨mem, chan⟩ := tidy.endRun_flowing live open' flows slow e
  refine ⟨mem, chan.trans (Channel.beginClose_of_driven drives), ?_⟩
  rw [State.endRun_closes (tidy.find_eq live) open' e flows (tidy.head_eq live (isHead_of_flowing flows)) slow]
  rfl

theorem State.RunsSound.no_result (runs : s.RunsSound) {r : Run} (live : r ∈ s.rm.pool) (other : r.state ≠ .closing .ending) :
    r.endResult = none := by
  have ended := (runs.2 r live).2.2
  cases result : r.endResult with
  | none => rfl
  | some e => exact absurd (ended.1 (by rw [result]; rfl)) other

/-! ### What the end of an event leaves where the station does not listen again -/

theorem State.conclude_of_stays {u : State} (mu : u.mu = s.mu) (stays : s.Stays) : u.conclude = u.closing :=
  State.conclude_of_not_quits (State.not_quits_of_stays (by unfold State.Stays; rw [mu]; exact stays))

/-! ### Dismissal of the head of a closed channel -/

theorem State.dismissHead_of_rest {c : Chan} (rest : ∀ r ∈ s.head c, r.state.isClosing = false) (b : Bool) :
    s.dismissHead c b = s := by
  unfold State.dismissHead
  cases head : s.head c with
  | none => rfl
  | some r =>
    have still := rest r head
    dsimp only
    cases state : r.state with
    | closing q => rw [state] at still; cases still
    | _ => rfl

theorem State.dismissHead_of_ending {c : Chan} {r : Run} (head : s.head c = some r) (state : r.state = .closing .ending) (b : Bool) :
    s.dismissHead c b = s.depart r.handle b := by
  unfold State.dismissHead
  rw [head]
  dsimp only
  rw [state]

theorem State.dismissHead_of_closing {c : Chan} {r : Run} {p : Purpose} (head : s.head c = some r) (state : r.state = .closing p)
    (other : p ≠ .ending) (b : Bool) : s.dismissHead c b = s.requeue c r.handle := by
  unfold State.dismissHead
  rw [head]
  dsimp only
  rw [state]
  cases p with
  | ending => exact absurd rfl other
  | _ => rfl

theorem State.dismissHead_bare (s : State) (c : Chan) (b : Bool) : (s.dismissHead c b).bare = s.bare := by
  unfold State.dismissHead
  split
  · split
    · exact State.depart_bare _ _ _
    · exact State.requeue_bare _ _ _
    · rfl
  · rfl

/-- R52: a run that stood in its list eligible is QUEUED, and the first eligible run ASKING. -/
theorem State.requeued_of_live {c : Chan} {r : Run} (live : r ∈ s.rm.pool) (here : r.channel = c) {t : State}
    (rm : t.rm = (s.requeue c r.handle).rm) : s.Requeued t c r := by
  have pool : (s.setRunState r.handle .queued).rm.pool =
      s.rm.pool.map fun q => if q.handle = r.handle then { q with state := .queued } else q := updateRun_eq _ _ _
  have whole : (s.setRunState r.handle .queued).rm = { s.rm with
      pool := s.rm.pool.map fun q => if q.handle = r.handle then { q with state := .queued } else q } :=
    congrArg (fun x => { s.rm with pool := x }) pool
  cases first : firstEligible (s.setRunState r.handle .queued).rm.pool c with
  | none =>
    have queued : ({ r with state := .queued } : Run) ∈ (s.setRunState r.handle .queued).rm.pool :=
      mem_updateRun.2 ⟨r, live, if_pos rfl⟩
    cases firstEligible_eq_none.1 first _ queued here
  | some h =>
    refine ⟨h, by rw [← pool]; exact first, ?_⟩
    rw [rm, State.requeue, State.pickHead_of_some first]
    refine (congrArg (fun x : RunUnit => ({ x with pool := updateRun x.pool h.handle fun q => { q with state := .asking } } : RunUnit))
      whole).trans (congrArg (fun x => { s.rm with pool := x }) ?_)
    dsimp only
    rw [updateRun_eq, List.map_map]
    refine List.map_congr_left fun q _ => ?_
    by_cases own : q.handle = r.handle
    · simp [Function.comp, own]
    · simp [Function.comp, own]

theorem State.Tidy.requeue_headIsFirst (tidy : s.Tidy) {r : Run} (live : r ∈ s.rm.pool) (head : r.state.isHead = true) :
    (s.requeue r.channel r.handle).HeadIsFirst r.channel := by
  have neat : (s.setRunState r.handle .queued).Tidy :=
    tidy.modRun r.handle (f := fun q => { q with state := .queued }) (fun _ => rfl) (fun _ => rfl)
      fun q (head : RunState.queued.isHead = true) => Bool.noConfusion head
  have free := tidy.free_of_queued live head
  unfold State.requeue
  generalize s.setRunState r.handle .queued = u at neat free
  exact neat.headIsFirst_of_pickHead free

/-- R52, R53, R61: the head of a channel whose close has ended is dismissed. -/
theorem State.closeEnded_of_dismissed {u t : State} {c : Chan} {b : Bool} (rm : u.rm = s.rm) (log : u.log = s.log)
    (clock : u.clock = s.clock) (rm' : t.rm = (u.dismissHead c b).rm) (log' : t.log = (u.dismissHead c b).log) :
    s.CloseEnded t c b := by
  have same : u.head c = s.head c := by unfold State.head; rw [rm]
  refine ⟨fun rest => ?_, fun r p head state found => ?_⟩
  · rw [State.dismissHead_of_rest (same ▸ rest)] at rm' log'
    exact ⟨rm'.trans rm, log'.trans log⟩
  · obtain ⟨live, here, isHead⟩ := State.mem_of_head head
    have head' : u.head c = some r := same.trans head
    have live' : r ∈ u.rm.pool := by rw [rm]; exact live
    have found' : findRun u.rm.pool r.handle = some r := by rw [rm]; exact found
    have tidy : s.RunsSound → s.OneHead → u.Tidy := fun runs one => tidy_of_rm (by rw [rm]) (State.tidy_of_sound runs one)
    by_cases ending : p = .ending
    · subst ending
      rw [State.dismissHead_of_ending head' state] at rm' log'
      have roll := u.depart_roll r.handle b r found'
      have entry := congrArg Prod.snd roll
      have length := u.depart_length r.handle b r found'
      rw [log, clock] at entry
      have log'' := log'.trans entry
      refine ⟨fun other => absurd rfl other, fun _ => ⟨congrArg LogUnit.records log'', congrArg LogUnit.reservations log'', ?_⟩,
        fun runs one => ?_⟩
      · rw [rm', length, rm]
      · exact here ▸ headIsFirst_of_rm rm' (State.Tidy.depart_headIsFirst (tidy runs one) b live' isHead)
    · rw [State.dismissHead_of_closing head' state ending] at rm' log'
      have roll := u.requeue_roll c r.handle
      refine ⟨fun _ => ⟨log'.trans ((congrArg Prod.snd roll).trans log), ?_⟩, fun e => absurd e ending, fun runs one => ?_⟩
      · have queued := State.requeued_of_live live' here rm'
        unfold State.Requeued at queued
        rw [rm] at queued
        exact queued
      · exact here ▸ headIsFirst_of_rm (here ▸ rm') ((tidy runs one).requeue_headIsFirst live' isHead)

theorem State.dismissHead_chan {c : Chan} (fixed : (s.chan c).fixed) (b : Bool) :
    ((s.dismissHead c b).chan c).mute = (s.chan c).mute := Fixed.dismissHead s c b fixed

end Sys2Proof.Machine
end

section
/-!
SUPPORT. The timers of a head that flows (R110, R79), the end of the close timer (R73, R74) and the assertion of an end switch
(R73, R75), up to the end of the event.
-/

namespace Sys2Proof.Machine

variable {s : State}

theorem accumulator_of_mute {a b : Channel} (same : a.mute = b.mute) : a.accumulator = b.accumulator := by
  have e := congrArg Channel.accumulator same; exact e

theorem noFlowTimer_of_mute {a b : Channel} (same : a.mute = b.mute) : a.noFlowTimer = b.noFlowTimer := by
  have e := congrArg Channel.noFlowTimer same; exact e

theorem vswDue_of_mute {a b : Channel} (same : a.mute = b.mute) : a.vswDue = b.vswDue := by
  have e := congrArg Channel.vswDue same; exact e

/-! ### The time limit and the no-flow timer (R110, R79) -/

theorem State.Tidy.secondTaken (tidy : s.Tidy) (c : Chan) (h : Nat) : (s.secondTaken c h).Tidy :=
  State.Tidy.modRun (tidy_of_rm (s := s) (t := s.setChan c { s.chan c with accumulator := 0 }) rfl tidy) h (f := creditSecond) (fun _ => rfl)
    (fun _ => rfl) fun _ head => head

theorem State.mem_secondTaken {r : Run} (live : r ∈ s.rm.pool) (c : Chan) : creditSecond r ∈ (s.secondTaken c r.handle).rm.pool :=
  mem_updateRun.2 ⟨r, live, if_pos rfl⟩

theorem State.secondTaken_chan (s : State) (c : Chan) (h : Nat) :
    (s.secondTaken c h).chan c = { s.chan c with accumulator := 0 } := State.chan_setChan_same _ _ _

theorem creditSecond_of_below {r : Run} (below : r.openSeconds < 65535) :
    creditSecond r = { r with openSeconds := r.openSeconds + 1 } := by
  unfold creditSecond
  rw [Nat.min_eq_right below]

/-- R79: the expiry of the no-flow timer over a head. -/
theorem State.expireNoFlow_of_due {c : Chan} {r : Run} (due : (s.chan c).noFlowTimer = some 0) (opened : (s.chan c).valve = .opened)
    (head : s.head c = some r) : s.expireNoFlow c = ((s.parched c).endRun r.handle .noFlow).conclude := by
  have there : (s.parched c).head c = some r := by
    unfold State.parched
    rw [State.addFault_parts]
    exact head
  have whole : s.expireNoFlow c = (s.runDry c).conclude := if_pos ⟨by rw [due]; rfl, opened⟩
  rw [whole, s.runDry_eq, there]

theorem State.parched_chan (s : State) (c : Chan) : (s.parched c).chan c =
    { s.chan c with noFlowTimer := none, faults := { (s.chan c).faults with dry := true } } := by
  unfold State.parched
  rw [State.addFault_chan_same, State.chan_setChan_same]

theorem State.addFault_rm (s : State) (c : Chan) (f : Faults → Faults) : (s.addFault c f).rm = s.rm := by rw [State.addFault_parts]
theorem State.addFault_log (s : State) (c : Chan) (f : Faults → Faults) : (s.addFault c f).log = s.log := by rw [State.addFault_parts]
theorem State.addFault_mu (s : State) (c : Chan) (f : Faults → Faults) : (s.addFault c f).mu = s.mu := by rw [State.addFault_parts]
theorem State.addFault_clock (s : State) (c : Chan) (f : Faults → Faults) : (s.addFault c f).clock = s.clock := by
  rw [State.addFault_parts]

/-- R77: the first fault kind of a channel sets its event bit. -/
theorem State.faultBit_addFault (s : State) (c : Chan) (f : Faults → Faults) (healthy : (s.chan c).inFault = false) :
    (s.addFault c f).events.faultCh.getLsbD c.val = true := by
  unfold State.addFault
  dsimp only
  rw [if_neg (by rw [healthy]; nofun)]
  show (s.raiseFault c).events.faultCh.getLsbD c.val = true
  rw [State.faultBit_raiseFault, decide_eq_true rfl, Bool.or_true]

/-! ### The close timer (R73, R74) -/

theorem Channel.closeLoad_of_settings {ch : Channel} {set : ChannelSettings} (settings : ch.settings = some set) :
    ch.closeLoad = if set.endSwitch then 2000 * set.closeTime else 1000 * set.closeTime := by
  unfold Channel.closeLoad
  rw [settings]
  dsimp only
  split <;> omega

theorem Channel.hasSwitch_of_settings {ch : Channel} {set : ChannelSettings} (settings : ch.settings = some set) :
    ch.hasSwitch = set.endSwitch := by
  unfold Channel.hasSwitch
  rw [settings]
  rfl

theorem Channel.confirmed_iff {ch : Channel} {set : ChannelSettings} (settings : ch.settings = some set) :
    ch.confirmed = true ↔ set.endSwitch = true ∧ ch.vsw = some true := by
  unfold Channel.confirmed
  rw [Channel.hasSwitch_of_settings settings, Bool.and_eq_true, beq_iff_eq]

/-- The channel of a close timer that has run out, its head still to be dismissed. -/
def State.closedOut (s : State) (c : Chan) (notConfirmed : Bool) : State :=
  if notConfirmed then s.jammed c else s.setChan c (s.chan c).endClose

theorem State.expireClose_of_due {c : Chan} {set : ChannelSettings} (settings : (s.chan c).settings = some set)
    (closing : (s.chan c).valve = .closing) (due : (s.chan c).closeTimer = some 0) :
    s.expireClose c = ((s.closedOut c (set.endSwitch && (s.chan c).vsw != some true)).dismissHead c
      (set.endSwitch && (s.chan c).vsw != some true)).conclude := by
  have whole : s.expireClose c =
      (if (s.chan c).hasSwitch ∧ ¬ (s.chan c).confirmed then s.declareStuck c else s.completeClose c).conclude :=
    if_pos ⟨by rw [due]; rfl, closing⟩
  have confirmed : (s.chan c).confirmed = (set.endSwitch && (s.chan c).vsw == some true) := by
    unfold Channel.confirmed
    rw [Channel.hasSwitch_of_settings settings]
  rw [whole, State.declareStuck_eq, State.completeClose_eq, Channel.hasSwitch_of_settings settings, confirmed]
  unfold State.closedOut
  cases set.endSwitch
  · rfl
  · cases taken : (s.chan c).vsw == some true
    · rw [show ((s.chan c).vsw != some true) = true from congrArg not taken]
      rfl
    · rw [show ((s.chan c).vsw != some true) = false from congrArg not taken]
      rfl

theorem State.closedOut_parts (s : State) (c : Chan) (b : Bool) : (s.closedOut c b).rm = s.rm ∧ (s.closedOut c b).log = s.log ∧
    (s.closedOut c b).clock = s.clock ∧ (s.closedOut c b).mu = s.mu := by
  unfold State.closedOut
  cases b
  · exact ⟨rfl, rfl, rfl, rfl⟩
  · rw [if_pos rfl, State.jammed, State.addFault_rm, State.addFault_log, State.addFault_clock, State.addFault_mu]
    exact ⟨rfl, rfl, rfl, rfl⟩

theorem State.closedOut_true_chan (s : State) (c : Chan) : (s.closedOut c true).chan c = { s.chan c with
    valve := .stuck, closeTimer := none, stuckValues := some (stuckValuesOf (s.head c))
    faults := { (s.chan c).faults with stuck := true } } := by
  show (s.jammed c).chan c = _
  unfold State.jammed
  rw [State.addFault_chan_same, State.chan_setChan_same]

theorem State.closedOut_true_fault (s : State) {c : Chan} (healthy : (s.chan c).inFault = false) :
    (s.closedOut c true).events.faultCh.getLsbD c.val = true := by
  show (s.jammed c).events.faultCh.getLsbD c.val = true
  unfold State.jammed
  exact State.faultBit_addFault _ _ _ (by rw [State.chan_setChan_same]; exact healthy)

theorem State.closedOut_false_chan (s : State) (c : Chan) : (s.closedOut c false).chan c = (s.chan c).endClose :=
  State.chan_setChan_same _ _ _

theorem State.closedOut_fixed (s : State) (c : Chan) (b : Bool) : ((s.closedOut c b).chan c).fixed := by
  cases b
  · rw [s.closedOut_false_chan]
    exact Channel.fixed_of_closed rfl
  · rw [s.closedOut_true_chan]
    exact Channel.fixed_of_stuck rfl

theorem stuckValuesOf_of_rest {head : Option Run} (rest : ∀ r ∈ head, r.state.isClosing = false) : stuckValuesOf head = (3, 63) := by
  cases head with
  | none => rfl
  | some r => exact if_neg (by rw [rest r rfl]; nofun)

/-! ### The end switch (R73, R75) -/

/-- The channel of an end switch that is taken asserted, its head still to be dismissed. -/
def Channel.switched (ch : Channel) : Channel :=
  if ch.hasSwitch = true then
    match ch.valve with
    | .closing => (ch.takeVsw true).endClose
    | .stuck => (ch.takeVsw true).releaseStuck
    | _ => ch.takeVsw true
  else ch.takeVsw true

theorem State.switchDue_iff {c : Chan} {set : ChannelSettings} (settings : (s.chan c).settings = some set) (b : Bool) :
    s.switchDue c b = true ↔ (s.chan c).vswDue = some b := by
  unfold State.switchDue Channel.present
  rw [settings, Bool.and_eq_true, beq_iff_eq]
  exact and_iff_right rfl

theorem exec_endSwitchDeassertion_of_due {c : Chan} (released : s.inReset = false) (due : s.switchDue c false = true) :
    exec (.endSwitchDeassertion c) s = .next (s.setChan c { s.chan c with vsw := some false, vswDue := none }) := by
  have given : exec (.endSwitchDeassertion c) s = .next (s.whenReleased fun s => s.deassertSwitch c) :=
    congrArg Host.Outcome.next (if_pos due)
  rw [given, State.whenReleased_of_released _ released, State.deassertSwitch, if_pos due]
  rfl

theorem exec_endSwitchAssertion_of_due {c : Chan} (released : s.inReset = false) (due : s.switchDue c true = true) :
    exec (.endSwitchAssertion c) s = .next (if (s.chan c).hasSwitch = true ∧ (s.chan c).valve = .closing then
      ((s.setChan c (s.chan c).switched).dismissHead c false).conclude else (s.setChan c (s.chan c).switched).conclude) := by
  have given : exec (.endSwitchAssertion c) s = .next (s.whenReleased fun s => s.assertSwitch c) :=
    congrArg Host.Outcome.next (if_pos due)
  rw [given, State.whenReleased_of_released _ released, State.assertSwitch, if_pos due]
  refine congrArg Host.Outcome.next ?_
  unfold Channel.switched
  dsimp only
  by_cases switch : (s.chan c).hasSwitch = true
  · rw [if_pos switch, if_pos switch]
    unfold State.switchCloses
    rw [State.chan_setChan_same, show ((s.chan c).takeVsw true).valve = (s.chan c).valve from rfl]
    cases valve : (s.chan c).valve with
    | closing =>
      rw [if_pos ⟨switch, rfl⟩, State.completeClose_eq, State.chan_setChan_same, State.setChan_setChan]
    | stuck =>
      rw [if_neg (by rintro ⟨-, other⟩; cases other)]
      dsimp only
      rw [State.setChan_setChan]
    | closed | opening | opened => rw [if_neg (by rintro ⟨-, other⟩; cases other)]
  · rw [if_neg switch, if_neg switch, if_neg fun both => switch both.1]

end Sys2Proof.Machine
end

section
namespace Sys2Proof
open Sys2Proof.Machine

/-- Settles O39: in both halves the head ends as a run that flows; the end of the event writes nothing of it. -/
theorem timeLimitAndNoFlowClose : Obligations.TimeLimitAndNoFlowClose := by
  unfold Obligations.TimeLimitAndNoFlowClose
  intro s c r m released stays runs one slow head flows
  have tidy := State.tidy_of_sound runs one
  obtain ⟨live, rfl, -⟩ := State.mem_of_head head
  have open' : r.endResult = none := runs.no_result live (by rw [flows]; nofun)
  refine ⟨fun drives due limit reached below => ?_, fun due opened => ?_, fun other => ?_⟩
  · have step : exec (.openSecondsTick r.channel) s = .next (s.riseOpenSeconds r.channel) :=
      congrArg Host.Outcome.next (State.whenReleased_of_released _ released)
    have credited := creditSecond_of_below below
    have limited : (creditSecond r).limitReached = true :=
      (Run.limitReached_iff _).2 ⟨m, limit, by rw [credited]; exact reached⟩
    rw [step, State.riseOpenSeconds_of_due drives due head, if_pos limited]
    have neat := tidy.secondTaken r.channel r.handle
    have mem := State.mem_secondTaken live r.channel
    have taken := s.secondTaken_chan r.channel r.handle
    have mu : (s.secondTaken r.channel r.handle).mu = s.mu := rfl
    have log : (s.secondTaken r.channel r.handle).log = s.log := rfl
    generalize s.secondTaken r.channel r.handle = u at neat mem taken mu log ⊢
    obtain ⟨pool, chan, kept⟩ := neat.endRun_closes mem open' flows
      (by rw [show (creditSecond r).channel = r.channel from rfl, taken]; exact drives)
      (by rw [show (creditSecond r).channel = r.channel from rfl, taken]; exact slow) .timeLimit
    rw [show (creditSecond r).channel = r.channel from rfl, show (creditSecond r).handle = r.handle from rfl] at chan
    rw [show (creditSecond r).handle = r.handle from rfl] at pool kept
    rw [State.conclude_of_stays ((mu_of_bare (u.endRun_bare r.handle .timeLimit)).trans mu) stays]
    have here := (u.endRun r.handle .timeLimit).closing_chan r.channel
    rw [chan, taken] at here
    refine ⟨_, rfl, valve_of_mute here, closeTimer_of_mute here, accumulator_of_mute here,
      (State.closing_log _).trans (kept.trans log), ?_⟩
    rw [State.closing_rm]
    rw [credited] at pool
    exact pool
  · have step : exec (.noFlowTimerExpiry r.channel) s = .next (s.expireNoFlow r.channel) :=
      congrArg Host.Outcome.next (State.whenReleased_of_released _ released)
    rw [step, State.expireNoFlow_of_due due opened head]
    have rm : (s.parched r.channel).rm = s.rm := State.addFault_rm _ _ _
    have log : (s.parched r.channel).log = s.log := State.addFault_log _ _ _
    have mu : (s.parched r.channel).mu = s.mu := State.addFault_mu _ _ _
    have fault : (s.chan r.channel).inFault = false → (s.parched r.channel).events.faultCh.getLsbD r.channel.val = true := fun healthy =>
      State.faultBit_addFault _ _ _ (by rw [State.chan_setChan_same]; exact healthy)
    have taken := s.parched_chan r.channel
    generalize s.parched r.channel = u at rm log mu taken fault ⊢
    have neat : u.Tidy := tidy_of_rm (by rw [rm]) tidy
    obtain ⟨pool, chan, kept⟩ := neat.endRun_closes (by rw [rm]; exact live) open' flows
      (by rw [taken]; exact (congrArg Valve.driven opened).trans rfl) (by rw [taken]; exact slow) .noFlow
    have bare := u.endRun_bare r.handle .noFlow
    rw [State.conclude_of_stays ((mu_of_bare bare).trans mu) stays]
    have here := (u.endRun r.handle .noFlow).closing_chan r.channel
    rw [chan, taken] at here
    refine ⟨_, rfl, faults_of_mute here, fun healthy => ?_, valve_of_mute here, closeTimer_of_mute here, noFlowTimer_of_mute here,
      (State.closing_log _).trans (kept.trans log), ?_⟩
    · rw [State.closing_events, events_of_bare bare]
      exact fault healthy
    · rw [State.closing_rm]
      exact pool
  · exact congrArg Host.Outcome.next ((State.whenReleased_of_released _ released).trans (State.expireNoFlow_of_not_due other))

/-- Settles O40: the timer closes the valve or declares it STUCK, and the head is dismissed. -/
theorem closeTimerCompletesOrDeclaresStuck : Obligations.CloseTimerCompletesOrDeclaresStuck := by
  unfold Obligations.CloseTimerCompletesOrDeclaresStuck
  intro s c set released stays settings closing
  have step : exec (.closeTimerExpiry c) s = .next (s.expireClose c) :=
    congrArg Host.Outcome.next (State.whenReleased_of_released _ released)
  rw [step]
  refine ⟨Channel.closeLoad_of_settings settings, fun other => congrArg _ (State.expireClose_of_not_due other), fun due => ?_⟩
  rw [State.expireClose_of_due settings closing due]
  obtain ⟨rm, log, clock, mu⟩ := s.closedOut_parts c (set.endSwitch && (s.chan c).vsw != some true)
  have fixed := s.closedOut_fixed c (set.endSwitch && (s.chan c).vsw != some true)
  have confirms : set.endSwitch = false ∨ (s.chan c).vsw = some true → (set.endSwitch && (s.chan c).vsw != some true) = false := by
    rintro (without | taken)
    · rw [without, Bool.false_and]
    · rw [taken, bne_self_eq_false, Bool.and_false]
  have stuck : set.endSwitch = true → (s.chan c).vsw ≠ some true → (set.endSwitch && (s.chan c).vsw != some true) = true :=
    fun switch open' => by rw [switch, Bool.true_and, bne_iff_ne]; exact open'
  have shut : (set.endSwitch && (s.chan c).vsw != some true) = false →
      (s.closedOut c (set.endSwitch && (s.chan c).vsw != some true)).chan c = (s.chan c).endClose := fun e => by
    rw [e]; exact s.closedOut_false_chan c
  have jam : (set.endSwitch && (s.chan c).vsw != some true) = true →
      (s.closedOut c (set.endSwitch && (s.chan c).vsw != some true)).chan c = { s.chan c with
        valve := .stuck, closeTimer := none, stuckValues := some (stuckValuesOf (s.head c))
        faults := { (s.chan c).faults with stuck := true } } := fun e => by rw [e]; exact s.closedOut_true_chan c
  have fault : (set.endSwitch && (s.chan c).vsw != some true) = true → (s.chan c).inFault = false →
      (s.closedOut c (set.endSwitch && (s.chan c).vsw != some true)).events.faultCh.getLsbD c.val = true := fun e healthy => by
    rw [e]
    exact s.closedOut_true_fault healthy
  generalize (set.endSwitch && (s.chan c).vsw != some true) = b at *
  generalize s.closedOut c b = u at *
  have bare := u.dismissHead_bare c b
  have gone := u.dismissHead_chan fixed b
  have ended : ∀ t : State, t.rm = (u.dismissHead c b).rm → t.log = (u.dismissHead c b).log → s.CloseEnded t c b :=
    fun _ rm' log' => State.closeEnded_of_dismissed rm log clock rm' log'
  rw [State.conclude_of_stays ((mu_of_bare bare).trans mu) stays]
  have here := ((u.dismissHead c b).closing_chan c).trans gone
  have events : (u.dismissHead c b).closing.events = u.events := (State.closing_events _).trans (events_of_bare bare)
  have rm' := (u.dismissHead c b).closing_rm
  have log' := (u.dismissHead c b).closing_log
  generalize (u.dismissHead c b).closing = t at here events rm' log'
  have values : (t.chan c).closeTimer = none ∧ (t.chan c).unattributed = (s.chan c).unattributed ∧
      (t.chan c).totalizer = (s.chan c).totalizer := by
    cases hb : b with
    | false =>
      rw [shut hb] at here
      exact ⟨closeTimer_of_mute here, (unattributed_of_mute here).trans rfl, (totalizer_of_mute here).trans rfl⟩
    | true =>
      rw [jam hb] at here
      exact ⟨closeTimer_of_mute here, (unattributed_of_mute here).trans rfl, (totalizer_of_mute here).trans rfl⟩
  obtain ⟨timer, unattributed, totalizer⟩ := values
  refine ⟨t, rfl, timer, unattributed, totalizer, fun yes => ?_, fun switch open' => ?_, fun switch open' => ⟨fun rest => ?_,
    fun r p head state => ?_⟩, ended t rm' log'⟩
  · rw [shut (confirms yes)] at here
    exact ⟨valve_of_mute here, (faults_of_mute here).trans rfl⟩
  · rw [jam (stuck switch open')] at here
    exact ⟨valve_of_mute here, faults_of_mute here, fun healthy => by rw [events]; exact fault (stuck switch open') healthy⟩
  · rw [jam (stuck switch open')] at here
    rw [stuckValues_of_mute here, ← stuckValuesOf_of_rest rest]
  · rw [jam (stuck switch open')] at here
    rw [stuckValues_of_mute here, head]
    exact congrArg some (if_pos (by rw [state]; rfl))

/-- Settles O43: the switch writes its level, ends a close or releases a STUCK valve, and leaves any other valve. -/
theorem endSwitchTaken : Obligations.EndSwitchTaken := by
  unfold Obligations.EndSwitchTaken
  intro s c set b released stays settings
  have switch : (s.chan c).hasSwitch = set.endSwitch := Channel.hasSwitch_of_settings settings
  refine ⟨State.switchDue_iff settings b, exec_endSwitchDeassertion_of_due released, Channel.confirmed_iff settings, fun due => ?_⟩
  rw [exec_endSwitchAssertion_of_due released due]
  have level : ((s.chan c).switched).vsw = some true ∧ ((s.chan c).switched).vswDue = none ∧
      ((s.chan c).switched).faults = (s.chan c).faults := by
    unfold Channel.switched
    split
    · split <;> exact ⟨rfl, rfl, rfl⟩
    · exact ⟨rfl, rfl, rfl⟩
  by_cases closes : (s.chan c).hasSwitch = true ∧ (s.chan c).valve = .closing
  · rw [if_pos closes]
    obtain ⟨has, closing⟩ := closes
    have shut : (s.chan c).switched = ((s.chan c).takeVsw true).endClose := by
      unfold Channel.switched
      rw [if_pos has, closing]
    have taken := s.chan_setChan_same c (s.chan c).switched
    have rm : (s.setChan c (s.chan c).switched).rm = s.rm := rfl
    have log : (s.setChan c (s.chan c).switched).log = s.log := rfl
    have clock : (s.setChan c (s.chan c).switched).clock = s.clock := rfl
    have mu : (s.setChan c (s.chan c).switched).mu = s.mu := rfl
    generalize s.setChan c (s.chan c).switched = u at taken rm log clock mu ⊢
    have gone := u.dismissHead_chan (c := c) (by rw [taken, shut]; exact Channel.fixed_of_closed rfl) false
    rw [State.conclude_of_stays ((mu_of_bare (u.dismissHead_bare c false)).trans mu) stays]
    have here := ((u.dismissHead c false).closing_chan c).trans (gone.trans (congrArg Channel.mute taken))
    have ended : s.CloseEnded (u.dismissHead c false).closing c false :=
      State.closeEnded_of_dismissed rm log clock (State.closing_rm _) (State.closing_log _)
    generalize (u.dismissHead c false).closing = t at here ended ⊢
    refine ⟨_, rfl, (vsw_of_mute here).trans level.1, (vswDue_of_mute here).trans level.2.1,
      (faults_of_mute here).trans level.2.2, fun _ stuck => ?_, fun _ _ => ?_, fun other => ?_⟩
    · rw [closing] at stuck
      cases stuck
    · rw [shut] at here
      exact ⟨valve_of_mute here, closeTimer_of_mute here, ended⟩
    · rw [← switch, has, closing] at other
      rcases other with e | e | e <;> cases e
  · rw [if_neg closes]
    have here := (s.setChan c (s.chan c).switched).closing_chan c
    rw [State.chan_setChan_same] at here
    rw [State.conclude_of_stays (u := s.setChan c (s.chan c).switched) rfl stays]
    have rm : (s.setChan c (s.chan c).switched).closing.rm = s.rm := State.closing_rm _
    have log : (s.setChan c (s.chan c).switched).closing.log = s.log := State.closing_log _
    generalize (s.setChan c (s.chan c).switched).closing = t at here rm log ⊢
    refine ⟨_, rfl, (vsw_of_mute here).trans level.1, (vswDue_of_mute here).trans level.2.1,
      (faults_of_mute here).trans level.2.2, fun has stuck => ?_, fun has closing => ?_, fun other => ?_⟩
    · have freed : (s.chan c).switched = ((s.chan c).takeVsw true).releaseStuck := by
        unfold Channel.switched
        rw [if_pos (switch.trans has), stuck]
      rw [freed] at here
      exact ⟨valve_of_mute here, stuckValues_of_mute here, rm, log⟩
    · exact absurd ⟨switch.trans has, closing⟩ closes
    · have left : (s.chan c).switched = (s.chan c).takeVsw true := by
        unfold Channel.switched
        rcases other with without | closed | drives
        · rw [if_neg (by rw [switch, without]; nofun)]
        · rw [closed]
          exact ite_self _
        · split
          · cases valve : (s.chan c).valve with
            | closing => rw [valve] at drives; cases drives
            | stuck => rw [valve] at drives; cases drives
            | _ => rfl
          · rfl
      rw [left] at here
      exact ⟨(valve_of_mute here).trans rfl, (closeTimer_of_mute here).trans rfl, rm, log⟩

end Sys2Proof
end

section
/-!
SUPPORT. A pulse that is taken (R88): credited to a run, which it may bring to its target (R91–R93, R60), or to the unattributed
volume, where it may be a leak (R95, R78).
-/

namespace Sys2Proof.Machine

variable {s : State}

/-! ### The unattributed volume -/

theorem Channel.beginClose_unattributed (ch : Channel) : ch.beginClose.unattributed = ch.unattributed := by
  unfold Channel.beginClose
  split <;> rfl

theorem Stir.unattributed {p : Scope} {t : State} (step : Stir p s t) {c : Chan} (shut : ¬ p.opens c) :
    (t.chan c).unattributed = (s.chan c).unattributed := by
  rcases step.valve c with same | begun | ⟨-, ended⟩ | ⟨may, -⟩
  · exact unattributed_of_mute same
  · exact (unattributed_of_mute begun).trans (Channel.beginClose_unattributed _)
  · exact (unattributed_of_mute ended).trans (Channel.beginClose_unattributed _)
  · exact absurd may shut

theorem Stirs.unattributed {p : Scope} {t : State} (chain : Stirs p s t) {c : Chan} (shut : ¬ p.opens c) :
    (t.chan c).unattributed = (s.chan c).unattributed :=
  chain.keep (P := fun u => (u.chan c).unattributed = (s.chan c).unattributed)
    (fun _ _ step sofar => (step.unattributed shut).trans sofar) rfl

/-! ### The run a pulse is credited to (R76) -/

theorem State.attributed_of_open {c : Chan} (drives : (s.chan c).valve = .opening ∨ (s.chan c).valve = .opened) :
    s.attributed c = s.head c := by
  unfold State.attributed
  rcases drives with e | e <;> rw [e]

theorem State.attributed_of_rest {c : Chan} (rests : (s.chan c).valve = .closed ∨ (s.chan c).valve = .stuck) :
    s.attributed c = none := by
  unfold State.attributed
  rcases rests with e | e <;> rw [e]

theorem State.attributed_of_closing {c : Chan} (closing : (s.chan c).valve = .closing) (r : Run) :
    s.attributed c = some r ↔ s.head c = some r ∧ ∃ p, r.state = .closing p := by
  unfold State.attributed
  rw [closing]
  dsimp only
  rw [Option.filter_eq_some_iff]
  refine and_congr_right fun _ => ⟨fun closes => ?_, fun ⟨p, state⟩ => by rw [state]; rfl⟩
  cases state : r.state with
  | closing p => exact ⟨p, rfl⟩
  | _ => rw [state] at closes; cases closes

theorem State.head_of_attributed {c : Chan} {r : Run} (attributed : s.attributed c = some r) : s.head c = some r := by
  unfold State.attributed at attributed
  split at attributed
  · exact attributed
  · exact attributed
  · exact (Option.filter_eq_some_iff.1 attributed).1
  · cases attributed
  · cases attributed

/-! ### A pulse credited to a run (R91–R93, R96, R97) -/

theorem Channel.reloadNoFlow_eq (ch : Channel) : ch.reloadNoFlow = { ch with
    noFlowTimer := if ch.valve = .opened then some ch.noFlowLoad else ch.noFlowTimer } := by
  unfold Channel.reloadNoFlow
  split <;> rfl

/-- A channel whose due pulse has gone to the totalizer. -/
def Channel.pulsed (ch : Channel) (set : ChannelSettings) : Channel := (ch.spendPulse.totalize set).reloadNoFlow

theorem Channel.pulsed_eq (ch : Channel) (set : ChannelSettings) : ch.pulsed set = { ch with
    mtrDue := false
    totalizer := (addDecimal ch.totalizer set.quantum).1
    wrapped := ch.wrapped || (addDecimal ch.totalizer set.quantum).2
    noFlowTimer := if ch.valve = .opened then some ch.noFlowLoad else ch.noFlowTimer } := Channel.reloadNoFlow_eq _

/-- The state in which the run of handle `h` has been credited a pulse of a channel. -/
def State.pulsed (s : State) (c : Chan) (set : ChannelSettings) (h : Nat) : State :=
  (s.modRun h (creditRun set.quantum)).setChan c ((s.chan c).pulsed set)

theorem State.pulseDue_of_settings {c : Chan} {set : ChannelSettings} (settings : (s.chan c).settings = some set) :
    s.pulseDue c = (s.chan c).mtrDue := by
  unfold State.pulseDue Channel.present
  rw [settings]
  rfl

theorem State.meterPulse_of_due {c : Chan} {set : ChannelSettings} (settings : (s.chan c).settings = some set)
    (due : s.pulseDue c = true) : s.meterPulse c = ((s.setChan c (s.chan c).spendPulse).takePulse c set).conclude := by
  unfold State.meterPulse
  rw [settings]
  exact if_pos due

theorem State.attributed_spendPulse (s : State) (c : Chan) : (s.setChan c (s.chan c).spendPulse).attributed c = s.attributed c := by
  unfold State.attributed
  rw [State.chan_setChan_same]
  rfl

theorem State.takePulse_of_attributed {c : Chan} {set : ChannelSettings} {r : Run} (attributed : s.attributed c = some r) :
    (s.setChan c (s.chan c).spendPulse).takePulse c set = (s.pulsed c set r.handle).testCompletion r.handle := by
  unfold State.takePulse
  rw [s.attributed_spendPulse, attributed]
  dsimp only
  rw [State.chan_setChan_same]
  exact congrArg (fun u : State => u.testCompletion r.handle)
    (State.setChan_setChan (s.modRun r.handle (creditRun set.quantum)) c _ _)

theorem State.Tidy.pulsed (tidy : s.Tidy) (c : Chan) (set : ChannelSettings) (h : Nat) : (s.pulsed c set h).Tidy :=
  tidy_of_rm (s := s.modRun h (creditRun set.quantum)) rfl
    (tidy.modRun h (f := creditRun set.quantum) (fun _ => rfl) (fun _ => rfl) fun _ head => head)

theorem State.mem_pulsed {r : Run} (live : r ∈ s.rm.pool) (c : Chan) (set : ChannelSettings) :
    creditRun set.quantum r ∈ (s.pulsed c set r.handle).rm.pool := mem_updateRun.2 ⟨r, live, if_pos rfl⟩

theorem State.pulsed_chan (s : State) (c : Chan) (set : ChannelSettings) (h : Nat) :
    (s.pulsed c set h).chan c = (s.chan c).pulsed set := State.chan_setChan_same _ _ _

theorem State.pulsed_chan_ne (s : State) {c d : Chan} (set : ChannelSettings) (h : Nat) (other : d ≠ c) :
    (s.pulsed c set h).chan d = s.chan d := State.chan_setChan_ne _ _ fun e => other e.symm

theorem State.Tidy.testCompletion (tidy : s.Tidy) {r : Run} (live : r ∈ s.rm.pool) :
    s.testCompletion r.handle = if reaches r.delivered r.target then s.endRun r.handle .complete else s := by
  unfold State.testCompletion
  rw [tidy.find_eq live]

theorem State.Tidy.testCompletion_stirs (tidy : s.Tidy) {r : Run} (live : r ∈ s.rm.pool) :
    Stirs (Scope.ending fun _ => True) s (s.testCompletion r.handle) := by
  rw [tidy.testCompletion live]
  split
  · exact Stirs.endRun (p := Scope.ending fun _ => True) (Scope.ending_wide _) tidy trivial _
  · exact .refl s

/-- A run that flows over a valve whose closure the end switch confirms at once departs as it ends. -/
theorem State.Tidy.endRun_departs_of_confirmed (tidy : s.Tidy) {r : Run} (live : r ∈ s.rm.pool) (open' : r.endResult = none)
    (flows : r.state = .flowing) (drives : (s.chan r.channel).valve.driven = true) (confirmed : (s.chan r.channel).confirmed = true)
    (e : EndResult) : ((s.endRun r.handle e).chan r.channel).valve = .closed ∧
      (s.endRun r.handle e).log.records =
        s.log.records ++ [completionRecord { r with endResult := some e } false s.clock.seconds] := by
  have neat := tidy.resulted live open' e
  have mem := tidy.mem_resulted live (e := e)
  have head := neat.head_eq mem (isHead_of_flowing flows)
  have shuts : (s.chan r.channel).shuts := by
    unfold Channel.shuts
    rw [Channel.beginClose_of_driven drives]
    exact ⟨rfl, confirmed⟩
  have closed := (State.demandClose_of_flowing head flows .ending rfl).2 shuts
  rw [State.endRun_of_flowing (tidy.find_eq live) open' e flows]
  rw [show ({ r with endResult := some e } : Run).channel = r.channel from rfl] at closed
  rw [closed]
  have begun : (({ r with endResult := some e, state := .closing .ending } : Run)) ∈
      ((s.resulted r.handle e).begun { r with endResult := some e } .ending).rm.pool := (neat.mem_begun mem .ending).2 (.inl rfl)
  have turned : ((s.resulted r.handle e).begun { r with endResult := some e } .ending).Tidy :=
    (Stir.begun (p := Scope.ending fun _ => True) mem flows trivial .ending).tidy neat
  have log : ((s.resulted r.handle e).begun { r with endResult := some e } .ending).log = s.log := rfl
  have clock : ((s.resulted r.handle e).begun { r with endResult := some e } .ending).clock = s.clock := rfl
  generalize (s.resulted r.handle e).begun { r with endResult := some e } .ending = u at begun turned log clock ⊢
  have set := u.chan_setChan_same r.channel (s.chan r.channel).beginClose.endClose
  have rm : (u.setChan r.channel (s.chan r.channel).beginClose.endClose).rm = u.rm := rfl
  have ended : u.CloseEnded ((u.setChan r.channel (s.chan r.channel).beginClose.endClose).dismissHead r.channel false) r.channel false :=
    State.closeEnded_of_dismissed (u := u.setChan r.channel (s.chan r.channel).beginClose.endClose) rfl rfl rfl rfl rfl
  have here := turned.head_eq begun rfl
  obtain ⟨-, gone, -⟩ := ended.2 _ .ending here rfl (turned.find_eq begun)
  refine ⟨?_, (gone rfl).1.trans ?_⟩
  · have fixed := State.dismissHead_chan (s := u.setChan r.channel (s.chan r.channel).beginClose.endClose) (c := r.channel)
      (by rw [set]; exact Channel.fixed_of_closed rfl) false
    rw [set] at fixed
    exact valve_of_mute fixed
  · rw [log, clock]
    rfl

/-! ### A pulse of no run (R95, R78) -/

/-- A channel whose due pulse has gone to the totalizer and to the unattributed volume. -/
def Channel.dripped (ch : Channel) (set : ChannelSettings) : Channel :=
  ((ch.spendPulse.addUnattributed set).totalize set).reloadNoFlow

theorem Channel.dripped_eq (ch : Channel) (set : ChannelSettings) : ch.dripped set = { ch with
    mtrDue := false
    unattributed := addSaturating ch.unattributed set.quantum
    totalizer := (addDecimal ch.totalizer set.quantum).1
    wrapped := ch.wrapped || (addDecimal ch.totalizer set.quantum).2
    noFlowTimer := if ch.valve = .opened then some ch.noFlowLoad else ch.noFlowTimer } := Channel.reloadNoFlow_eq _

theorem State.takePulse_of_none {c : Chan} {set : ChannelSettings} (attributed : s.attributed c = none) :
    (s.setChan c (s.chan c).spendPulse).takePulse c set =
      if ((s.chan c).dripped set).leaks set then (s.setChan c ((s.chan c).dripped set)).detectLeak c
      else s.setChan c ((s.chan c).dripped set) := by
  unfold State.takePulse
  rw [s.attributed_spendPulse, attributed]
  dsimp only
  rw [State.chan_setChan_same, State.setChan_setChan]
  rfl

theorem Channel.dripped_leaks (ch : Channel) (set : ChannelSettings) : (ch.dripped set).leaks set = true ↔
    ch.valve = .closed ∧ ch.faults.leak = false ∧ reaches (addSaturating ch.unattributed set.quantum) set.leakLimit = true := by
  rw [Channel.dripped_eq]
  unfold Channel.leaks
  rw [Bool.and_eq_true, Bool.and_eq_true, beq_iff_eq, Bool.not_eq_true', and_assoc]

theorem State.detectLeak_mute (s : State) (c : Chan) :
    (s.detectLeak c).mute = (s.addFault c fun f => { f with leak := true }).mute := by
  unfold State.detectLeak
  dsimp only
  split
  · exact (State.enqueue_mute _ _).trans (State.announce_mute _ c)
  · exact State.announce_mute _ c

theorem State.detectLeak_urges {c : Chan} (halts : s.site.leakHalts = true) (active : s.mu.station.active = true) :
    (s.detectLeak c).Urges 2 := by
  have mute := (State.announce_mute (s.addFault c fun f => { f with leak := true }) c)
  have site : ((s.addFault c fun f => { f with leak := true }).announce c).site = s.site := by
    rw [site_of_mute mute, State.addFault_parts]
  have mu : ((s.addFault c fun f => { f with leak := true }).announce c).mu = s.mu := by
    rw [mu_of_mute mute, State.addFault_parts]
  unfold State.detectLeak
  dsimp only
  rw [site, mu, if_pos (by rw [halts, active]; rfl)]
  exact haltPending_of_enqueue (by rw [mu]; revert active; cases s.mu.station <;> decide) (by decide)

/-- The state in which a pulse of no run has been counted, and its leak, if it is one, detected. -/
def State.dripped (s : State) (c : Chan) (set : ChannelSettings) : State :=
  if ((s.chan c).dripped set).leaks set then (s.setChan c ((s.chan c).dripped set)).detectLeak c
  else s.setChan c ((s.chan c).dripped set)

theorem State.dripped_parts (s : State) (c : Chan) (set : ChannelSettings) :
    (s.dripped c set).mu = s.mu ∧ (s.dripped c set).rm = s.rm ∧ (s.dripped c set).log = s.log ∧
    (∀ d, d ≠ c → ((s.dripped c set).chan d).mute = (s.chan d).mute) ∧
    ((s.dripped c set).chan c).mute = ({ (s.chan c).dripped set with faults := { (s.chan c).faults with
      leak := (s.chan c).faults.leak || ((s.chan c).dripped set).leaks set } } : Channel).mute ∧
    (((s.chan c).dripped set).leaks set = false → (s.dripped c set).events = s.events) ∧
    (((s.chan c).dripped set).leaks set = true →
      ((s.chan c).inFault = false → (s.dripped c set).events.faultCh.getLsbD c.val = true) ∧
      (s.site.leakHalts = true → s.mu.station.active = true → (s.dripped c set).Urges 2)) := by
  have dripped := Channel.dripped_eq (s.chan c) set
  unfold State.dripped
  cases found : ((s.chan c).dripped set).leaks set with
  | false =>
    rw [if_neg Bool.false_ne_true]
    refine ⟨rfl, rfl, rfl, fun d other => by rw [State.chan_setChan_ne _ _ fun e => other e.symm], ?_, fun _ => rfl, nofun⟩
    rw [State.chan_setChan_same, dripped, Bool.or_false]
  | true =>
    rw [if_pos rfl]
    have mute := (s.setChan c ((s.chan c).dripped set)).detectLeak_mute c
    refine ⟨?_, ?_, ?_, fun d other => ?_, ?_, nofun, fun _ => ⟨fun healthy => ?_, fun halts active =>
      State.detectLeak_urges halts active⟩⟩
    · rw [mu_of_mute mute, State.addFault_mu]; rfl
    · rw [rm_of_mute mute, State.addFault_rm]; rfl
    · rw [log_of_mute mute, State.addFault_log]; rfl
    · rw [chan_of_mute mute, State.addFault_chan_ne _ _ _ other, State.chan_setChan_ne _ _ fun e => other e.symm]
    · rw [chan_of_mute mute, State.addFault_chan_same, State.chan_setChan_same, dripped, Bool.or_true]
    · rw [events_of_mute mute]
      refine State.faultBit_addFault _ _ _ ?_
      rw [State.chan_setChan_same, dripped]
      exact healthy

/-! ### The end of the pulse -/

theorem mtrDue_of_mute {a b : Channel} (same : a.mute = b.mute) : a.mtrDue = b.mtrDue := by
  have e := congrArg Channel.mtrDue same; exact e

theorem mtrLow_of_mute {a b : Channel} (same : a.mute = b.mute) : a.mtrLow = b.mtrLow := by
  have e := congrArg Channel.mtrLow same; exact e

theorem wrapped_of_mute {a b : Channel} (same : a.mute = b.mute) : a.wrapped = b.wrapped := by
  have e := congrArg Channel.wrapped same; exact e

/-- What a pulse leaves of a channel that took it, whatever became of the run. -/
structure Channel.Counted (ch : Channel) (set : ChannelSettings) (after : Channel) : Prop where
  due : after.mtrDue = false
  low : after.mtrLow = ch.mtrLow
  totalizer : after.totalizer = (addDecimal ch.totalizer set.quantum).1
  wrapped : after.wrapped = (ch.wrapped || (addDecimal ch.totalizer set.quantum).2)

theorem Channel.Counted.of_mute {ch a b : Channel} {set : ChannelSettings} (counted : ch.Counted set b) (same : a.mute = b.mute) :
    ch.Counted set a where
  due := (mtrDue_of_mute same).trans counted.due
  low := (mtrLow_of_mute same).trans counted.low
  totalizer := (totalizer_of_mute same).trans counted.totalizer
  wrapped := (wrapped_of_mute same).trans counted.wrapped

theorem Channel.Counted.of_bare {ch a b : Channel} {set : ChannelSettings} (counted : ch.Counted set b) (same : a.bare = b.bare) :
    ch.Counted set a where
  due := by have e := congrArg Channel.mtrDue same; exact Eq.trans e counted.due
  low := by have e := congrArg Channel.mtrLow same; exact Eq.trans e counted.low
  totalizer := by have e := congrArg Channel.totalizer same; exact Eq.trans e counted.totalizer
  wrapped := by have e := congrArg Channel.wrapped same; exact Eq.trans e counted.wrapped

theorem Channel.counted_pulsed (ch : Channel) (set : ChannelSettings) : ch.Counted set (ch.pulsed set) := by
  rw [Channel.pulsed_eq]
  exact ⟨rfl, rfl, rfl, rfl⟩

theorem Channel.counted_dripped (ch : Channel) (set : ChannelSettings) : ch.Counted set (ch.dripped set) := by
  rw [Channel.dripped_eq]
  exact ⟨rfl, rfl, rfl, rfl⟩

/-- The completion test after a pulse, by whether the run has reached its target and how it stands. -/
theorem State.Tidy.testCompletion_cases (tidy : s.Tidy) {r : Run} (live : r ∈ s.rm.pool) :
    (reaches r.delivered r.target = false → s.testCompletion r.handle = s) ∧
    (reaches r.delivered r.target = true →
      ((r.endResult.isSome = true) → s.testCompletion r.handle = s) ∧
      (∀ p, r.endResult = none → r.state = .closing p → (s.testCompletion r.handle).log = s.log ∧
        (s.testCompletion r.handle).chans = s.chans ∧
        { r with state := .closing .ending, endResult := some .complete } ∈ (s.testCompletion r.handle).rm.pool) ∧
      (r.endResult = none → r.state = .flowing → (s.chan r.channel).valve.driven = true →
        ((s.chan r.channel).confirmed = false →
          { r with state := .closing .ending, endResult := some .complete } ∈ (s.testCompletion r.handle).rm.pool ∧
          (s.testCompletion r.handle).chan r.channel = { s.chan r.channel with
            valve := .closing, openTimer := none, noFlowTimer := none, closeTimer := some (s.chan r.channel).closeLoad } ∧
          (s.testCompletion r.handle).log = s.log) ∧
        ((s.chan r.channel).confirmed = true → ((s.testCompletion r.handle).chan r.channel).valve = .closed ∧
          (s.testCompletion r.handle).log.records =
            s.log.records ++ [completionRecord { r with endResult := some .complete } false s.clock.seconds]))) := by
  rw [tidy.testCompletion live]
  refine ⟨fun short => if_neg (by rw [short]; nofun), fun reached => ?_⟩
  rw [if_pos reached]
  refine ⟨fun ended => State.endRun_of_ended (tidy.find_eq live) ended _, fun p open' closes => ?_,
    fun open' flows drives => ⟨fun slow => tidy.endRun_closes live open' flows drives slow _, fun confirmed =>
      tidy.endRun_departs_of_confirmed live open' flows drives confirmed _⟩⟩
  obtain ⟨log, mem, chans⟩ := State.endRun_goes_on (tidy.find_eq live) open' .complete closes
  exact ⟨log, chans, mem⟩

end Sys2Proof.Machine
end

section
namespace Sys2Proof
open Sys2Proof.Machine

/-- Settles O42: a pulse of a run by the completion test, a pulse of none by the leak test; the end of the event writes neither
runs nor volumes. -/
theorem meterPulseCredits : Obligations.MeterPulseCredits := by
  unfold Obligations.MeterPulseCredits
  intro s c set released stays runs one settings
  have tidy := State.tidy_of_sound runs one
  refine ⟨State.pulseDue_of_settings settings, State.attributed_of_open, fun r closing => State.attributed_of_closing closing r,
    State.attributed_of_rest, fun due => ?_⟩
  have step : exec (.meterPulse (.taken c)) s = .next (s.meterPulse c) :=
    congrArg Host.Outcome.next (State.whenReleased_of_released _ released)
  rw [step, State.meterPulse_of_due settings due]
  cases attributed : s.attributed c with
  | some r =>
    obtain ⟨live, rfl, -⟩ := State.mem_of_head (State.head_of_attributed attributed)
    rw [State.takePulse_of_attributed attributed]
    have neat := tidy.pulsed r.channel set r.handle
    have mem := State.mem_pulsed live r.channel set
    have chain := neat.testCompletion_stirs mem
    have chan := s.pulsed_chan r.channel set r.handle
    have elsewhere := fun d => State.pulsed_chan_ne (s := s) (c := r.channel) (d := d) set r.handle
    have mu : (s.pulsed r.channel set r.handle).mu = s.mu := rfl
    have log : (s.pulsed r.channel set r.handle).log = s.log := rfl
    have clock : (s.pulsed r.channel set r.handle).clock = s.clock := rfl
    obtain ⟨short, reached⟩ := neat.testCompletion_cases mem
    rw [show (creditRun set.quantum r).handle = r.handle from rfl] at chain short reached
    generalize s.pulsed r.channel set r.handle = u at neat mem chain chan elsewhere mu log clock short reached ⊢
    rw [State.conclude_of_stays ((mu_of_bare chain.bare).trans mu) stays]
    rw [show (creditRun set.quantum r).channel = r.channel from rfl, chan, Channel.pulsed_eq] at reached
    have counted : (s.chan r.channel).Counted set (((u.testCompletion r.handle).closing).chan r.channel) :=
      (((s.chan r.channel).counted_pulsed set).of_bare (by rw [← chan]; exact chan_of_bare chain.bare r.channel)).of_mute
        (State.closing_chan _ _)
    have volume : ∀ d, (((u.testCompletion r.handle).closing).chan d).unattributed = (s.chan d).unattributed := by
      intro d
      refine (unattributed_of_mute (State.closing_chan _ d)).trans ((chain.unattributed (c := d) id).trans ?_)
      by_cases here : d = r.channel
      · rw [here, chan, Channel.pulsed_eq]
      · rw [elsewhere d here]
    have total : ∀ d, d ≠ r.channel → (((u.testCompletion r.handle).closing).chan d).totalizer = (s.chan d).totalizer := by
      intro d other
      refine (totalizer_of_mute (State.closing_chan _ d)).trans ?_
      have same := congrArg Channel.totalizer (chan_of_bare chain.bare d)
      rw [elsewhere d other] at same
      exact same
    have faults : (((u.testCompletion r.handle).closing).chan r.channel).faults = (s.chan r.channel).faults := by
      refine (faults_of_mute (State.closing_chan _ _)).trans ?_
      have same := congrArg Channel.faults (chan_of_bare chain.bare r.channel)
      rw [chan, Channel.pulsed_eq] at same
      exact same
    have here := (u.testCompletion r.handle).closing_chan r.channel
    have rm' := (u.testCompletion r.handle).closing_rm
    have log' := (u.testCompletion r.handle).closing_log
    generalize (u.testCompletion r.handle).closing = t at counted volume total faults here rm' log' ⊢
    refine ⟨t, rfl, counted.due, counted.low, counted.totalizer, counted.wrapped, fun q same => ?_, nofun,
      fun d other => ⟨total d other, volume d⟩⟩
    obtain rfl := Option.some.inj same
    refine ⟨volume _, faults, fun below => ?_, fun met => ⟨fun e result => ?_, fun p open' closes => ?_,
      fun open' flows drives slow => ?_, fun open' flows drives confirmed => ?_⟩⟩
    · rw [short below] at here rm' log'
      refine ⟨log'.trans log, by rw [rm']; exact mem, fun opened => ?_⟩
      rw [chan, Channel.pulsed_eq, if_pos opened] at here
      rw [noFlowTimer_of_mute here]
      unfold Channel.noFlowLoad
      rw [settings]
      rfl
    · rw [(reached met).1 (by rw [show (creditRun set.quantum r).endResult = r.endResult from rfl, result]; rfl)] at rm' log'
      exact ⟨log'.trans log, by rw [rm']; exact mem⟩
    · obtain ⟨kept, chans, mem'⟩ := (reached met).2.1 p open' closes
      rw [chan_of_chans chans, chan, Channel.pulsed_eq] at here
      exact ⟨log'.trans (kept.trans log), (valve_of_mute here).trans rfl, by rw [rm']; exact mem'⟩
    · obtain ⟨mem', moved, kept⟩ := ((reached met).2.2 open' flows drives).1 slow
      rw [moved] at here
      exact ⟨log'.trans (kept.trans log), valve_of_mute here, closeTimer_of_mute here, by rw [rm']; exact mem'⟩
    · obtain ⟨closed, records⟩ := ((reached met).2.2 open' flows drives).2 confirmed
      refine ⟨(valve_of_mute here).trans closed, (congrArg LogUnit.records log').trans ?_⟩
      rw [records, log, clock]
      rfl
  | none =>
    rw [State.takePulse_of_none attributed]
    have dripped := Channel.dripped_eq (s.chan c) set
    have leaks := (s.chan c).dripped_leaks set
    obtain ⟨mu, rm, log, elsewhere, here, calm, leaking⟩ := s.dripped_parts c set
    change ∃ t, Host.Outcome.next (s.dripped c set).conclude = Host.Outcome.next t ∧ _
    generalize s.dripped c set = v at mu rm log elsewhere here calm leaking ⊢
    rw [State.conclude_of_stays mu stays]
    have urges := fun pending : v.Urges 2 => State.Urges.closing pending
    replace here := (v.closing_chan c).trans here
    replace elsewhere := fun d other => (v.closing_chan d).trans (elsewhere d other)
    replace rm := v.closing_rm.trans rm
    replace log := v.closing_log.trans log
    have events := v.closing_events
    generalize v.closing = t at urges here elsewhere rm log events ⊢
    have counted : (s.chan c).Counted set (t.chan c) :=
      Channel.Counted.of_mute (b := { (s.chan c).dripped set with faults := _ })
        (by rw [dripped]; exact ⟨rfl, rfl, rfl, rfl⟩) here
    have volume : (t.chan c).unattributed = addSaturating (s.chan c).unattributed set.quantum := by
      rw [unattributed_of_mute here, dripped]
    have fault : (t.chan c).faults.leak = ((s.chan c).faults.leak || ((s.chan c).dripped set).leaks set) := by
      rw [faults_of_mute here]
    refine ⟨t, rfl, counted.due, counted.low, counted.totalizer, counted.wrapped, nofun, fun _ => ⟨rm, log, volume, ?_, ?_, ?_⟩,
      fun d other => ⟨totalizer_of_mute (elsewhere d other), unattributed_of_mute (elsewhere d other)⟩⟩
    · rw [fault, Bool.or_eq_true, leaks, volume]
      by_cases old : (s.chan c).faults.leak = true
      · exact iff_of_true (.inl old) (.inl old)
      · rw [Bool.not_eq_true] at old
        rw [old]
        simp
    · rw [fault, events]
      rintro (old | clear)
      · refine calm ?_
        cases found : ((s.chan c).dripped set).leaks set with
        | false => rfl
        | true =>
          have none := (leaks.1 found).2.1
          rw [old] at none
          cases none
      · exact calm (Bool.or_eq_false_iff.1 clear).2
    · rw [fault, events]
      intro none new
      rw [none, Bool.false_or] at new
      exact ⟨(leaking new).1, fun halts active => urges ((leaking new).2 halts active)⟩

end Sys2Proof
end

section
/-!
SUPPORT. The notices one by one (R35, R36): what a grant notice opens, what a revocation notice closes, which CLAIM each
queues, and at which channels a recomputation gives them (R20, R34).
-/

namespace Sys2Proof.Machine

variable {s : State} {c : Chan}

/-! ### Which channels are given a notice (R34) -/

theorem State.qualifies_placing (latches : s.latching = true) (k : Key) (o : Entry) :
    (s.placing k o).qualifies = true ↔ o.latched = false ∧ (s.remark k o).latched = true := by
  have keeps : s.clearsMarks = false := s.clearsMarks_eq_false.2 (s.latching_eq_true.1 latches).2
  have phase : (s.placing k o).phase = o.phase := congrArg (fun x : Level × Nat × Phase => x.2.2) (s.placing_said k o)
  have placed : (s.placing k o).placed = decide (k ∈ s.walk.placed) := rfl
  unfold Entry.qualifies
  rw [s.placing_latched, s.remark_latched, phase, placed, keeps, latches]
  generalize decide (k ∈ s.walk.placed) = p
  generalize (o.phase == Phase.asking) = q
  cases o.latched <;> cases p <;> cases q <;> decide

theorem State.mem_granted : c ∈ s.allocate.granted ↔ (∃ o ∈ slot s.ct.table s.own c, o.latched = false) ∧
    ∃ e ∈ slot s.allocate.table s.own c, e.latched = true := by
  rw [slot_allocate, s.allocate_granted]
  cases held : slot s.ct.table s.own c with
  | none =>
    refine iff_of_false (fun member => ?_) (by rintro ⟨⟨o, none, -⟩, -⟩; cases none)
    split at member
    · obtain ⟨-, any⟩ := List.mem_filter.1 member
      rw [slot_placed, held] at any
      cases any
    · cases member
  | some o =>
    have both : ((∃ x ∈ some o, x.latched = false) ∧ ∃ e ∈ (some o).map (s.remark (s.own, c)), e.latched = true) ↔
        o.latched = false ∧ (s.remark (s.own, c) o).latched = true := by simp
    rw [both]
    cases latches : s.latching with
    | false =>
      refine iff_of_false nofun ?_
      rintro ⟨fresh, marked⟩
      rw [s.remark_latched, fresh, latches, Bool.and_false, Bool.false_and, Bool.false_and] at marked
      cases marked
    | true =>
      rw [if_pos rfl, List.mem_filter, slot_placed, held, ← s.qualifies_placing latches]
      exact and_iff_right (mem_allChans c)

theorem State.revoked_iff : s.revoked c = true ↔
    ∃ r ∈ s.head c, r.state = .flowing ∧ ∀ e ∈ slot s.ct.table s.own c, e.placed = false := by
  unfold State.revoked
  rw [Option.any_eq_true]
  refine exists_congr fun r => and_congr_right fun _ => ?_
  rw [Bool.and_eq_true, beq_iff_eq, Bool.not_eq_true', Bool.eq_false_iff, ne_eq, Option.any_eq_true]
  simp

theorem State.not_granted_of_revoked (revoked : s.written.revoked c = true) : c ∉ s.allocate.granted := fun granted => by
  obtain ⟨-, -, -, unplaced⟩ := State.revoked_iff.1 revoked
  obtain ⟨⟨o, old, fresh⟩, e, found, marked⟩ := State.mem_granted.1 granted
  rw [s.written_table, s.written_own] at unplaced
  have bare := unplaced e found
  rw [slot_allocate, Option.mem_def.1 old, Option.map_some] at found
  obtain rfl := Option.some.inj found
  rw [s.remark_latched, fresh, Bool.and_false, Bool.false_or, Bool.and_eq_true, Bool.and_eq_true, ← s.remark_placed, bare] at marked
  cases marked.1.2

theorem State.notices_eq (granted : List Chan) (p : Chan → Bool) : s.notices granted (allChans.filter p) =
    allChans.foldl (fun v d => if d ∈ granted then v.grantNotice d else if p d = true then v.revocationNotice d else v) s := by
  unfold State.notices
  refine congrArg (fun op => allChans.foldl op s) (funext fun v => funext fun d => ?_)
  have member : d ∈ allChans.filter p ↔ p d = true := List.mem_filter.trans (and_iff_right (mem_allChans d))
  simp only [member]

/-- The state in which a recomputation gives its notice to a channel: other channels may have had theirs. -/
theorem State.Tidy.recompute_at (tidy : s.Tidy) (c : Chan) : ∃ v : State, v.Tidy ∧ v.chan c = s.chan c ∧ v.head c = s.head c ∧
    v.mu = s.mu ∧ v.own = s.own ∧ v.ct.table = s.allocate.table ∧
    s.recompute.chan c = (v.notice s.allocate.granted (allChans.filter s.written.revoked) c).chan c ∧
    ∀ q : Run, q.channel = c → (q ∈ s.recompute.rm.pool ↔
      q ∈ (v.notice s.allocate.granted (allChans.filter s.written.revoked) c).rm.pool) := by
  rw [s.recompute_eq]
  have neat := tidy.written
  obtain ⟨v, before, after⟩ := neat.notices_at s.allocate.granted (allChans.filter s.written.revoked) c
  have neat1 := before.tidy neat
  have only := Stirs.notice (p := Scope.only c) neat1 (c := c) rfl rfl s.allocate.granted (allChans.filter s.written.revoked)
  obtain ⟨later, mem⟩ := after.elsewhere (only.tidy neat1) (c := c) fun other => other rfl
  obtain ⟨earlier, -⟩ := before.elsewhere neat (c := c) fun other => other rfl
  refine ⟨v, neat1, earlier.trans (s.written_chan c),
    (head_elsewhere before neat (c := c) fun other => other rfl).trans (s.written_head c), ?_, ?_, ?_, later, mem⟩
  · rw [mu_of_bare before.bare, s.written_mu]
  · unfold State.own
    rw [straps_of_bare before.bare, s.written_straps]
  · rw [ct_of_bare before.bare, s.written_table]

/-! ### A grant notice (R35, R71) -/

theorem State.canOpen_iff {r : Run} (head : s.head c = some r) : s.canOpen c = true ↔ s.mu.station = .synced ∧
    (s.chan c).present = true ∧ (s.chan c).inFault = false ∧ (s.chan c).valve = .closed ∧ r.state = .asking ∧
    ∃ e ∈ slot s.ct.table s.own c, e.level = r.level ∧ e.demand = r.demand := by
  unfold State.canOpen
  rw [head]
  dsimp only
  rw [Bool.and_eq_true, Bool.and_eq_true, Bool.and_eq_true, Bool.and_eq_true, beq_iff_eq, Bool.not_eq_true', beq_iff_eq]
  cases slot s.ct.table s.own c with
  | none => simp
  | some e =>
    simp only [Bool.and_eq_true, beq_iff_eq, Option.mem_def, Option.some.injEq, exists_eq_left']
    constructor
    · rintro ⟨⟨⟨⟨a, b⟩, c⟩, d⟩, ⟨f, g⟩, h⟩
      exact ⟨a, b, c, d, f, g.symm, h.symm⟩
    · rintro ⟨a, b, c, d, f, g, h⟩
      exact ⟨⟨⟨⟨a, b⟩, c⟩, d⟩, ⟨f, g.symm⟩, h.symm⟩

theorem State.canOpen_of_no_head (none : s.head c = none) : s.canOpen c = false := by
  unfold State.canOpen
  rw [none]
  exact Bool.and_false _

theorem State.grantNotice_of_canOpen {r : Run} (can : s.canOpen c = true) (head : s.head c = some r) :
    s.grantNotice c = ((s.setRunState r.handle .flowing).setChan c (s.chan c).beginOpen).announce c := by
  unfold State.grantNotice
  rw [if_pos can, head]

theorem State.grantNotice_of_not (can : s.canOpen c = false) : s.grantNotice c = s.queueCurrent c :=
  if_neg (by rw [can]; nofun)

/-- A head whose state is written among those of a head stays the head. -/
theorem State.head_setRunState (nodup : (s.rm.pool.map Run.handle).Nodup) {r : Run} (head : s.head c = some r) {st : RunState}
    (isHead : st.isHead = true) : (s.setRunState r.handle st).head c = some { r with state := st } := by
  obtain ⟨live, here, was⟩ := State.mem_of_head head
  show (updateRun s.rm.pool r.handle fun q => { q with state := st }).find? _ = _
  unfold updateRun
  rw [List.find?_map]
  have same : ∀ q ∈ s.rm.pool, (((fun q : Run => q.channel == c && q.state.isHead) ∘ fun q : Run =>
      if (q.handle == r.handle) = true then { q with state := st } else q) q) = (q.channel == c && q.state.isHead) := by
    intro q hq
    by_cases own : q.handle = r.handle
    · obtain rfl := handle_injective nodup hq live own
      simp [isHead, was]
    · simp [own]
  have found : s.rm.pool.find? (fun q => q.channel == c && q.state.isHead) = some r := head
  rw [List.find?_congr same, found]
  simp

theorem State.mem_grantNotice {r : Run} (can : s.canOpen c = true) (head : s.head c = some r) :
    { r with state := .flowing } ∈ (s.grantNotice c).rm.pool := by
  obtain ⟨live, -, -⟩ := State.mem_of_head head
  rw [State.grantNotice_of_canOpen can head, rm_of_mute (State.announce_mute _ c)]
  exact mem_updateRun.2 ⟨r, live, if_pos rfl⟩

theorem openTimer_of_mute {a b : Channel} (same : a.mute = b.mute) : a.openTimer = b.openTimer := by
  have e := congrArg Channel.openTimer same; exact e

/-- R35, R71, R82: the channel of a grant notice that opens, and its CLAIM. -/
theorem State.grantNotice_of_granted (nodup : (s.rm.pool.map Run.handle).Nodup) {r : Run} (can : s.canOpen c = true)
    (head : s.head c = some r) : ((s.grantNotice c).chan c).mute = (s.chan c).beginOpen.mute ∧
      ((s.grantNotice c).chan c).announced = .live ⟨.flowing, r.level, r.demand⟩ ∧
      ((s.chan c).announced ≠ .live ⟨.flowing, r.level, r.demand⟩ →
        pendingClaim (s.grantNotice c).bus.outbound c = some (.live .flowing r.level r.demand)) := by
  obtain ⟨synced, present, -, -, -⟩ := (State.canOpen_iff head).1 can
  rw [State.grantNotice_of_canOpen can head]
  have chan := (s.setRunState r.handle .flowing).chan_setChan_same c (s.chan c).beginOpen
  have there : ((s.setRunState r.handle .flowing).setChan c (s.chan c).beginOpen).head c = some { r with state := .flowing } :=
    State.head_setRunState nodup head rfl
  have loud : ((s.setRunState r.handle .flowing).setChan c (s.chan c).beginOpen).mu.station.silent = false :=
    (congrArg StationState.silent synced).trans rfl
  generalize (s.setRunState r.handle .flowing).setChan c (s.chan c).beginOpen = u at chan there loud ⊢
  have derived : u.derive c = some ⟨.flowing, r.level, r.demand⟩ :=
    State.derive_of_driven (r := { r with state := .flowing }) (by rw [chan]; exact present) (by rw [chan]; rfl) there
  have holds := State.announce_holds loud c
  refine ⟨(chan_of_mute (u.announce_mute c) c).trans (congrArg Channel.mute chan), holds.1 _ ?_, fun other => ?_⟩
  · rw [derive_of_mute (u.announce_mute c), derived]
  · have said : (u.chan c).announced ≠ .live ⟨.flowing, r.level, r.demand⟩ := by rw [chan]; exact other
    rw [State.announce_of_live_other derived said]
    exact State.pendingClaim_queueClaim loud _ _

/-! ### The current derivation queued (R83) -/

theorem State.queueCurrent_of_silent (silent : s.mu.station.silent = true) : s.queueCurrent c = s := by
  have quiet : ∀ k, s.queueClaim c k = s := fun k => if_pos silent
  unfold State.queueCurrent
  cases s.derive c with
  | some d => exact quiet _
  | none =>
    dsimp only
    split <;> exact quiet _

theorem State.queueCurrent_of_live {k : Claimed} (derived : s.derive c = some k) :
    s.queueCurrent c = s.queueClaim c (.live k.phase k.level k.demand) := by
  unfold State.queueCurrent
  rw [derived]

theorem State.queueCurrent_of_pending {l : Level} {cause : GoneCause} (derived : s.derive c = none)
    (pending : pendingClaim s.bus.outbound c = some (.gone l cause)) : s.queueCurrent c = s.queueClaim c (.gone l cause) := by
  unfold State.queueCurrent
  rw [derived, pending]

theorem State.queueCurrent_of_withdrawn (derived : s.derive c = none)
    (other : ∀ m cause, pendingClaim s.bus.outbound c ≠ some (.gone m cause)) :
    s.queueCurrent c = s.queueClaim c (.gone ((s.chan c).announced.levelFor s.free c) .withdrawn) := by
  unfold State.queueCurrent
  rw [derived]
  dsimp only
  cases pending : pendingClaim s.bus.outbound c with
  | none => rfl
  | some k =>
    cases k with
    | live p l d => rfl
    | gone m cause => exact absurd pending (other m cause)

/-! ### A revocation notice (R36, R49) -/

theorem State.Tidy.revocationNotice_slow (tidy : s.Tidy) {r : Run} (head : s.head c = some r) (flows : r.state = .flowing)
    (slow : (s.chan c).confirmed = false) : s.revocationNotice c = (s.begun r .revoked).queueCurrent c ∧
      { r with state := .closing .revoked } ∈ (s.revocationNotice c).rm.pool := by
  obtain ⟨live, here, -⟩ := State.mem_of_head head
  have begun := (State.demandClose_of_flowing head flows .revoked here).1 fun shuts => by
    rw [shuts.confirmed] at slow
    cases slow
  have whole : s.revocationNotice c = (s.begun r .revoked).queueCurrent c := by
    unfold State.revocationNotice
    rw [begun]
  refine ⟨whole, ?_⟩
  rw [whole, rm_of_mute (State.queueCurrent_mute _ c)]
  exact (tidy.mem_begun live .revoked).2 (.inl rfl)

/-- R81: a valve closing under the head that was revoked is YIELDING. -/
theorem State.Tidy.derive_begun (tidy : s.Tidy) {r : Run} (head : s.head c = some r) (flows : r.state = .flowing)
    (present : (s.chan c).present = true) (drives : (s.chan c).valve.driven = true) (q : Purpose) :
    (s.begun r q).derive c = some ⟨.yielding, r.level, r.demand⟩ := by
  obtain ⟨live, here, -⟩ := State.mem_of_head head
  subst here
  have neat : (s.begun r q).Tidy := (Stir.begun (p := Scope.ending fun _ => True) live flows trivial q).tidy tidy
  have there := neat.head_eq ((tidy.mem_begun live q).2 (.inl rfl)) rfl
  have chan : (s.begun r q).chan r.channel = (s.chan r.channel).beginClose := State.chan_setChan_same _ _ _
  rw [Channel.beginClose_of_driven drives] at chan
  refine (State.derive_of_closing (by rw [chan]; exact present) (by rw [chan])).trans ?_
  rw [there]
  exact congrArg some (deriveClosing_of_closing rfl)

/-- R52, R54: a close that the end switch confirms at once leaves the next head of the channel ASKING. -/
theorem State.Tidy.demandClose_confirmed (tidy : s.Tidy) {r : Run} (head : s.head c = some r) (flows : r.state = .flowing)
    (drives : (s.chan c).valve.driven = true) (confirmed : (s.chan c).confirmed = true) {p : Purpose} (other : p ≠ .ending) :
    ((s.demandClose c p).chan c).mute = (s.chan c).beginClose.endClose.mute ∧
      ∃ q, (s.demandClose c p).head c = some q ∧ q.state = .asking := by
  obtain ⟨live, here, -⟩ := State.mem_of_head head
  subst here
  have shuts : (s.chan r.channel).shuts := by
    unfold Channel.shuts
    rw [Channel.beginClose_of_driven drives]
    exact ⟨rfl, confirmed⟩
  rw [(State.demandClose_of_flowing head flows p rfl).2 shuts]
  have begun : ({ r with state := .closing p } : Run) ∈ (s.begun r p).rm.pool := (tidy.mem_begun live p).2 (.inl rfl)
  have neat : (s.begun r p).Tidy := (Stir.begun (p := Scope.ending fun _ => True) live flows trivial p).tidy tidy
  generalize s.begun r p = u at begun neat ⊢
  have set := u.chan_setChan_same r.channel (s.chan r.channel).beginClose.endClose
  have neat' : (u.setChan r.channel (s.chan r.channel).beginClose.endClose).Tidy := tidy_of_rm (s := u) rfl neat
  have begun' : ({ r with state := .closing p } : Run) ∈ (u.setChan r.channel (s.chan r.channel).beginClose.endClose).rm.pool := begun
  generalize u.setChan r.channel (s.chan r.channel).beginClose.endClose = v at set neat' begun' ⊢
  have there := neat'.head_eq begun' rfl
  have fixed := v.dismissHead_chan (c := r.channel) (by rw [set]; exact Channel.fixed_of_closed rfl) false
  rw [set] at fixed
  refine ⟨fixed, ?_⟩
  rw [State.dismissHead_of_closing there rfl other]
  obtain ⟨h, -, rm⟩ := State.requeued_of_live begun' rfl (t := v.requeue r.channel r.handle) rfl
  have first := neat'.requeue_headIsFirst begun' rfl
  cases eligible : firstEligible (v.requeue r.channel r.handle).rm.pool r.channel with
  | some q =>
    obtain ⟨asks, found⟩ := first.1 q eligible
    exact ⟨q, found, asks⟩
  | none =>
    have still : ∃ x ∈ (v.requeue r.channel r.handle).rm.pool, x.channel = r.channel ∧ x.state ≠ .gated := by
      rw [rm]
      refine ⟨_, List.mem_map.2 ⟨_, begun', rfl⟩, ?_⟩
      dsimp only
      split
      · exact ⟨rfl, nofun⟩
      · rw [if_pos rfl]
        exact ⟨rfl, nofun⟩
    obtain ⟨x, hx, there, not⟩ := still
    exact absurd (firstEligible_eq_none.1 eligible x hx there) not

/-! ### The notices in a recomputation (R20, R34) -/

section
variable (tidy : s.Tidy) {r : Run} (head : s.head c = some r)
include tidy head

theorem State.Tidy.recompute_grants (granted : c ∈ s.allocate.granted) (can : s.written.canOpen c = true) :
    { r with state := .flowing } ∈ s.recompute.rm.pool ∧ (s.recompute.chan c).valve = .opening := by
  obtain ⟨v, neat, chan, headV, mu, own, table, there, mem⟩ := tidy.recompute_at c
  have may : v.canOpen c = true := by
    rw [← can]
    refine canOpen_congr (by rw [mu, s.written_mu]) (chan.trans (s.written_chan c).symm) (headV.trans (s.written_head c).symm) ?_
    rw [table, own, s.written_table, s.written_own]
  have here : v.notice s.allocate.granted (allChans.filter s.written.revoked) c = v.grantNotice c := if_pos granted
  rw [here] at there mem
  obtain ⟨-, on, -⟩ := State.mem_of_head head
  rw [there]
  exact ⟨(mem { r with state := .flowing } on).2 (State.mem_grantNotice may (headV.trans head)), State.grantNotice_opens may⟩

theorem State.Tidy.recompute_revokes (revoked : s.written.revoked c = true) (drives : (s.chan c).valve.driven = true)
    (slow : (s.chan c).confirmed = false) : { r with state := .closing .revoked } ∈ s.recompute.rm.pool ∧
      (s.recompute.chan c).Shutting (some (s.chan c).closeLoad) := by
  obtain ⟨v, neat, chan, headV, -, -, -, there, mem⟩ := tidy.recompute_at c
  have not := State.not_granted_of_revoked revoked
  obtain ⟨q, headQ, flows, -⟩ := State.revoked_iff.1 revoked
  rw [s.written_head, head] at headQ
  obtain rfl := Option.some.inj headQ
  have here : v.notice s.allocate.granted (allChans.filter s.written.revoked) c = v.revocationNotice c := by
    unfold State.notice
    rw [if_neg not, if_pos (List.mem_filter.2 ⟨mem_allChans c, revoked⟩)]
  rw [here] at there mem
  obtain ⟨-, on, -⟩ := State.mem_of_head head
  rw [there, ← chan]
  rw [← chan] at drives slow
  exact ⟨(mem { r with state := .closing .revoked } on).2 (neat.revocationNotice_slow (headV.trans head) flows slow).2,
    State.revocationNotice_shuts (headV.trans head) flows drives slow⟩

end

end Sys2Proof.Machine
end

section
namespace Sys2Proof
open Sys2Proof.Machine

/-- Settles O46: which channels are given a notice, and each notice by what it finds. -/
theorem noticesOpenAndClose : Obligations.NoticesOpenAndClose := by
  unfold Obligations.NoticesOpenAndClose
  intro s u c
  refine ⟨State.mem_granted, State.revoked_iff, fun written => ?_, fun r head => State.canOpen_iff head, State.canOpen_of_no_head,
    fun r v runs head can settings => ?_, fun can => ?_, fun r runs one head flows present drives => ⟨fun slow => ?_,
    fun confirmed healthy synced => ?_⟩⟩
  · have same : u = s.written := by
      rw [written]
      unfold State.written
      generalize s.allocate = a
      rfl
    rw [same]
    refine ⟨s.recompute_eq.trans (State.notices_eq _ _), ?_, ?_, fun runs one => ?_⟩
    · rw [s.recompute_ct]
      unfold State.written
      generalize s.allocate = a
      rfl
    · rw [s.recompute_alloc]
      unfold State.written
      generalize s.allocate = a
      rfl
    · have tidy := State.tidy_of_sound runs one
      exact ⟨fun r head granted can => tidy.recompute_grants head granted can,
        fun r head revoked drives slow => tidy.recompute_revokes head revoked drives slow⟩
  · obtain ⟨chan, announced, pending⟩ := State.grantNotice_of_granted runs.1 can head
    refine ⟨State.mem_grantNotice can head, valve_of_mute chan, ?_, unattributed_of_mute chan, accumulator_of_mute chan, announced,
      pending⟩
    rw [openTimer_of_mute chan]
    unfold Channel.beginOpen
    dsimp only
    rw [settings, Option.map_some]
  · rw [State.grantNotice_of_not can]
    refine ⟨rm_of_mute (State.queueCurrent_mute s c), fun d => valve_of_mute (chan_of_mute (State.queueCurrent_mute s c) d),
      State.queueCurrent_of_silent, fun loud => ⟨fun k derived => ?_, fun l cause derived pending => ?_,
      fun l derived other said => ?_⟩⟩
    · rw [State.queueCurrent_of_live derived]
      exact State.pendingClaim_queueClaim loud _ _
    · rw [State.queueCurrent_of_pending derived pending]
      exact State.pendingClaim_queueClaim loud _ _
    · rw [State.queueCurrent_of_withdrawn derived other, State.pendingClaim_queueClaim loud]
      rcases said with gone | ⟨p, d, live⟩
      · rw [gone]
        rfl
      · rw [live]
        rfl
  · have tidy := State.tidy_of_sound runs one
    obtain ⟨whole, mem⟩ := tidy.revocationNotice_slow head flows slow
    obtain ⟨valve, timer⟩ := State.revocationNotice_shuts head flows drives slow
    refine ⟨mem, valve, timer, fun loud => ?_, fun silent => ?_⟩
    · rw [whole, State.queueCurrent_of_live (tidy.derive_begun head flows present drives .revoked)]
      exact State.pendingClaim_queueClaim (s := s.begun r .revoked) loud _ _
    · rw [whole, State.queueCurrent_of_silent (s := s.begun r .revoked) silent]
      rfl
  · have tidy := State.tidy_of_sound runs one
    obtain ⟨chan, q, there, asks⟩ := tidy.demandClose_confirmed head flows drives confirmed (p := .revoked) (by decide)
    have mute := State.queueCurrent_mute (s.demandClose c .revoked) c
    have station : (s.demandClose c .revoked).mu.station = .synced := by
      rw [mu_of_bare (State.demandClose_bare s c .revoked), synced]
    unfold State.revocationNotice
    generalize s.demandClose c .revoked = v at chan there mute station ⊢
    refine ⟨(valve_of_mute (chan_of_mute mute c)).trans (valve_of_mute chan), q, (head_of_mute mute c).trans there, asks, ?_⟩
    have derived : v.derive c = some ⟨.asking, q.level, q.demand⟩ := by
      rw [State.derive_of_closed ?_ (valve_of_mute chan) ?_, there, station]
      · rfl
      · unfold Channel.present
        rw [settings_of_mute chan, Channel.beginClose_of_driven drives]
        exact present
      · rw [inFault_of_mute chan, Channel.beginClose_of_driven drives]
        exact healthy
    rw [State.queueCurrent_of_live derived]
    exact State.pendingClaim_queueClaim (by rw [station]; rfl) _ _

end Sys2Proof
end

section
/-!
SUPPORT. A member that leaves the roster (R2, R134): what its removal writes, what the recomputation of the same frame shows of it,
and the DROP, PURGE and LEAVE frames that remove a member other than the station (R136, R139, R148).
-/

namespace Sys2Proof.Machine

variable {s t h u : State}

theorem State.member_eq_none {a : Addr} (gone : s.isMember a = false) : s.member a = none :=
  Option.not_isSome_iff_eq_none.1 (Bool.eq_false_iff.1 gone)

/-- R2, R134, R161, R165: from `s` to `t` the member `d` has left the roster with its entries, and the halt unit has been told. -/
structure State.Left (s t : State) (d : Addr) : Prop where
  rm : t.rm = s.rm
  log : t.log = s.log
  chans : t.chans = s.chans
  straps : t.straps = s.straps
  mu : t.mu = { s.mu with roster := t.mu.roster, orphans := t.mu.orphans }
  isMember : ∀ b, t.isMember b = if d = b then false else s.isMember b
  ct : { t.ct with capacityView := 0, announcedSet := [] } =
    { s.ct with table := clearRow s.ct.table d, capacityView := 0, announcedSet := [] }
  hu : t.hu = s.hu.told d
  roster : t.hasEvent .rosterChanged = true
  keeps : ∀ e, s.hasEvent e = true → t.hasEvent e = true
  ended : s.hu.round = .opened → inSet s.hu.ackSet d = true → s.hu.acked[d.val] = none →
    s.hu.ackedSet = removeAddr s.hu.ackSet d → t.hasEvent .haltUnconfirmed = true

theorem State.without_calm (s : State) (d : Addr) : ∃ v w, (s.without d).calm =
    (((s.setTable (clearRow s.ct.table d)).setMember d none).setCt
      { s.ct with table := clearRow s.ct.table d, capacityView := v, announcedSet := w }).calm :=
  ⟨_, _, (State.raise_calm _ _).trans (State.refreshView_calm _)⟩

theorem State.without_hu (s : State) (d : Addr) : (s.without d).hu = s.hu :=
  (State.refreshView_hu ((s.setTable (clearRow s.ct.table d)).setMember d none)).trans rfl

theorem State.without_keeps (s : State) (d : Addr) {e : SiteEvent} (had : s.hasEvent e = true) :
    (s.without d).hasEvent e = true := by
  unfold State.without State.refreshView
  rw [State.hasEvent_raise, State.hasEvent_raiseIf, Bool.or_eq_true, Bool.or_eq_true]
  exact .inl (.inl had)

theorem State.member_removeMember {d : Addr} (member : s.isMember d = true) (b : Addr) :
    (s.removeMember d).member b = if d = b then none else s.member b := by
  rw [s.removeMember_of_member member]
  obtain ⟨v, w, without⟩ := s.without_calm d
  refine Eq.trans ?_ (s.member_setMember d b none)
  unfold State.member
  rw [mu_of_calm ((State.tellHalt_calm _ d).trans without)]
  rfl

theorem State.removeMember_left {d : Addr} (member : s.isMember d = true) : s.Left (s.removeMember d) d := by
  have gone := State.member_removeMember member
  rw [s.removeMember_of_member member] at gone ⊢
  obtain ⟨v, w, without⟩ := s.without_calm d
  have hu := s.without_hu d
  have keeps := fun e => s.without_keeps d (e := e)
  have raised : (s.without d).hasEvent .rosterChanged = true := State.hasEvent_raise_same _ _
  generalize s.without d = x at without hu keeps raised gone
  have calm := (State.tellHalt_calm x d).trans without
  refine ⟨(rm_of_calm calm).trans rfl, (log_of_calm calm).trans rfl, (chans_of_calm calm).trans rfl,
    (straps_of_calm calm).trans rfl, ?_, fun b => ?_, ?_, ?_,
    State.hasEvent_tellHalt_of _ _ raised, fun e had => State.hasEvent_tellHalt_of _ _ (keeps e had),
    fun round asked silent all => State.hasEvent_tellHalt_ended x d (by rw [hu]; exact round) (by rw [hu]; exact asked)
      (by rw [hu]; exact silent) (by rw [hu]; exact all)⟩
  · rw [mu_of_calm calm]
    rfl
  · unfold State.isMember
    rw [gone]
    split <;> rfl
  · rw [ct_of_calm calm]
    rfl
  · rw [State.tellHalt_hu, hu]

/-- A removal after the hearing of a frame, seen from before it. -/
theorem State.Heard.left {f : Frame} {d : Addr} (heard : s.Heard h f) (left : h.Left t d) : s.Left t d := by
  obtain ⟨rm, log, chans, straps, mu, isMember, ct, hu, roster, keeps, ended⟩ := left
  refine ⟨rm.trans heard.rm, log.trans heard.log, chans.trans heard.chans, straps.trans heard.straps, ?_, fun b => ?_, ?_, ?_,
    roster, fun e had => keeps e ?_, ?_⟩
  · rw [mu, heard.shape]
  · rw [isMember, heard.isMember]
  · rw [ct, heard.ct]
  · rw [hu, heard.hu]
  · rw [hasEvent_of_events heard.events]
    exact had
  · rw [← heard.hu]
    exact ended

namespace State.Left

variable {d : Addr} (left : s.Left t d)
include left

theorem table : t.ct.table = clearRow s.ct.table d := by
  have e := congrArg ClaimUnit.table left.ct
  exact e

theorem flags : t.ct.flags = s.ct.flags := by
  have e := congrArg ClaimUnit.flags left.ct
  exact e

theorem pointers : t.ct.pointers = s.ct.pointers := by
  have e := congrArg ClaimUnit.pointers left.ct
  exact e

theorem station : t.mu.station = s.mu.station := by rw [left.mu]
theorem cause : t.mu.cause = s.mu.cause := by rw [left.mu]

theorem said {b : Addr} (apart : b ≠ d) (c : Chan) : t.says b c = s.says b c := by
  unfold State.says
  rw [left.table, slot_clearRow, if_neg fun same => apart same.symm]

theorem staysOnFrame (stays : s.StaysOnFrame) : t.StaysOnFrame :=
  State.staysOnFrame_of_parts left.station left.cause left.chans stays

end State.Left

/-- What the recomputation of a frame shows of a member that its body has removed. -/
structure State.Removed (s t : State) (d : Addr) : Prop where
  member : t.member d = none
  slots : ∀ c : Chan, slot t.ct.table d c = none
  roster : t.hasEvent .rosterChanged = true
  told : s.ToldHalt t d
  reallocated : s.Reallocated t (clearRow s.ct.table d)
  others : ∀ b : Addr, b ≠ d → t.isMember b = s.isMember b ∧ ∀ c : Chan, t.says b c = s.says b c

theorem State.Left.removed {d : Addr} (left : s.Left u d) (b : Bool) : s.Removed ((u.recompute.evaluateIf b).rested) d := by
  obtain ⟨p, hu⟩ := settle_hu u b
  rw [left.hu] at hu
  refine ⟨?_, fun c => settle_slot_none u b ?_, ?_, toldHalt_of hu fun round asked silent all => ?_, ?_,
    fun e apart => ⟨?_, fun c => (settle_says u b e c).trans (left.said apart c)⟩⟩
  · exact settle_none u b (State.member_eq_none ((left.isMember d).trans (if_pos rfl)))
  · rw [left.table, slot_clearRow, if_pos rfl]
  · rw [settle_hasEvent u b (by decide)]
    exact left.roster
  · rw [settle_hasEvent u b (by decide)]
    exact left.ended round asked silent all
  · rw [← left.table]
    exact reallocated_of_plain left.rm left.chans left.station left.straps
  · rw [settle_isMember, left.isMember, if_neg fun same => apart same.symm]

/-! ### The orphan list -/

theorem State.setOrphans_calm_of (s : State) (os : List Orphan) :
    (s.setOrphans os).calm = (s.setMu { s.mu with orphans := os }).calm := State.raiseIf_calm _ _ _

theorem State.setOrphans_keeps (s : State) (os : List Orphan) {e : SiteEvent} (had : s.hasEvent e = true) :
    (s.setOrphans os).hasEvent e = true := by
  unfold State.setOrphans
  rw [State.hasEvent_raiseIf, Bool.or_eq_true]
  exact .inl had

theorem State.setOrphans_freezes (s : State) (os : List Orphan) (turns : os.isEmpty ≠ s.mu.orphans.isEmpty) :
    (s.setOrphans os).hasEvent .freezeChanged = true := by
  unfold State.setOrphans
  rw [State.hasEvent_raiseIf, Bool.or_eq_true, Bool.and_eq_true, bne_iff_ne]
  exact .inr ⟨turns, decide_eq_true rfl⟩

/-- A removal after the orphan list was replaced, seen from before. -/
theorem State.Left.of_setOrphans {d : Addr} {os : List Orphan} (left : (s.setOrphans os).Left t d) : s.Left t d := by
  obtain ⟨rm, log, chans, straps, mu, isMember, ct, hu, roster, keeps, ended⟩ := left
  have calm := s.setOrphans_calm_of os
  have unit := s.setOrphans_hu os
  refine ⟨rm.trans ((rm_of_calm calm).trans rfl), log.trans ((log_of_calm calm).trans rfl), chans.trans ((chans_of_calm calm).trans rfl),
    straps.trans ((straps_of_calm calm).trans rfl), ?_, fun b => (isMember b).trans ?_, ?_, ?_, roster,
    fun e had => keeps e (s.setOrphans_keeps os had), ?_⟩
  · rw [mu, s.setOrphans_mu]
  · unfold State.isMember State.member
    rw [s.setOrphans_mu]
  · rw [ct, s.setOrphans_ct]
  · rw [hu, unit]
  · rw [← unit]
    exact ended

/-- R136: a DROP of a member other than the station, with the orphan list that it leaves. -/
theorem State.dropMember_left {d : Addr} (member : s.isMember d = true) : s.Left (s.dropMember d) d := by
  unfold State.dropMember
  dsimp only
  split
  · refine State.Left.of_setOrphans (State.removeMember_left ?_)
    unfold State.isMember State.member
    rw [s.setOrphans_mu]
    exact member
  · exact State.removeMember_left member

theorem State.dropMember_orphans (s : State) (d : Addr) : (s.dropMember d).mu.orphans =
    if s.ownerLoad d = 0 then s.mu.orphans else s.mu.orphans ++ [⟨d, s.ownerLoad d⟩] := by
  unfold State.dropMember
  dsimp only
  rw [State.removeMember_orphans]
  split
  · next load =>
    rw [s.setOrphans_mu, if_neg (Nat.pos_iff_ne_zero.1 load)]
  · next load => rw [if_pos (Nat.eq_zero_of_not_pos load)]

theorem State.removeMember_keeps (s : State) (d : Addr) {e : SiteEvent} (had : s.hasEvent e = true) :
    (s.removeMember d).hasEvent e = true := by
  by_cases member : s.isMember d = true
  · exact (State.removeMember_left member).keeps e had
  · rw [s.removeMember_of_not_member (Bool.eq_false_iff.2 member)]
    exact had

theorem State.dropMember_freezes (s : State) (d : Addr) (empty : s.mu.orphans = [])
    (frozen : (s.dropMember d).mu.orphans ≠ []) : (s.dropMember d).hasEvent .freezeChanged = true := by
  rw [s.dropMember_orphans] at frozen
  unfold State.dropMember
  dsimp only
  split
  · refine State.removeMember_keeps _ d (s.setOrphans_freezes _ ?_)
    rw [empty]
    simp
  · next load =>
    rw [if_pos (Nat.eq_zero_of_not_pos load)] at frozen
    exact absurd empty frozen

/-- R136: the load of an owner, spelled out by phase. -/
theorem State.ownerLoad_eq (s : State) (d : Addr) : s.ownerLoad d =
    sumRow (fun e => if e.phase = .flowing ∨ e.phase = .yielding ∨ e.phase = .stuck ∨
      (e.phase = .asking ∧ e.latched = true) then e.demand else 0) s.ct.table[d.val] := by
  refine congrArg (fun w => sumRow w s.ct.table[d.val]) (funext fun e => ?_)
  unfold Entry.orphanLoad
  cases e.phase <;> simp

end Sys2Proof.Machine
end

section
/-!
SUPPORT. The station steps out of the site (R149, R151, R169): what an entry to ISOLATED or CLASH leaves of roster, copy, halt unit,
runs and valves, through the recomputation and the evaluation that follow it.
-/

namespace Sys2Proof.Machine

variable {s t h u : State}

/-! ### The closes -/

/-- The heads that were FLOWING in `s` on driven valves close for ISOLATE in `w`, and no run of `w` is FLOWING. -/
structure State.Shuts (s w : State) : Prop where
  tidy : w.Tidy
  flags : w.ct.flags = s.ct.flags
  quiet : ∀ c, w.Quiet c
  closes : ∀ c r, s.head c = some r → r.state = .flowing → (s.chan c).valve.driven = true → (s.chan c).confirmed = false →
    (w.chan c).confirmed = false ∧ (w.chan c).Shutting (some (s.chan c).closeLoad) ∧
      (s.stopSet r.stopFlag = false → { r with state := .closing .isolate } ∈ w.rm.pool)

theorem State.Shuts.of_parts {v w : State} (shuts : s.Shuts v) (rm : w.rm.pool = v.rm.pool)
    (chans : ∀ c, (w.chan c).mute = (v.chan c).mute) (flags : w.ct.flags = v.ct.flags) : s.Shuts w := by
  refine ⟨tidy_of_rm rm shuts.tidy, flags.trans shuts.flags, fun c r live => ?_, fun c r head flows drives slow => ?_⟩
  · rw [rm] at live
    exact shuts.quiet c r live
  · obtain ⟨slow, shutting, kept⟩ := shuts.closes c r head flows drives slow
    refine ⟨(confirmed_of_mute (chans c)).trans slow, shutting.of_mute (chans c), fun open' => ?_⟩
    rw [rm]
    exact kept open'

theorem State.Shuts.chain {p : Scope} {v w : State} (shuts : s.Shuts v) (chain : Stirs p v w) (shut : ∀ c, ¬ p.opens c)
    (kept : ∀ r ∈ v.rm.pool, s.stopSet r.stopFlag = false → ¬ p.ends r.handle) : s.Shuts w := by
  refine ⟨chain.tidy shuts.tidy, ?_, fun c => chain.quiet shuts.tidy (shut c) (shuts.quiet c),
    fun c r head flows drives slow => ?_⟩
  · rw [ct_of_bare chain.bare]
    exact shuts.flags
  · obtain ⟨slow, shutting, stays⟩ := shuts.closes c r head flows drives slow
    exact ⟨(chain.confirmed c).trans slow, chain.shutting slow shutting,
      fun open' => chain.sinks shuts.tidy (kept _ (stays open') open') (stays open') rfl⟩

theorem State.canOpen_of_off (off : s.mu.station ≠ .synced) (c : Chan) : s.canOpen c = false :=
  Bool.eq_false_iff.2 fun can => off (State.of_canOpen can).1

theorem State.grantNotice_of_off (off : s.mu.station ≠ .synced) (c : Chan) : s.grantNotice c = s.queueCurrent c := by
  unfold State.grantNotice
  rw [State.canOpen_of_off off c]
  rfl

theorem Stirs.notices_of_off (tidy : s.Tidy) (off : s.mu.station ≠ .synced) (granted revoked : List Chan) :
    Stirs Scope.closes s (s.notices granted revoked) := by
  have each : ∀ (cs : List Chan) (u : State), u.Tidy → u.mu.station ≠ .synced →
      Stirs Scope.closes u (cs.foldl (fun v c => v.notice granted revoked c) u) := by
    intro cs
    induction cs with
    | nil => exact fun u _ _ => .refl u
    | cons c cs ih =>
      intro u neat out
      have one : Stirs Scope.closes u (u.notice granted revoked c) := by
        unfold State.notice
        split
        · rw [State.grantNotice_of_off out]
          exact Stirs.queueCurrent u trivial
        · split
          · exact Stirs.revocationNotice neat trivial
          · exact .refl u
      exact one.trans (ih _ (one.tidy neat) (by rw [mu_of_bare one.bare]; exact out))
  exact each allChans s tidy off

/-- R21: outside SYNCED a recomputation opens nothing. -/
theorem State.Tidy.recompute_off (tidy : s.Tidy) (off : s.mu.station ≠ .synced) : Stirs Scope.closes s.written s.recompute := by
  rw [s.recompute_eq]
  exact Stirs.notices_of_off tidy.written off _ _

theorem stopSet_of_flags (flags : t.ct.flags = s.ct.flags) (n : Option (Fin 16)) : t.stopSet n = s.stopSet n := by
  unfold State.stopSet State.flag
  rw [flags]

/-- The recomputation and the evaluation outside SYNCED leave the closes as they are, but for those that stop flags end. -/
theorem State.Shuts.settle {w : State} (shuts : s.Shuts w) (off : w.mu.station ≠ .synced) (b : Bool) :
    s.Shuts (w.recompute.evaluateIf b) := by
  have written : s.Shuts w.written := shuts.of_parts (congrArg RunUnit.pool w.written_rm)
    (fun c => congrArg Channel.mute (w.written_chan c)) (by unfold State.written; generalize w.allocate = a; rfl)
  have again := written.chain (shuts.tidy.recompute_off off) (fun _ => id) fun _ _ _ => id
  generalize w.recompute = v at again
  refine again.chain (p := ⟨(· ∈ v.stopping), fun _ => False, fun _ => True, fun _ => True⟩)
    (Stirs.evaluateIf ⟨fun _ => trivial, fun _ => trivial⟩ again.tidy (fun _ => id) b) (fun _ => id) fun r live open' stops => ?_
  obtain ⟨q, there, same, set, -⟩ := mem_stopping.1 stops
  obtain rfl := again.tidy.only there live same
  rw [stopSet_of_flags again.flags, open'] at set
  cases set

theorem State.Shuts.closedForIsolate (shuts : s.Shuts t) : s.ClosedForIsolate t := by
  refine ⟨fun c r head => ?_, fun c r head flows drives slow => ?_⟩
  · obtain ⟨live, here, -⟩ := State.mem_of_head head
    exact shuts.quiet c r live here
  · obtain ⟨-, ⟨valve, timer⟩, kept⟩ := shuts.closes c r head flows drives slow
    exact ⟨valve, timer, kept⟩

theorem State.Tidy.shuts_closeAll (tidy : s.Tidy) : s.Shuts (s.closeAll .isolate) := by
  have chain := tidy.closeAll_chain (q := .isolate) (by decide)
  refine ⟨chain.tidy tidy, ?_, fun c => tidy.closeAll_quiet (by decide) c, fun c r head flows drives slow => ?_⟩
  · rw [ct_of_bare chain.bare]
  · obtain ⟨live, shutting⟩ := tidy.closeAll_shuts (q := .isolate) (by decide) head flows drives slow
    exact ⟨(chain.confirmed c).trans slow, shutting, fun _ => live⟩

/-! ### Valves at rest -/

theorem Fixed.notices_of_off {c : Chan} (off : s.mu.station ≠ .synced) (granted revoked : List Chan) :
    Fixed c s (s.notices granted revoked) := by
  have each : ∀ (cs : List Chan) (u : State), u.mu.station ≠ .synced →
      Fixed c u (cs.foldl (fun v d => v.notice granted revoked d) u) := by
    intro cs
    induction cs with
    | nil => exact fun u _ => .refl u
    | cons d cs ih =>
      intro u out
      have one : Fixed c u (u.notice granted revoked d) ∧ (u.notice granted revoked d).mu = u.mu := by
        unfold State.notice
        split
        · rw [State.grantNotice_of_off out]
          exact ⟨.queueCurrent u d, mu_of_bare (State.queueCurrent_bare u d)⟩
        · split
          · exact ⟨(Fixed.demandClose u d .revoked).trans (.queueCurrent _ d), mu_of_bare (State.revocationNotice_bare u d)⟩
          · exact ⟨.refl u, rfl⟩
      exact one.1.trans (ih _ (by rw [one.2]; exact out))
  exact each allChans s off

/-- R21: outside SYNCED a recomputation and an evaluation leave a valve that is at rest. -/
theorem Fixed.settle {c : Chan} (off : s.mu.station ≠ .synced) (b : Bool) : Fixed c s (s.recompute.evaluateIf b) := by
  refine Fixed.trans (t := s.recompute) ?_ (.evaluateIf _ b)
  rw [s.recompute_eq]
  have out : s.written.mu.station ≠ .synced := by rw [s.written_mu]; exact off
  have same := s.written_chan c
  generalize s.written = w at out same
  exact Fixed.trans (t := w) (Fixed.of_chan same) (Fixed.notices_of_off out _ _)

/-! ### The halt unit -/

/-- R169: the halt unit after the own address has been told as removed, where it was a member, or else has left the settle set. -/
def HaltUnit.ownLeft (hu : HaltUnit) (own : Addr) (member : Bool) : HaltUnit :=
  if member then hu.told own else if inSet hu.settle own then hu.unsettling own else hu

theorem inSet_removeAddr_self (m : BitVec 16) (a : Addr) : inSet (removeAddr m a) a = false := by
  rw [inSet_removeAddr]
  simp

theorem removeAddr_of_out {m : BitVec 16} {a : Addr} (out : inSet m a = false) : removeAddr m a = m := by
  refine BitVec.eq_of_getLsbD_eq fun i hi => ?_
  have bit := inSet_removeAddr m a ⟨i, hi⟩
  refine bit.trans ?_
  by_cases here : (⟨i, hi⟩ : Addr) = a
  · subst here
    rw [out, Bool.false_and]
    exact out.symm
  · rw [decide_eq_true here, Bool.and_true]
    rfl

theorem HaltUnit.told_settle (hu : HaltUnit) (a : Addr) : (hu.told a).settle = removeAddr hu.settle a := by
  obtain ⟨settle, -⟩ := hu.removing_settle a
  obtain ⟨-, -, -, -, -, same, -⟩ := HaltUnit.calmed_round { hu.removing a with settle := removeAddr (hu.removing a).settle a }
  exact same.trans (congrArg (removeAddr · a) settle)

theorem State.settleOwn_hu (s : State) : s.settleOwn.hu = if inSet s.hu.settle s.own then s.hu.unsettling s.own else s.hu := by
  unfold State.settleOwn
  split
  · exact State.settleRemoval_hu s s.own
  · rfl

theorem HaltUnit.ownLeft_settle (hu : HaltUnit) (own : Addr) (member : Bool) :
    (hu.ownLeft own member).settle = removeAddr hu.settle own := by
  unfold HaltUnit.ownLeft
  split
  · exact hu.told_settle own
  · split
    · exact (HaltUnit.calmed_round { hu with settle := removeAddr hu.settle own }).2.2.2.2.2.1
    · next out => exact (removeAddr_of_out (Bool.eq_false_iff.2 out)).symm

/-- R169: what an entry to ISOLATED or CLASH leaves of the halt unit, from the halt unit itself. -/
theorem ownLeftHalt_of (hu : t.hu = { s.hu.ownLeft s.own (s.isMember s.own) with ackPending := false })
    (event : ∀ a, s.own = a → s.isMember a = true → s.hu.round = .opened → inSet s.hu.ackSet a = true →
      s.hu.acked[a.val] = none → s.hu.ackedSet = removeAddr s.hu.ackSet a → t.hasEvent .haltUnconfirmed = true) :
    s.OwnLeftHalt t := by
  refine ⟨by rw [hu], fun member => ?_, fun other => ?_⟩
  · rw [member] at hu
    exact toldHalt_of hu (event _ rfl member)
  · rw [other] at hu
    have settle := s.hu.ownLeft_settle s.own false
    by_cases asked : inSet s.hu.settle s.own = true
    · have shape : s.hu.ownLeft s.own false = s.hu.unsettling s.own := if_pos asked
      obtain ⟨round, ackSet, acked, missing, timer, -, -⟩ :=
        HaltUnit.calmed_round { s.hu with settle := removeAddr s.hu.settle s.own }
      rw [shape] at hu settle
      rw [hu]
      refine ⟨round, ackSet, acked, missing, timer, settle, fun settling _ empty => ?_, fun other' => ?_⟩
      · exact HaltUnit.calmed_of_empty { s.hu with settle := removeAddr s.hu.settle s.own } settling (settle.symm.trans empty)
      · have still := HaltUnit.calmed_of_other { s.hu with settle := removeAddr s.hu.settle s.own } (other'.imp_right fun rest =>
          rest.elim (fun out => Bool.noConfusion (out.symm.trans asked)) fun rest empty => rest (settle.trans empty))
        have halt := congrArg HaltUnit.halt still
        have reasons := congrArg HaltUnit.reasons still
        exact ⟨halt, reasons⟩
    · have shape : s.hu.ownLeft s.own false = s.hu := if_neg asked
      rw [shape] at hu settle
      rw [hu]
      exact ⟨rfl, rfl, rfl, rfl, rfl, settle, fun _ in' => absurd in' asked, fun _ => ⟨rfl, rfl⟩⟩

/-! ### What the entry leaves -/

/-- R149, R151, R169: from `s` to `x` the station has stepped out of the site. -/
structure State.Out (s x : State) (st : StationState) (cause : IsolationCause) (e : SiteEvent) : Prop where
  station : x.mu.station = st
  cause : x.mu.cause = cause
  orphans : x.mu.orphans = s.mu.orphans
  isMember : ∀ b, x.isMember b = if s.own = b then false else s.isMember b
  fresh : ∀ b, ∀ m ∈ x.member b, m.stale = false
  table : x.ct.table = s.withoutOwn
  flags : x.ct.flags = s.ct.flags
  adoption : x.ct.adoptionPending = false
  straps : x.straps = s.straps
  hu : ∃ b, x.hu = { s.hu.ownLeft s.own (s.isMember s.own) with ackPending := b }
  event : x.hasEvent e = true
  roster : s.isMember s.own = true → x.hasEvent .rosterChanged = true
  ended : ∀ a, s.own = a → s.isMember a = true → s.hu.round = .opened → inSet s.hu.ackSet a = true → s.hu.acked[a.val] = none →
    s.hu.ackedSet = removeAddr s.hu.ackSet a → x.hasEvent .haltUnconfirmed = true

section
variable {st : StationState} {cause : IsolationCause} {e : SiteEvent}

theorem State.Out.of_parts {x y : State} (out : s.Out x st cause e) (mu : y.mu = x.mu) (ct : y.ct = x.ct)
    (straps : y.straps = x.straps) (hu : ∃ b, y.hu = { x.hu with ackPending := b })
    (events : y.events = x.events) : s.Out y st cause e := by
  have member : ∀ b, y.member b = x.member b := fun b => by
    unfold State.member
    rw [mu]
  refine ⟨by rw [mu]; exact out.station, by rw [mu]; exact out.cause, by rw [mu]; exact out.orphans, fun b => ?_, fun b => ?_,
    by rw [ct]; exact out.table, by rw [ct]; exact out.flags, by rw [ct]; exact out.adoption, straps.trans out.straps,
    ?_, by rw [hasEvent_of_events events]; exact out.event, by rw [hasEvent_of_events events]; exact out.roster,
    by rw [hasEvent_of_events events]; exact out.ended⟩
  · unfold State.isMember
    rw [member]
    exact out.isMember b
  · rw [member]
    exact out.fresh b
  · obtain ⟨b, same⟩ := hu
    obtain ⟨_, unit⟩ := out.hu
    exact ⟨b, by rw [same, unit]⟩

theorem State.Heard.out {f : Frame} {x : State} (heard : s.Heard h f) (out : h.Out x st cause e) : s.Out x st cause e := by
  obtain ⟨station, reason, orphans, isMember, fresh, table, flags, adoption, straps, hu, event, roster, ended⟩ := out
  have own := heard.own
  have table' : h.withoutOwn = s.withoutOwn := by
    unfold State.withoutOwn
    rw [own, heard.isMember, heard.ct]
  have unit := heard.hu
  refine ⟨station, reason, orphans.trans heard.orphans, fun b => ?_, fresh, table.trans table', flags.trans (by rw [heard.ct]),
    adoption, straps.trans heard.straps, ?_, event, ?_, fun a here => ?_⟩
  · rw [isMember, own, heard.isMember]
  · rw [own, heard.isMember, unit] at hu
    exact hu
  · rw [own, heard.isMember] at roster
    exact roster
  · have ended := ended a (own.trans here)
    rw [heard.isMember, unit] at ended
    exact ended

end

theorem State.member_clearStale' (u : State) (b : Addr) : ∀ m ∈ u.clearStale.member b, m.stale = false := by
  intro m found
  rw [member_clearStale] at found
  obtain ⟨x, -, rfl⟩ := Option.map_eq_some_iff.1 found
  rfl

theorem State.removeMember_cause (s : State) (a : Addr) : (s.removeMember a).mu.cause = s.mu.cause := by
  by_cases member : s.isMember a = true
  · exact (State.removeMember_left member).cause
  · rw [s.removeMember_of_not_member (Bool.eq_false_iff.2 member)]

theorem State.removeMember_flags (s : State) (a : Addr) : (s.removeMember a).ct.flags = s.ct.flags := by
  by_cases member : s.isMember a = true
  · exact (State.removeMember_left member).flags
  · rw [s.removeMember_of_not_member (Bool.eq_false_iff.2 member)]

theorem State.removeMember_hu (s : State) (a : Addr) : (s.removeMember a).hu = if s.isMember a = true then s.hu.told a else s.hu := by
  by_cases member : s.isMember a = true
  · rw [if_pos member, (State.removeMember_left member).hu]
  · rw [if_neg member, s.removeMember_of_not_member (Bool.eq_false_iff.2 member)]

theorem State.removeOwn_hu (s : State) : (s.removeMember s.own).settleOwn.hu = s.hu.ownLeft s.own (s.isMember s.own) := by
  rw [State.settleOwn_hu, State.removeMember_own, State.removeMember_hu]
  unfold HaltUnit.ownLeft
  by_cases member : s.isMember s.own = true
  · rw [if_pos member, if_pos member, if_neg]
    rw [HaltUnit.told_settle, inSet_removeAddr_self]
    exact Bool.false_ne_true
  · rw [if_neg member, if_neg member]

theorem State.settleOwn_hasEvent (s : State) (e : SiteEvent) : s.settleOwn.hasEvent e = s.hasEvent e := by
  unfold State.settleOwn
  split
  · exact hasEvent_of_events (State.settleRemoval_events _ _) e
  · rfl

/-- R2, R169: the removal of the own record, where there is one. -/
theorem State.removeOwn_out {v : State} {e : SiteEvent} (event : v.hasEvent e = true) :
    v.Out ((v.removeMember v.own).settleOwn.clearStale.setAdoption false) v.mu.station v.mu.cause e := by
  have calm := State.settleOwn_calm (v.removeMember v.own)
  have hu := v.removeOwn_hu
  have events := State.settleOwn_hasEvent (v.removeMember v.own)
  have mu := mu_of_calm calm
  have ct := ct_of_calm calm
  have straps := (straps_of_calm calm).trans (straps_of_plant (v.removeMember_plant v.own))
  have table := v.removeMember_table v.own
  have isMember := v.isMember_removeMember v.own
  have keeps := fun e => v.removeMember_keeps v.own (e := e)
  have left := fun member => State.removeMember_left (s := v) (d := v.own) member
  have station := v.removeMember_station v.own
  have cause := v.removeMember_cause v.own
  have orphans := v.removeMember_orphans v.own
  have flags := v.removeMember_flags v.own
  generalize v.removeMember v.own = x at *
  generalize x.settleOwn = y at *
  refine ⟨?_, ?_, ?_, fun b => ?_, y.member_clearStale', ?_, ?_, rfl, straps, ⟨_, hu⟩, ?_, fun member => ?_, ?_⟩
  · exact (congrArg MemberUnit.station mu).trans station
  · exact (congrArg MemberUnit.cause mu).trans cause
  · exact (congrArg MemberUnit.orphans mu).trans orphans
  · refine Eq.trans ?_ ((isMember b).trans ?_)
    · unfold State.isMember
      show (y.clearStale.member b).isSome = _
      rw [member_clearStale, Option.isSome_map]
      unfold State.member
      rw [mu]
    · by_cases here : v.own = b
      · subst here
        simp
      · rw [if_neg here, decide_eq_true (p := b ≠ v.own) fun same => here same.symm, Bool.and_true]
  · exact (congrArg ClaimUnit.table ct).trans table
  · exact (congrArg ClaimUnit.flags ct).trans flags
  · exact (events e).trans (keeps e event)
  · exact (events _).trans (left member).roster
  · rintro _ rfl
    exact fun member round asked silent all => (events _).trans ((left member).ended round asked silent all)

/-- R149, R151: the station state written, then the own record removed. -/
theorem State.steppingOut_out (s : State) (st : StationState) (cause : IsolationCause) (e : SiteEvent) :
    s.Out (s.steppingOut st cause e) st cause e := by
  have out := State.removeOwn_out (v := (s.setMu { s.mu with station := st, cause := cause, listenWindow := none }).raise e)
    (State.hasEvent_raise_same _ e)
  obtain ⟨station, reason, orphans, isMember, fresh, table, flags, adoption, straps, hu, event, roster, ended⟩ := out
  exact ⟨station, reason, orphans, isMember, fresh, table, flags, adoption, straps, hu, event, roster, ended⟩

/-! ### What the recomputation and the evaluation show of it -/

theorem State.rested_of_other (other : u.mu.station ≠ .resync) : u.rested = u.closing := by
  unfold State.rested
  rw [State.staleTest_of_other other]

/-- R149, R151, R20: from `s` to `t` the station has stepped out of the site, and the allocator has recomputed. -/
structure State.Parted (s t : State) (st : StationState) (cause : IsolationCause) (e : SiteEvent) : Prop where
  station : t.mu.station = st
  cause : t.mu.cause = cause
  orphans : t.mu.orphans = s.mu.orphans
  isMember : ∀ b, t.isMember b = if s.own = b then false else s.isMember b
  fresh : ∀ b, ∀ m ∈ t.member b, m.stale = false
  flags : t.ct.flags = s.ct.flags
  adoption : t.ct.adoptionPending = false
  event : t.hasEvent e = true
  roster : s.isMember s.own = true → t.hasEvent .rosterChanged = true
  unit : t.hu = { s.hu.ownLeft s.own (s.isMember s.own) with ackPending := false }
  hu : s.OwnLeftHalt t
  recomputed : t.RecomputedFrom s.withoutOwn
  said : ∀ b, b ≠ s.own → ∀ c, t.says b c = s.says b c

theorem State.withoutOwn_apart (s : State) {b : Addr} (apart : b ≠ s.own) (c : Chan) :
    slot s.withoutOwn b c = slot s.ct.table b c := by
  unfold State.withoutOwn
  split
  · rw [slot_clearRow, if_neg fun same => apart same.symm]
  · rfl

theorem State.Out.parted {x : State} {st : StationState} {cause : IsolationCause} {e : SiteEvent} (out : s.Out x st cause e)
    (still : x.hu.ackPending = false) (other : st ≠ .resync) (event : e ≠ .syncRegained) (b : Bool) :
    s.Parted ((x.recompute.evaluateIf b).rested) st cause e := by
  have mu : (x.recompute.evaluateIf b).mu = x.mu := (State.evaluateIf_mu _ b).trans x.recompute_mu
  have rest : (x.recompute.evaluateIf b).rested.mu = x.mu := by
    rw [State.rested_of_other (by rw [mu, out.station]; exact other), State.closing_mu, mu]
  have adoption : (x.recompute.evaluateIf b).rested.ct.adoptionPending = x.ct.adoptionPending := by
    rw [State.rested_of_other (by rw [mu, out.station]; exact other), State.closing_ct, State.evaluateIf_ct, x.recompute_ct]
  have hu := settle_hu_of_clear x b still
  have unit : x.hu = { s.hu.ownLeft s.own (s.isMember s.own) with ackPending := false } := by
    obtain ⟨p, same⟩ := out.hu
    rw [same] at still ⊢
    obtain rfl : p = false := still
    rfl
  have recomputed := recomputedFrom_rested x b
  have events := fun (e : SiteEvent) other => settle_hasEvent x b (e := e) other
  have said := settle_says x b
  have flags := settle_flags x b
  generalize (x.recompute.evaluateIf b).rested = t at *
  have member : ∀ a, t.member a = x.member a := fun a => by
    unfold State.member
    rw [rest]
  refine ⟨by rw [rest]; exact out.station, by rw [rest]; exact out.cause, by rw [rest]; exact out.orphans, fun a => ?_, fun a => ?_,
    flags.trans out.flags, adoption.trans out.adoption, (events e event).trans out.event,
    fun own => (events _ (by decide)).trans (out.roster own), hu.trans unit,
    ownLeftHalt_of (hu.trans unit) fun a here own round asked silent all =>
      (events _ (by decide)).trans (out.ended a here own round asked silent all), ?_, fun a apart c => ?_⟩
  · unfold State.isMember
    rw [member]
    exact out.isMember a
  · rw [member]
    exact out.fresh a
  · rw [← out.table]
    exact recomputed
  · rw [said, out.table, s.withoutOwn_apart apart]
    rfl

/-- R81, R116: outside the site, with no acknowledgement owed, a recomputation and what ends the event send nothing. -/
theorem settle_silent {x : State} (silent : x.mu.station.silent = true) (still : x.hu.ackPending = false) (b : Bool) :
    (x.recompute.evaluateIf b).rested.bus = x.bus ∧
      ∀ c, ((x.recompute.evaluateIf b).rested.chan c).announced = (x.chan c).announced := by
  have chain := RunSide.settleCopy x b
  have mu : (x.recompute.evaluateIf b).mu = x.mu := (State.evaluateIf_mu _ b).trans x.recompute_mu
  have hu : (x.recompute.evaluateIf b).hu = x.hu := (State.evaluateIf_hu _ b).trans x.recompute_hu
  have silent' : ((x.setTable x.allocate.table).setAlloc x.allocate.result).mu.station.silent = true := by
    generalize x.allocate = a
    exact silent
  have bus := chain.bus_of_silent silent'
  have announced := chain.announced_of_silent silent'
  have start : ((x.setTable x.allocate.table).setAlloc x.allocate.result).bus = x.bus ∧
      ∀ c, ((x.setTable x.allocate.table).setAlloc x.allocate.result).chan c = x.chan c := by
    generalize x.allocate = a
    exact ⟨rfl, fun c => rfl⟩
  rw [start.1] at bus
  generalize x.recompute.evaluateIf b = v at *
  have off : v.mu.station ≠ .resync := fun same => by
    rw [← mu, same] at silent
    cases silent
  rw [State.rested_of_other off]
  have all := RunSide.announceAll v
  have busAll := all.bus_of_silent (by rw [mu]; exact silent)
  have announcedAll := all.announced_of_silent (by rw [mu]; exact silent)
  have huAll : v.announceAll.hu = v.hu := hu_of_bare v.announceAll_bare
  have muAll : v.announceAll.mu = v.mu := mu_of_bare v.announceAll_bare
  unfold State.closing
  generalize v.announceAll = w at *
  have tested : w.ackTest = w := if_neg fun both => by
    rw [huAll, hu, still] at both
    cases both.1
  have left : w.leaveTest = w := if_neg fun both => by
    rw [← mu, ← muAll, both.1] at silent
    cases silent
  rw [tested, left]
  refine ⟨busAll.trans bus, fun c => (announcedAll c).trans ((announced c).trans ?_)⟩
  rw [start.2 c]

/-! ### The entries themselves -/

section
variable {st : StationState} {cause : IsolationCause} {e : SiteEvent}

theorem State.closeAll_out (s : State) : s.Out ((s.steppingOut st cause e).closeAll .isolate) st cause e := by
  have bare := State.closeAll_bare (s.steppingOut st cause e) .isolate
  exact (s.steppingOut_out st cause e).of_parts (mu_of_bare bare) (ct_of_bare bare) (straps_of_bare bare)
    ⟨_, (hu_of_bare bare).trans rfl⟩ (events_of_bare bare)

theorem State.closeAll_shuts (tidy : s.Tidy) : s.Shuts ((s.steppingOut st cause e).closeAll .isolate) := by
  have plant := s.steppingOut_plant st cause e
  have out := s.steppingOut_out st cause e
  have rm := rm_of_plant plant
  have chans := chans_of_plant plant
  generalize s.steppingOut st cause e = u at *
  have neat : u.Tidy := tidy_of_rm (congrArg RunUnit.pool rm) tidy
  have shuts := neat.shuts_closeAll
  refine ⟨shuts.tidy, shuts.flags.trans out.flags, shuts.quiet, fun c r head flows drives slow => ?_⟩
  have chan : u.chan c = s.chan c := chan_of_chans chans c
  have closes := shuts.closes c r (by unfold State.head; rw [rm]; exact head) flows (by rw [chan]; exact drives)
    (by rw [chan]; exact slow)
  rw [chan, stopSet_of_flags out.flags] at closes
  exact closes

end

theorem State.announceGone_chan (s : State) (c : Chan) : s.announceGone.chan c = { s.chan c with announced := .gone none } := by
  unfold State.chan State.announceGone
  rw [State.setChans_chans, mapVec_get]

/-- R149: the entry to ISOLATED. -/
theorem State.enterIsolated_out (s : State) (cause : IsolationCause) : s.Out (s.enterIsolated cause) .isolated cause .isolated ∧
    (s.enterIsolated cause).hu.ackPending = false ∧ (s.Tidy → s.Shuts (s.enterIsolated cause)) ∧
    (s.enterIsolated cause).bus = { s.bus with outbound := [], failures := 0, beatTimer := none } ∧
    ∀ c, ((s.enterIsolated cause).chan c).announced = .gone none := by
  have out := s.closeAll_out (st := .isolated) (cause := cause) (e := .isolated)
  have shuts := fun tidy => s.closeAll_shuts (st := .isolated) (cause := cause) (e := .isolated) tidy
  have bus : { ((s.steppingOut .isolated cause .isolated).closeAll .isolate).bus with outbound := [] } =
      { s.bus with outbound := [] } :=
    (silenced_of_bare (State.closeAll_bare _ .isolate)).trans (by rw [bus_of_plant (s.steppingOut_plant _ _ _)])
  rw [s.enterIsolated_eq, s.isolating_eq]
  generalize (s.steppingOut .isolated cause .isolated).closeAll .isolate = w at *
  refine ⟨out.of_parts rfl rfl rfl ⟨_, rfl⟩ rfl, rfl, fun tidy => (shuts tidy).of_parts rfl (fun c => ?_) rfl, ?_, fun c => ?_⟩
  · have e := congrArg Channel.mute (w.announceGone_chan c)
    exact e
  · have e := congrArg (fun v : BusUnit => { v with failures := 0, beatTimer := none }) bus
    exact e
  · have e := congrArg Channel.announced (w.announceGone_chan c)
    exact e

/-- R151: the entry to CLASH, before its recomputation. -/
theorem State.clashed_out (s : State) : s.Out s.clashed .clash s.mu.cause .clash ∧
    s.clashed.hu.ackPending = false ∧ (s.Tidy → s.Shuts s.clashed) ∧
    s.clashed.bus = { s.bus with outbound := [], beatTimer := none } := by
  have out := s.closeAll_out (st := .clash) (cause := s.mu.cause) (e := .clash)
  have shuts := fun tidy => s.closeAll_shuts (st := .clash) (cause := s.mu.cause) (e := .clash) tidy
  have bus : { ((s.steppingOut .clash s.mu.cause .clash).closeAll .isolate).bus with outbound := [] } =
      { s.bus with outbound := [] } :=
    (silenced_of_bare (State.closeAll_bare _ .isolate)).trans (by rw [bus_of_plant (s.steppingOut_plant _ _ _)])
  unfold State.clashed
  rw [s.clashing_eq]
  generalize (s.steppingOut .clash s.mu.cause .clash).closeAll .isolate = w at *
  refine ⟨out.of_parts rfl rfl rfl ⟨_, rfl⟩ rfl, rfl, fun tidy => (shuts tidy).of_parts rfl (fun c => rfl) rfl, ?_⟩
  have e := congrArg (fun v : BusUnit => { v with beatTimer := none }) bus
  exact e

/-! ### The end of the event -/

theorem State.Out.conclude {y : State} {st : StationState} {cause : IsolationCause} {e : SiteEvent} (out : s.Out y st cause e)
    (other : st ≠ .resync) (stays : st ≠ .isolated ∨ cause ≠ .selfDrop) (b : Bool) :
    (y.recompute.evaluateIf b).conclude = (y.recompute.evaluateIf b).rested := by
  have mu : (y.recompute.evaluateIf b).mu = y.mu := (State.evaluateIf_mu _ b).trans y.recompute_mu
  rw [State.conclude_of_not_quits (State.not_quits_of_stays ?_), State.rested_of_other (by rw [mu, out.station]; exact other)]
  unfold State.Stays
  rw [mu, out.station, out.cause]
  exact stays

theorem State.Shuts.rested (shuts : s.Shuts u) : s.Shuts u.rested :=
  shuts.of_parts (congrArg RunUnit.pool (State.rested_rm u)) (State.rested_chan u) (State.rested_flags u)

end Sys2Proof.Machine
end

section
/-!
SUPPORT. A start moment and a readback failure (R117, R119, R84, R121): the records that the first BEAT announces, and the place to
which a frame returns.
-/

namespace Sys2Proof.Machine

variable {s : State}

/-- R84: what the first BEAT in LISTENING says of a channel. -/
def State.listing (s : State) (c : Chan) : Announced :=
  match s.listedHead c with
  | some r => .live ⟨.asking, r.level, r.demand⟩
  | none => (s.chan c).announced.unlisted

theorem State.announceListed_chan (s : State) (c d : Chan) :
    (s.announceListed c).chan d = if c = d then { s.chan d with announced := s.listing d } else s.chan d := by
  unfold State.announceListed
  rw [State.chan_setChan]
  split
  · next same =>
    subst same
    rfl
  · rfl

theorem State.announceListed_fold {cs : List Chan} (nodup : cs.Nodup) (u : State) (c : Chan) :
    (cs.foldl State.announceListed u).chan c = if c ∈ cs then { u.chan c with announced := u.listing c } else u.chan c := by
  induction cs generalizing u with
  | nil => rfl
  | cons d cs ih =>
    obtain ⟨fresh, rest⟩ := List.nodup_cons.1 nodup
    rw [List.foldl_cons, ih rest]
    have one := u.announceListed_chan d c
    by_cases here : d = c
    · subst here
      rw [if_neg fresh, one, if_pos rfl, if_pos List.mem_cons_self]
    · rw [if_neg here] at one
      have listing : (u.announceListed d).listing c = u.listing c := by
        unfold State.listing State.listedHead
        rw [one]
        rfl
      rw [one, listing]
      exact if_congr (by rw [List.mem_cons]; exact ⟨.inr, fun or => or.resolve_left fun same => here same.symm⟩) rfl rfl

/-- R84: the records at the start of the first BEAT in LISTENING. -/
theorem State.announceBeat_chan (listens : s.mu.station = .listening) (c : Chan) :
    (s.announceBeat .beat).chan c = { s.chan c with announced := s.listing c } := by
  unfold State.announceBeat
  rw [if_pos ⟨rfl, listens⟩, State.announceListed_fold (by decide), if_pos (mem_allChans c)]

theorem State.announceBeat_of_other {f : OutFrame} (other : f ≠ .beat ∨ s.mu.station ≠ .listening) : s.announceBeat f = s :=
  if_neg fun both => other.elim (· both.1) (· both.2)

theorem State.listing_of_head {c : Chan} {r : Run} (present : (s.chan c).present = true) (head : s.head c = some r) :
    s.listing c = .live ⟨.asking, r.level, r.demand⟩ := by
  unfold State.listing State.listedHead
  rw [if_pos present, head]

theorem State.listing_of_none {c : Chan} (none' : (s.chan c).present = false ∨ s.head c = none) :
    s.listing c = (s.chan c).announced.unlisted := by
  have listed : s.listedHead c = none := by
    unfold State.listedHead
    rcases none' with absent | empty
    · exact if_neg (Bool.eq_false_iff.1 absent)
    · rw [empty]
      exact ite_self none
  unfold State.listing
  rw [listed]

theorem AccessRound.awaits_iff {a : AccessRound} {m : Moment} :
    a.awaits m = true ↔ a = .fresh ∨ a = .urgentPassed ∧ m = .normal := by
  cases a <;> cases m <;> simp [AccessRound.awaits]

theorem AccessRound.after_eq (m : Moment) : AccessRound.after m = if m = .urgent then .urgentPassed else .normalPassed := by
  cases m <;> rfl

theorem State.startMoment_of_awaits {m : Moment} (awaits : s.bus.access.awaits m = true) (idle : s.bus.tx = none) :
    s.startMoment m = match (s.setBus { s.bus with access := .after m }).startable m with
      | some f => (s.setBus { s.bus with access := .after m }).startFrame f
      | none => s.setBus { s.bus with access := .after m } := by
  unfold State.startMoment
  rw [awaits, idle]
  rfl

/-- R130: with nothing pending but what is not urgent, the urgent moment starts nothing. -/
theorem State.startable_eq_none {m : Moment}
    (nothing : s.bus.outbound = [] ∨ m = .urgent ∧ ∀ g ∈ s.bus.outbound, g.urgent = false) : s.startable m = none := by
  cases start : s.startable m with
  | none => rfl
  | some f =>
    have member := State.mem_of_startable start
    rcases nothing with empty | ⟨rfl, calm⟩
    · rw [empty] at member
      cases member
    · have urgent := (Option.filter_eq_some_iff.1 start).2
      rw [calm f member] at urgent
      cases urgent

theorem restoreOut_of_fresh {place : Nat} {f : OutFrame} {out : List OutFrame} (fresh : ∀ g ∈ out, g.sameKey f = false) :
    restoreOut place f out = out.take place ++ f :: out.drop place := by
  have others : (out.filter fun g => !g.sameKey f) = out :=
    List.filter_eq_self.2 fun g member => by rw [fresh g member]; rfl
  have none' : (out.find? fun g => g.sameKey f) = none :=
    List.find?_eq_none.2 fun g member => by rw [fresh g member]; exact Bool.false_ne_true
  unfold restoreOut
  rw [others, none']
  rfl

theorem restoreOut_of_pending {place : Nat} {f g : OutFrame} {older newer : List OutFrame} (same : g.sameKey f = true)
    (others : ∀ h ∈ older ++ newer, h.sameKey f = false) : restoreOut place f (older ++ g :: newer) =
      (older ++ newer).take place ++ f.combine g :: (older ++ newer).drop place := by
  have before : ∀ h ∈ older, h.sameKey f = false := fun h member => others h (List.mem_append_left _ member)
  have keep : ∀ {l : List OutFrame}, (∀ h ∈ l, h.sameKey f = false) → (l.filter fun h => !h.sameKey f) = l :=
    fun fresh => List.filter_eq_self.2 fun h member => by rw [fresh h member]; rfl
  have rest : ((older ++ g :: newer).filter fun h => !h.sameKey f) = older ++ newer := by
    rw [List.filter_append, List.filter_cons_of_neg (by rw [same]; decide), keep before,
      keep fun h member => others h (List.mem_append_right _ member)]
  have found : ((older ++ g :: newer).find? fun h => h.sameKey f) = some g := by
    rw [List.find?_append, List.find?_eq_none.2 fun h member => by rw [before h member]; exact Bool.false_ne_true,
      List.find?_cons_of_pos (by exact same)]
    rfl
  unfold restoreOut
  rw [rest, found]
  rfl

theorem State.failReadback_of_few {x : Transmission} (sends : s.bus.tx = some x) (few : s.bus.failures < 2) (m : Mismatch) :
    s.failReadback m = s.returnFrame x m := by
  unfold State.failReadback
  rw [sends]
  exact if_neg (show ¬ 3 ≤ s.bus.failures + 1 by omega)

/-- R121, R149: the third failure. -/
theorem State.failReadback_of_third {x : Transmission} (sends : s.bus.tx = some x) (many : 2 ≤ s.bus.failures) (m : Mismatch) :
    s.failReadback m = (((s.returnFrame x m).enterIsolated .readback).recompute.evaluateIf
      (s.isMember s.own)).conclude := by
  unfold State.failReadback
  rw [sends]
  exact if_pos (show 3 ≤ s.bus.failures + 1 by omega)

theorem State.startFrame_parts (s : State) (f : OutFrame) : s.startFrame f = { s with
    bus := (s.startFrame f).bus, chans := (s.announceBeat f).chans, free := s.free + 1 } := by
  have parts := s.announceBeat_parts f
  unfold State.startFrame
  generalize s.announceBeat f = u at parts
  rw [parts]
  rfl

theorem State.startFrame_chan (s : State) (f : OutFrame) (c : Chan) : (s.startFrame f).chan c = (s.announceBeat f).chan c := rfl

end Sys2Proof.Machine
end

section
namespace Sys2Proof
open Sys2Proof.Machine

theorem transmission_starts {s : State} {m : Moment} {f : OutFrame} (released : s.inReset = false)
    (awaits : s.bus.access = .fresh ∨ s.bus.access = .urgentPassed ∧ m = .normal) (idle : s.bus.tx = none)
    (front : s.front = some f) (urgent : m = .urgent → f.urgent = true) :
    exec (.transmissionStart m) s = .next ((s.setBus { s.bus with access := .after m }).startFrame f) := by
  have start : (s.setBus { s.bus with access := .after m }).startable m = some f := by
    refine Option.filter_eq_some_iff.2 ⟨front, ?_⟩
    cases m with
    | normal => rfl
    | urgent => exact urgent rfl
  refine congrArg Host.Outcome.next ?_
  rw [State.whenReleased_of_released _ released, State.startMoment_of_awaits (AccessRound.awaits_iff.2 awaits) idle, start]

/-- Settles O25: a start moment by its round and its front frame, a failure by its count. -/
theorem transmissionStartsAndFails : Obligations.TransmissionStartsAndFails := by
  unfold Obligations.TransmissionStartsAndFails
  intro s m bit f x released
  refine ⟨fun awaits idle front urgent => ⟨_, transmission_starts released awaits idle front urgent, ?_⟩,
    fun awaits idle nothing => ?_, fun passed => ?_, fun sends few => ⟨?_, fun fresh => restoreOut_of_fresh fresh,
      fun older g newer out same others => ?_⟩, fun sends many => ?_⟩
  · generalize entry : s.setBus { s.bus with access := .after m } = u
    have parts := u.startFrame_parts f
    have bus := u.startFrame_bus f
    have chan := u.startFrame_chan f
    have still := fun other => congrArg State.chans (State.announceBeat_of_other (s := u) (f := f) other)
    subst entry
    generalize State.startFrame _ f = t at parts bus chan
    refine ⟨by rw [parts]; rfl, ?_, fun other => ?_, fun isBeat listens c r present head => ?_, fun isBeat listens c none' => ?_,
      by rw [parts]; rfl, by rw [parts]; rfl, by rw [parts]; rfl, by rw [parts]; rfl, by rw [parts]; rfl, by rw [parts]; rfl,
      by rw [parts]; rfl⟩
    · rw [bus, AccessRound.after_eq]
      rfl
    · rw [parts]
      exact still other
    · subst isBeat
      rw [chan, State.announceBeat_chan (by exact listens), State.listing_of_head (by exact present) (by exact head)]
      rfl
    · subst isBeat
      have said := State.listing_of_none (s := s.setBus { s.bus with access := .after m }) (c := c) none'
      have here : t.chan c = { s.chan c with announced := (s.chan c).announced.unlisted } := by
        rw [chan, State.announceBeat_chan (by exact listens), said]
        rfl
      rw [here]
      refine ⟨?_, rfl, fun l gone => ?_⟩
      · cases (s.chan c).announced with
        | live k => exact ⟨_, rfl⟩
        | gone l => exact ⟨_, rfl⟩
      · rw [gone, show Announced.unlisted (.gone l) = .gone l from rfl, ← gone]
  · refine congrArg Host.Outcome.next ?_
    rw [State.whenReleased_of_released _ released, State.startMoment_of_awaits (AccessRound.awaits_iff.2 awaits) idle,
      State.startable_eq_none (s := s.setBus { s.bus with access := .after m }) nothing, AccessRound.after_eq]
    rfl
  · refine congrArg Host.Outcome.next ?_
    rw [State.whenReleased_of_released _ released]
    refine if_neg fun both => ?_
    obtain ⟨awaits, idle⟩ := Bool.and_eq_true_iff.1 both
    have awaits := AccessRound.awaits_iff.1 awaits
    rcases passed with closed | normal | ⟨urgent, rfl⟩ | busy
    · rw [closed] at awaits
      simp at awaits
    · rw [normal] at awaits
      simp at awaits
    · rw [urgent] at awaits
      simp at awaits
    · exact busy (Option.isNone_iff_eq_none.1 idle)
  · refine congrArg Host.Outcome.next ?_
    rw [State.whenReleased_of_released _ released, State.failReadback_of_few sends few]
    cases bit <;> rfl
  · rw [out]
    exact restoreOut_of_pending same others
  · have whole := State.failReadback_of_third sends many bit
    have shape : s.returnFrame x bit = { s with bus := (s.returnFrame x bit).bus } := rfl
    have seq : (s.returnFrame x bit).bus.seq = s.bus.seq ∧ (s.returnFrame x bit).bus.tx = none := ⟨rfl, rfl⟩
    generalize (s.returnFrame x bit).bus = v at shape seq
    rw [shape] at whole
    obtain ⟨out, still, shuts, bus, gone⟩ := ({ s with bus := v } : State).enterIsolated_out .readback
    generalize ({ s with bus := v } : State).enterIsolated .readback = y at *
    have parted := out.parted still (by decide) (by decide) (s.isMember s.own)
    have silent := settle_silent (by rw [out.station]; rfl) still (s.isMember s.own)
    have closes := fun tidy => ((shuts tidy).settle (by rw [out.station]; decide) (s.isMember s.own)).rested
    rw [out.conclude (by decide) (.inr (by decide))] at whole
    refine ⟨_, congrArg Host.Outcome.next ((State.whenReleased_of_released _ released).trans whole), ?_⟩
    generalize (y.recompute.evaluateIf (s.isMember s.own)).rested = t at *
    obtain ⟨station, cause, orphans, isMember, fresh, flags, adoption, event, roster, unit, hu, recomputed, said⟩ := parted
    obtain ⟨busT, announced⟩ := silent
    rw [bus] at busT
    refine ⟨station, cause, (isMember s.own).trans (if_pos rfl), ?_, ?_, ?_, ?_, ?_, adoption, event,
      fun c => (announced c).trans (gone c), fun a apart => (isMember a).trans (if_neg fun same => apart same.symm), orphans,
      roster, fresh, hu, fun runs one => (closes (State.tidy_of_sound runs one)).closedForIsolate, recomputed⟩
    · rw [busT]
      exact seq.2
    · rw [busT]
    · rw [busT]
    · rw [busT]
      exact seq.1
    · rw [busT]

end Sys2Proof
end

section
/-!
SUPPORT. The end of an entry to CLASH.
-/

namespace Sys2Proof.Machine

variable {s : State}

/-- R151: the entry to CLASH with its recomputation, at the end of the event. -/
theorem State.enterClash_conclude (u : State) : u.Parted u.enterClash.conclude .clash u.mu.cause .clash ∧
    u.enterClash.conclude.bus = { u.bus with outbound := [], beatTimer := none } ∧
    (u.Tidy → u.Shuts u.enterClash.conclude) := by
  rw [u.enterClash_eq]
  obtain ⟨out, still, shuts, bus⟩ := u.clashed_out
  generalize u.clashed = y at *
  rw [out.conclude (by decide) (.inl (by decide))]
  exact ⟨out.parted still (by decide) (by decide) _, (settle_silent (by rw [out.station]; rfl) still _).1.trans bus,
    fun tidy => ((shuts tidy).settle (by rw [out.station]; decide) _).rested⟩

/-- What an entry to CLASH leaves, seen from a state that differs in the bus alone. -/
theorem State.Parted.of_bus {t : State} {st : StationState} {cause : IsolationCause} {e : SiteEvent} (v : BusUnit)
    (parted : (s.setBus v).Parted t st cause e) : s.Parted t st cause e := by
  obtain ⟨station, cause, orphans, isMember, fresh, flags, adoption, event, roster, unit, hu, recomputed, said⟩ := parted
  exact ⟨station, cause, orphans, isMember, fresh, flags, adoption, event, roster, unit, hu, recomputed, said⟩

theorem State.Shuts.of_bus {w : State} (v : BusUnit) (shuts : (s.setBus v).Shuts w) : s.Shuts w := by
  obtain ⟨tidy, flags, quiet, closes⟩ := shuts
  exact ⟨tidy, flags, quiet, closes⟩

end Sys2Proof.Machine
end

section
namespace Sys2Proof
open Sys2Proof.Machine

/-- R124: a complete frame from the line goes to the classification. -/
theorem receiveFrame_classified {s : State} {f : Frame} (released : s.inReset = false) (receives : s.canReceive = true)
    (fits : bodyFits f.body = true) (receive : State → State) (same : receive s = s.receiveFrame f) :
    s.whenReleased receive = s.endReception.classify f := by
  rw [State.whenReleased_of_released _ released, same]
  unfold State.receiveFrame
  rw [if_pos receives, if_pos fits]

/-- R125, R151: a frame with the own address, outside CLASH. -/
theorem classify_clash {s : State} {f : Frame} (own : f.sender = s.own) (other : s.mu.station ≠ .clash) :
    s.classify f = (s.setBus { s.bus with lastSender := f.sender }).enterClash.conclude := by
  unfold State.classify
  dsimp only
  rw [if_pos own, if_neg other]

/-- R125: in CLASH only the last sender changes. -/
theorem classify_in_clash {s : State} {f : Frame} (own : f.sender = s.own) (clash : s.mu.station = .clash) :
    s.classify f = s.setBus { s.bus with lastSender := f.sender } := by
  unfold State.classify
  dsimp only
  rw [if_pos own, if_pos clash]

/-- R124: in CONFIG no frame is applied. -/
theorem classify_in_config {s : State} {f : Frame} (other : f.sender ≠ s.own) (config : s.mu.station = .config) :
    s.classify f = s.setBus { s.bus with lastSender := f.sender } := by
  unfold State.classify
  dsimp only
  rw [if_neg other, if_pos config]

/-- R124: a frame of no member that is no BEAT is not applied. -/
theorem classify_unknown {s : State} {f : Frame} (other : f.sender ≠ s.own) (unknown : s.isMember f.sender = false)
    (kind : f.body.isBeat = false) : s.classify f = s.setBus { s.bus with lastSender := f.sender } := by
  unfold State.classify
  dsimp only
  rw [if_neg other]
  split
  · rfl
  · obtain ⟨a, seq, body⟩ := f
    cases body with
    | beat b => cases kind
    | _ => exact if_neg (Bool.eq_false_iff.1 unknown)

theorem bodyFits_of_kind {body : FrameBody} (kind : body.isBeat = false) : bodyFits body = true := by
  cases body with
  | beat b => cases kind
  | _ => rfl

/-- R125, R151: the entry to CLASH by a frame with the own address. -/
theorem clashFrame_enters {s : State} {seq : Seq} {body : FrameBody} (released : s.inReset = false)
    (receives : s.canReceive = true) (fits : bodyFits body = true) (other : s.mu.station ≠ .clash) :
    ∃ t, exec (.clashFrameReceived seq body) s = .next t ∧ s.Parted t .clash s.mu.cause .clash ∧
      t.bus = { s.bus with lastSender := s.own, rxReady := false, access := .closed, outbound := [], beatTimer := none } ∧
      (s.Tidy → s.Shuts t) := by
  have whole := (receiveFrame_classified (f := ⟨s.own, seq, body⟩) released receives fits
    (fun s => s.receiveFrame ⟨s.own, seq, body⟩) rfl).trans (classify_clash (s := s.endReception) rfl other)
  refine ⟨_, congrArg Host.Outcome.next whole, ?_⟩
  obtain ⟨parted, bus, shuts⟩ :=
    State.enterClash_conclude (s.endReception.setBus { s.endReception.bus with lastSender := s.own })
  generalize State.conclude _ = t at *
  exact ⟨parted.of_bus.of_bus, bus, fun tidy => (shuts (tidy_of_rm (s := s) rfl tidy)).of_bus.of_bus⟩

/-- R115, R117: the rows of the line that end no frame. -/
theorem line_events {s : State} {b : Byte} (released : s.inReset = false) :
    (s.bus.tx = none →
      exec .idleDetection s = .next { s with bus := { s.bus with rxReady := true, access := .fresh } }) ∧
    (s.bus.tx = none → s.bus.access ≠ .closed →
      exec .accessRoundExpiry s = .next { s with bus := { s.bus with access := .fresh } }) ∧
    (s.bus.tx ≠ none ∨ s.bus.access = .closed → exec .accessRoundExpiry s = .next s) ∧
    (s.canReceive = true → b ≠ 0xC5 →
      exec (.nonSyncFirstCharacter b) s = .next { s with bus := { s.bus with rxReady := false, access := .closed } }) := by
  have released' := fun f : State → State => congrArg (Host.Outcome.next (φ := Fault) (ρ := Refusal))
    (State.whenReleased_of_released f released)
  refine ⟨fun idle => (released' _).trans ?_, fun idle round => (released' _).trans ?_, fun closed => (released' _).trans ?_,
    fun receives other => (released' _).trans ?_⟩
  · unfold State.detectIdle
    rw [idle]
    rfl
  · unfold State.nextRound
    rw [idle, bne_iff_ne.2 round]
    rfl
  · refine congrArg Host.Outcome.next (if_neg fun both => ?_)
    obtain ⟨idle, open'⟩ := Bool.and_eq_true_iff.1 both
    exact closed.elim (fun busy => busy (Option.isNone_iff_eq_none.1 idle)) fun same => bne_iff_ne.1 open' same
  · unfold State.takeNonSync
    rw [receives, bne_iff_ne.2 (show b ≠ syncChar from other)]
    rfl

/-- R124: the frames that the station does not apply. -/
theorem frames_not_applied {s : State} {a : Addr} {seq : Seq} {body : FrameBody} {beat : BeatBody} (released : s.inReset = false)
    (receives : s.canReceive = true) :
    (a ≠ s.own → (s.isMember a = false ∨ s.mu.station = .config) → body.isBeat = false →
      exec (.frameIgnored a seq body) s = .next { s with bus :=
        { s.bus with lastSender := a, rxReady := false, access := .closed } }) ∧
    (a ≠ s.own → s.mu.station = .config → bodyFits (.beat beat) = true →
      exec (.beatFrame a seq beat) s = .next { s with bus :=
        { s.bus with lastSender := a, rxReady := false, access := .closed } }) ∧
    (bodyFits body = true → s.mu.station = .clash →
      exec (.clashFrameReceived seq body) s = .next { s with bus :=
        { s.bus with lastSender := s.own, rxReady := false, access := .closed } }) := by
  refine ⟨fun apart unknown kind => congrArg Host.Outcome.next ?_, fun apart config fits => congrArg Host.Outcome.next ?_,
    fun fits clash => congrArg Host.Outcome.next ?_⟩
  · refine (receiveFrame_classified (f := ⟨a, seq, body⟩) released receives (bodyFits_of_kind kind)
      (fun s => s.receiveFrame ⟨a, seq, body⟩) rfl).trans ?_
    rcases unknown with unknown | config
    · exact classify_unknown (s := s.endReception) apart unknown kind
    · exact classify_in_config (s := s.endReception) apart config
  · exact (receiveFrame_classified (f := ⟨a, seq, .beat beat⟩) released receives fits
      (fun s => s.receiveFrame ⟨a, seq, .beat beat⟩) rfl).trans (classify_in_config (s := s.endReception) apart config)
  · exact (receiveFrame_classified (f := ⟨s.own, seq, body⟩) released receives fits
      (fun s => s.receiveFrame ⟨s.own, seq, body⟩) rfl).trans (classify_in_clash (s := s.endReception) rfl clash)

/-- Settles O23: the moments of a round, the frames that are not applied, and the entry to CLASH. -/
theorem roundsIgnoredFramesAndClash : Obligations.RoundsIgnoredFramesAndClash := by
  unfold Obligations.RoundsIgnoredFramesAndClash
  intro s a seq body beat b released
  obtain ⟨idle, round, closed, other⟩ := line_events (b := b) released
  have ignored := fun receives => frames_not_applied (a := a) (seq := seq) (body := body) (beat := beat) released receives
  refine ⟨?_, idle, round, closed, other, fun receives => (ignored receives).1, fun receives => (ignored receives).2.1,
    fun receives => (ignored receives).2.2, fun receives fits other => ?_⟩
  · unfold State.canReceive
    rw [Bool.and_eq_true, Option.isNone_iff_eq_none]
  · obtain ⟨t, runs, parted, bus, shuts⟩ := clashFrame_enters (seq := seq) released receives fits other
    obtain ⟨station, cause, orphans, isMember, fresh, flags, adoption, event, roster, unit, hu, recomputed, said⟩ := parted
    exact ⟨t, runs, station, event, (isMember s.own).trans (if_pos rfl), by rw [bus], by rw [bus], by rw [bus], by rw [bus],
      adoption, fun a apart => (isMember a).trans (if_neg fun same => apart same.symm), flags, orphans, roster, fresh, hu,
      fun runs one => (shuts (State.tidy_of_sound runs one)).closedForIsolate, recomputed⟩

end Sys2Proof
end

section
/-!
SUPPORT. A station that is dropped itself (R136, R139, R149, R150): ISOLATED with its heads closing, or LISTENING again at once where its
valves are at rest.
-/

namespace Sys2Proof.Machine

variable {s h y : State}

/-! ### An entry to LISTENING -/

theorem State.emptied_rm (s : State) (n : Nat) : (s.emptied n).rm = s.rm := by
  have rm : s.emptyCopy.rm = s.rm := rm_of_plant s.emptyCopy_plant
  unfold State.emptied State.setAdoption State.announceGone
  dsimp only
  rw [State.setMu_rm, State.setHu_rm, State.setBus_rm, State.setCt_rm, State.setChans_rm, rm]

/-- R21: an entry to LISTENING leaves a valve at rest. -/
theorem State.relisten_fixed (s : State) (k : IsolationCause) (n : Nat) (c : Chan) : Fixed c s (s.relisten k n) := by
  have station : ((s.tuned k).emptied n).mu.station = .listening := by rw [State.emptied_mu]; rfl
  have chan : (((s.tuned k).emptied n).chan c).mute = (s.chan c).mute := by
    rw [State.emptied_chan]
    rfl
  rw [State.relisten_eq]
  generalize (s.tuned k).emptied n = v at *
  intro fixed
  exact (Fixed.settle (c := c) (by rw [station]; decide) _ (Channel.fixed_of_mute chan fixed)).trans chan

theorem State.relisten_bare (s : State) (k : IsolationCause) (n : Nat) (c : Chan) :
    ((s.relisten k n).chan c).bare = (s.chan c).bare := by
  have same := chan_of_bare (s.relisten_chain k n).bare c
  rw [State.chan_written, State.emptied_chan] at same
  exact same

theorem Channel.present_of_bare {a b : Channel} (same : a.bare = b.bare) : a.present = b.present := by
  have e := congrArg Channel.settings same
  exact congrArg Option.isSome e

theorem State.Shuts.relisten (shuts : s.Shuts y) (k : IsolationCause) (n : Nat) : s.Shuts (y.relisten k n) := by
  have station : ((y.tuned k).emptied n).mu.station = .listening := by rw [State.emptied_mu]; rfl
  have emptied : s.Shuts ((y.tuned k).emptied n) := by
    refine shuts.of_parts (congrArg RunUnit.pool (State.emptied_rm _ n)) (fun c => ?_) ?_
    · rw [State.emptied_chan]
      rfl
    · rw [State.emptied_ct]
      rfl
  rw [State.relisten_eq]
  exact emptied.settle (by rw [station]; decide) _

/-- R150: where the station listens again, no valve of a present channel is left moving. -/
theorem State.relisten_rests (s : State) (k : IsolationCause) (settled : s.settled = true) (c : Chan)
    (present : ((s.relisten k 0).chan c).present = true) :
    ((s.relisten k 0).chan c).valve = .closed ∨ ((s.relisten k 0).chan c).valve = .stuck := by
  rw [Channel.present_of_bare (s.relisten_bare k 0 c)] at present
  have rests := State.settled_iff.1 settled c present
  have fixed : (s.chan c).fixed := rests.elim Channel.fixed_of_closed Channel.fixed_of_stuck
  have same := valve_of_mute (s.relisten_fixed k 0 c fixed)
  rw [same]
  exact rests

/-! ### Self-drop -/

/-- What a self-drop leaves where a valve is left moving. -/
theorem selfDropped_of_moving {t : State} (parted : s.Parted t .isolated .selfDrop .isolated)
    (moves : t.settled = false) (bus : t.bus = { s.bus with
      outbound := [], failures := 0, beatTimer := none, tx := t.bus.tx, seq := t.bus.seq, lastSender := t.bus.lastSender
      rxReady := t.bus.rxReady, access := t.bus.access })
    (gone : ∀ c, (t.chan c).announced = .gone none) (shuts : s.Tidy → s.Shuts t) : s.SelfDropped t := by
  obtain ⟨station, cause, orphans, isMember, fresh, flags, adoption, event, roster, unit, hu, recomputed, said⟩ := parted
  have off : t.mu.station ≠ .listening := by rw [station]; decide
  refine ⟨.inl ⟨station, cause⟩, ⟨fun same => absurd same off, fun rests => ?_⟩, (isMember s.own).trans (if_pos rfl),
    by rw [bus], by rw [bus], by rw [bus], event, roster, gone,
    fun runs one => (shuts (State.tidy_of_sound runs one)).closedForIsolate, fun _ => ⟨hu, orphans, adoption, recomputed,
      fun b apart => ⟨(isMember b).trans (if_neg fun same => apart same.symm), said b apart⟩⟩, fun same => absurd same off⟩
  rw [State.settled_iff.2 rests] at moves
  cases moves

theorem HaltUnit.ownLeft_kept {hu : HaltUnit} {own : Addr} {member : Bool} (other : hu.halt ≠ .settling) :
    (hu.ownLeft own member).halt = hu.halt ∧ (hu.ownLeft own member).reasons = hu.reasons := by
  have still : ∀ g : HaltUnit, g.halt = hu.halt → g.reasons = hu.reasons →
      (g.unsettling own).halt = hu.halt ∧ (g.unsettling own).reasons = hu.reasons := by
    intro g halt reasons
    have shape := HaltUnit.calmed_of_other { g with settle := removeAddr g.settle own } (.inl (by rw [halt]; exact other))
    unfold HaltUnit.unsettling
    rw [shape]
    exact ⟨halt, reasons⟩
  unfold HaltUnit.ownLeft
  split
  · obtain ⟨-, halt, reasons, -⟩ := hu.removing_settle own
    exact still _ halt reasons
  · split
    · exact still _ rfl rfl
    · exact ⟨rfl, rfl⟩

/-- What a self-drop leaves where no valve is left moving. -/
theorem selfDropped_of_settled (parted : s.Parted y .isolated .selfDrop .isolated) (settled : y.settled = true)
    (shuts : s.Tidy → s.Shuts y) : s.SelfDropped (y.relisten .none 0) := by
  have mu := y.relisten_mu .none 0
  have ct := y.relisten_ct .none 0
  have hu := y.relisten_hu .none 0
  have bus := y.relisten_bus .none 0
  have alloc := y.relisten_alloc .none 0
  have gone := y.relisten_announced .none 0
  have events := y.hasEvent_relisten .none 0
  have closes := fun tidy => (shuts tidy).relisten .none 0
  have rests := y.relisten_rests .none settled
  generalize y.relisten .none 0 = t at *
  obtain ⟨-, -, -, -, -, -, -, event, roster, unit, -, -, -⟩ := parted
  have station : t.mu.station = .listening := by rw [mu]
  have none' : ∀ b, t.member b = none := fun b => by
    unfold State.member
    rw [mu]
    exact Vector.getElem_replicate ..
  refine ⟨.inr station, ⟨fun _ => rests, fun _ => station⟩, ?_, by rw [bus], by rw [bus], by rw [bus], ?_, fun own => ?_, gone,
    fun runs one => (closes (State.tidy_of_sound runs one)).closedForIsolate, fun same => ?_, fun _ =>
      ⟨by rw [mu], by rw [mu], by rw [mu], none', fun b c => ?_, alloc, by rw [ct], by rw [bus], by rw [hu]; rfl, by rw [hu]; rfl,
        fun b => ?_, by rw [hu]; rfl, by rw [hu]; rfl, by rw [hu], by rw [hu], fun other => ?_⟩⟩
  · unfold State.isMember
    rw [none']
    rfl
  · rw [events, event]
    rfl
  · rw [events, roster own]
    rfl
  · rw [station] at same
    cases same
  · rw [ct]
    exact slot_empty b c
  · rw [hu]
    exact Vector.getElem_replicate ..
  · obtain ⟨halt, reasons⟩ := HaltUnit.ownLeft_kept (own := s.own) (member := s.isMember s.own) other
    rw [hu, unit]
    exact ⟨halt, reasons⟩

theorem State.Heard.head {f : Frame} (heard : s.Heard h f) (c : Chan) : h.head c = s.head c := by
  unfold State.head
  rw [heard.rm]

theorem State.Heard.shuts {f : Frame} {w : State} (heard : s.Heard h f) (shuts : h.Shuts w) : s.Shuts w := by
  refine ⟨shuts.tidy, shuts.flags.trans (by rw [heard.ct]), shuts.quiet, fun c r head flows drives slow => ?_⟩
  have chan := heard.chan c
  have closes := shuts.closes c r (by rw [heard.head]; exact head) flows (by rw [chan]; exact drives) (by rw [chan]; exact slow)
  rw [chan, stopSet_of_flags (s := s) (by rw [heard.ct])] at closes
  exact closes

/-- R136, R149, R150: a DROP or PURGE of the own address, through to the end of the frame. -/
theorem State.Heard.selfDropped {f : Frame} (heard : s.Heard h f) (b : Bool) :
    s.SelfDropped ((h.enterIsolated .selfDrop).recompute.evaluateIf b).staleTest.conclude := by
  obtain ⟨out, still, shuts, bus, gone⟩ := h.enterIsolated_out .selfDrop
  generalize h.enterIsolated .selfDrop = x at *
  have parted := (heard.out out).parted still (by decide) (by decide) b
  obtain ⟨busT, announced⟩ := settle_silent (by rw [out.station]; rfl) still b
  have closes := fun tidy => ((shuts tidy).settle (by rw [out.station]; decide) b).rested
  have mu : (x.recompute.evaluateIf b).mu = x.mu := (State.evaluateIf_mu _ b).trans x.recompute_mu
  have off : (x.recompute.evaluateIf b).mu.station ≠ .resync := by rw [mu, out.station]; decide
  have final : (x.recompute.evaluateIf b).staleTest.conclude = (x.recompute.evaluateIf b).rested.relistenTest := by
    rw [State.staleTest_of_other off, State.conclude_eq_closing, State.rested_of_other off]
  rw [final]
  generalize (x.recompute.evaluateIf b).rested = y at *
  have closes' : s.Tidy → s.Shuts y := fun tidy =>
    heard.shuts (closes (tidy_of_rm (congrArg RunUnit.pool heard.rm) tidy))
  by_cases settled : y.settled = true
  · rw [State.relistenTest_of_settled parted.station parted.cause settled]
    exact selfDropped_of_settled parted settled closes'
  · rw [State.relistenTest_of_other fun all => settled all.2.2]
    refine selfDropped_of_moving parted (Bool.eq_false_iff.2 settled) ?_ (fun c => (announced c).trans (gone c)) closes'
    rw [busT, bus]

end Sys2Proof.Machine
end

section
/-!
SUPPORT. DROP, PURGE and LEAVE frames by their target (R136, R139, R148).
-/

namespace Sys2Proof.Machine

variable {s h : State} {f : Frame}

/-- A frame that leaves the site as it was, but for what it says of its sender. -/
structure State.Kept (s t : State) : Prop where
  station : s.mu.station.active = false → t.mu.station = s.mu.station
  cause : t.mu.cause = s.mu.cause
  orphans : t.mu.orphans = s.mu.orphans
  isolated : t.hasEvent .isolated = s.hasEvent .isolated
  isMember : ∀ b : Addr, t.isMember b = s.isMember b
  said : ∀ (b : Addr) (c : Chan), t.says b c = s.says b c
  reallocated : s.Reallocated t s.ct.table

theorem State.Heard.kept (heard : s.Heard h f) (b : Bool) : s.Kept (h.recompute.evaluateIf b).rested := by
  refine ⟨fun idle => ?_, (settle_cause h b).trans heard.cause, (settle_orphans h b).trans heard.orphans, ?_,
    fun a => (settle_isMember h b a).trans (heard.isMember a), fun a c => (settle_says h b a c).trans ?_, ?_⟩
  · rcases settle_station h b with same | ⟨resync, -⟩
    · exact same.trans heard.station
    · rw [← heard.station, resync] at idle
      cases idle
  · rw [settle_hasEvent h b (by decide), hasEvent_of_events heard.events]
  · rw [heard.ct]
    rfl
  · rw [← heard.ct]
    exact heard.reallocated_of_plain (u := h) rfl rfl rfl rfl

theorem State.applyDrop_of_none {target : Byte} (out : toAddr target = none) : s.applyDrop target = s := by
  unfold State.applyDrop
  rw [out]

theorem State.applyDrop_of_some {target : Byte} {d : Addr} (named : toAddr target = some d) :
    s.applyDrop target = if d = s.own then s.selfDrop else if s.isMember d then s.dropMember d else s := by
  unfold State.applyDrop
  rw [named]

theorem State.applyPurge_of_none {target : Byte} (out : toAddr target = none) : s.applyPurge target = s := by
  unfold State.applyPurge
  rw [out]

theorem State.applyPurge_of_some {target : Byte} {d : Addr} (named : toAddr target = some d) :
    s.applyPurge target = if d = s.own then s.selfDrop else if s.hasOrphan d then s.dropOrphan d else s.removeMember d := by
  unfold State.applyPurge
  rw [named]

theorem State.selfDrop_of_active (active : s.mu.station.active = true) : s.selfDrop = s.enterIsolated .selfDrop := if_pos active
theorem State.selfDrop_of_idle (idle : s.mu.station.active = false) : s.selfDrop = s :=
  if_neg (Bool.eq_false_iff.1 idle)

theorem toAddr_of_big {target : Byte} (big : 16 ≤ target.toNat) : toAddr target = none := by
  cases named : toAddr target with
  | none => rfl
  | some d =>
    have same := (toAddr_eq_some (b := target) (a := d)).1 named
    have small := d.isLt
    omega

section
variable {t : State} {target : Byte}

theorem dropApplied_of_kept (kept : s.Kept t) (idle : toAddr target = some s.own → s.mu.station.active = false)
    (unknown : ∀ d, toAddr target = some d → d ≠ s.own → s.isMember d = false) : s.DropApplied t target :=
  ⟨fun d named apart member => absurd (unknown d named apart) (Bool.eq_false_iff.not.2 (not_not.2 member)),
    fun named active => absurd (idle named) (Bool.eq_false_iff.not.2 (not_not.2 active)),
    fun _ off => ⟨kept.station off, kept.cause, kept.orphans, kept.isolated, fun b => ⟨kept.isMember b, kept.said b⟩⟩,
    fun _ _ _ _ => ⟨kept.orphans, fun b => ⟨kept.isMember b, kept.said b⟩⟩,
    fun _ => ⟨kept.orphans, fun b => ⟨kept.isMember b, kept.said b⟩⟩, fun _ _ => kept.reallocated⟩

theorem dropApplied_of_self (named : toAddr target = some s.own) (active : s.mu.station.active = true)
    (dropped : s.SelfDropped t) : s.DropApplied t target := by
  have own : ∀ d, toAddr target = some d → d = s.own := fun d other => Option.some.inj (other.symm.trans named)
  refine ⟨fun d other apart => absurd (own d other) apart, fun _ _ => dropped, fun _ idle => ?_,
    fun d other apart => absurd (own d other) apart, fun big => ?_, fun idle => ?_⟩
  · rw [active] at idle
    cases idle
  · rw [toAddr_of_big big] at named
    cases named
  · have idle := idle named
    rw [active] at idle
    cases idle

theorem dropApplied_of_removed {d : Addr} (named : toAddr target = some d) (apart : d ≠ s.own) (member : s.isMember d = true)
    (removed : s.Removed t d)
    (orphans : t.mu.orphans = if s.ownerLoad d = 0 then s.mu.orphans else s.mu.orphans ++ [⟨d, s.ownerLoad d⟩])
    (freezes : s.mu.orphans = [] → t.mu.orphans ≠ [] → t.hasEvent .freezeChanged = true) : s.DropApplied t target := by
  have this' : ∀ e, toAddr target = some e → e = d := fun e other => Option.some.inj (other.symm.trans named)
  have other : toAddr target ≠ some s.own := fun own => apart (this' _ own).symm
  refine ⟨fun e again _ _ => ?_, fun own => absurd own other, fun own => absurd own other, fun e again _ unknown => ?_,
    fun big => ?_, fun _ unknown => ?_⟩
  · obtain rfl := this' e again
    exact ⟨removed.member, removed.slots, removed.roster, s.ownerLoad_eq e, orphans, freezes, removed.told, removed.reallocated,
      removed.others⟩
  · rw [this' e again, member] at unknown
    cases unknown
  · rw [toAddr_of_big big] at named
    cases named
  · have unknown := unknown d named apart
    rw [member] at unknown
    cases unknown

theorem purgeApplied_of_kept (kept : s.Kept t) (idle : toAddr target = some s.own → s.mu.station.active = false)
    (unknown : ∀ d, toAddr target = some d → d ≠ s.own → s.hasOrphan d = false ∧ s.isMember d = false) :
    s.PurgeApplied t target := by
  refine ⟨fun d named apart orphan => ?_, fun d named apart _ => ⟨kept.orphans, ?_, fun member => ?_,
      fun b _ => ⟨kept.isMember b, kept.said b⟩⟩,
    fun named active => absurd (idle named) (Bool.eq_false_iff.not.2 (not_not.2 active)),
    fun _ off => ⟨kept.station off, kept.cause, kept.orphans, kept.isolated, fun b => ⟨kept.isMember b, kept.said b⟩⟩,
    fun _ => ⟨kept.orphans, kept.isMember⟩, fun _ _ => kept.reallocated⟩
  · rw [(unknown d named apart).1] at orphan
    cases orphan
  · exact State.member_eq_none ((kept.isMember d).trans (unknown d named apart).2)
  · rw [(unknown d named apart).2] at member
    cases member

theorem purgeApplied_of_self (named : toAddr target = some s.own) (active : s.mu.station.active = true)
    (dropped : s.SelfDropped t) : s.PurgeApplied t target := by
  have own : ∀ d, toAddr target = some d → d = s.own := fun d other => Option.some.inj (other.symm.trans named)
  refine ⟨fun d other apart => absurd (own d other) apart, fun d other apart => absurd (own d other) apart,
    fun _ _ => dropped, fun _ idle => ?_, fun big => ?_, fun idle => ?_⟩
  · rw [active] at idle
    cases idle
  · rw [toAddr_of_big big] at named
    cases named
  · have idle := idle named
    rw [active] at idle
    cases idle

theorem purgeApplied_of_removed {d : Addr} (named : toAddr target = some d) (apart : d ≠ s.own) (member : s.isMember d = true)
    (orphan : s.hasOrphan d = false) (removed : s.Removed t d) (orphans : t.mu.orphans = s.mu.orphans) :
    s.PurgeApplied t target := by
  have this' : ∀ e, toAddr target = some e → e = d := fun e other => Option.some.inj (other.symm.trans named)
  have other : toAddr target ≠ some s.own := fun own => apart (this' _ own).symm
  refine ⟨fun e again _ held => ?_, fun e again _ _ => ?_, fun own => absurd own other, fun own => absurd own other,
    fun big => ?_, fun _ unknown => ?_⟩
  · rw [this' e again, orphan] at held
    cases held
  · obtain rfl := this' e again
    exact ⟨orphans, removed.member, fun _ => ⟨removed.slots, removed.roster, removed.told, removed.reallocated⟩, removed.others⟩
  · rw [toAddr_of_big big] at named
    cases named
  · rcases unknown d named apart with held | unknown
    · rw [orphan] at held
      cases held
    · rw [member] at unknown
      cases unknown

theorem purgeApplied_of_orphan {d : Addr} (named : toAddr target = some d) (apart : d ≠ s.own) (orphan : s.hasOrphan d = true)
    (orphans : t.mu.orphans = s.mu.orphans.filter fun o => o.station != d)
    (freezes : t.mu.orphans = [] → t.hasEvent .freezeChanged = true) (isMember : ∀ b : Addr, t.isMember b = s.isMember b)
    (said : ∀ (b : Addr) (c : Chan), t.says b c = s.says b c) (reallocated : s.Reallocated t s.ct.table) :
    s.PurgeApplied t target := by
  have this' : ∀ e, toAddr target = some e → e = d := fun e other => Option.some.inj (other.symm.trans named)
  have other : toAddr target ≠ some s.own := fun own => apart (this' _ own).symm
  refine ⟨fun e again _ _ => ?_, fun e again _ none' => ?_, fun own => absurd own other, fun own => absurd own other,
    fun big => ?_, fun _ _ => reallocated⟩
  · obtain rfl := this' e again
    exact ⟨orphans, freezes, fun b => ⟨isMember b, said b⟩⟩
  · rw [this' e again, orphan] at none'
    cases none'
  · rw [toAddr_of_big big] at named
    cases named

end

/-- The end of a frame whose body leaves the station where it is. -/
theorem State.conclude_settled {u : State} (stays : u.StaysOnFrame) (b : Bool) :
    (u.recompute.evaluateIf b).staleTest.conclude = (u.recompute.evaluateIf b).rested :=
  State.conclude_staleTest _ (State.staysOnFrame_settle u b stays)

/-- R136: an applied DROP by its target. -/
theorem State.Heard.dropApplied {target : Byte} (heard : s.Heard h f) (body : f.body = .drop target) (stays : h.StaysOnFrame) :
    s.DropApplied ((h.answered f).staleTest.conclude) target := by
  obtain ⟨a, seq, b⟩ := f
  dsimp only at body
  subst body
  obtain ⟨due, answered⟩ : ∃ due, h.answered ⟨a, seq, .drop target⟩ = (h.applyDrop target).recompute.evaluateIf due := ⟨_, rfl⟩
  rw [answered]
  have own := heard.own
  have kept : h.applyDrop target = h → s.Kept ((h.applyDrop target).recompute.evaluateIf due).staleTest.conclude := by
    intro same
    rw [same, State.conclude_settled stays]
    exact heard.kept due
  cases named : toAddr target with
  | none => exact dropApplied_of_kept (kept (State.applyDrop_of_none named)) (by rw [named]; nofun) (by rw [named]; nofun)
  | some d =>
    have shape := State.applyDrop_of_some (s := h) named
    by_cases here : d = s.own
    · rw [if_pos (here.trans own.symm)] at shape
      subst here
      by_cases active : s.mu.station.active = true
      · rw [shape, State.selfDrop_of_active (by rw [heard.station]; exact active)]
        exact dropApplied_of_self named active (heard.selfDropped due)
      · refine dropApplied_of_kept (kept (shape.trans (State.selfDrop_of_idle ?_))) (fun _ => Bool.eq_false_iff.2 active)
          fun e again apart => absurd (Option.some.inj (again.symm.trans named)) apart
        rw [heard.station]
        exact Bool.eq_false_iff.2 active
    · rw [if_neg fun same => here (same.trans own)] at shape
      by_cases member : s.isMember d = true
      · have known : h.isMember d = true := (heard.isMember d).trans member
        rw [if_pos known] at shape
        have left := State.dropMember_left known
        have orphans := h.dropMember_orphans d
        have freezes := h.dropMember_freezes d
        have load : h.ownerLoad d = s.ownerLoad d := by
          unfold State.ownerLoad
          rw [heard.ct]
        rw [load, heard.orphans] at orphans
        rw [heard.orphans] at freezes
        rw [shape]
        generalize h.dropMember d = u at *
        rw [State.conclude_settled (left.staysOnFrame stays)]
        refine dropApplied_of_removed named here member ((heard.left left).removed due) ?_ fun empty frozen => ?_
        · rw [settle_orphans, orphans]
        · rw [settle_orphans] at frozen
          rw [settle_hasEvent u due (by decide)]
          exact freezes empty frozen
      · rw [if_neg fun known => member ((heard.isMember d).symm.trans known)] at shape
        refine dropApplied_of_kept (kept shape) (fun same => absurd (Option.some.inj (named.symm.trans same)) here) fun e again _ => ?_
        rw [Option.some.inj (again.symm.trans named)]
        exact Bool.eq_false_iff.2 member

theorem State.dropOrphan_parts {d : Addr} (held : s.hasOrphan d = true) :
    (s.dropOrphan d).mu = { s.mu with orphans := s.mu.orphans.filter fun o => o.station != d } ∧ (s.dropOrphan d).ct = s.ct ∧
    (s.dropOrphan d).rm = s.rm ∧ (s.dropOrphan d).chans = s.chans ∧ (s.dropOrphan d).straps = s.straps ∧
    ((s.dropOrphan d).mu.orphans = [] → (s.dropOrphan d).hasEvent .freezeChanged = true) := by
  unfold State.dropOrphan
  rw [if_pos held]
  have calm := s.setOrphans_calm_of (s.mu.orphans.filter fun o => o.station != d)
  have mu := s.setOrphans_mu (s.mu.orphans.filter fun o => o.station != d)
  refine ⟨mu, (ct_of_calm calm).trans rfl, (rm_of_calm calm).trans rfl, (chans_of_calm calm).trans rfl,
    (straps_of_calm calm).trans rfl, fun empty => s.setOrphans_freezes _ ?_⟩
  rw [mu] at empty
  rw [show s.mu.orphans.filter (fun o => o.station != d) = [] from empty]
  unfold State.hasOrphan at held
  cases orphans : s.mu.orphans with
  | nil =>
    rw [orphans] at held
    cases held
  | cons o os => exact Bool.noConfusion

/-- R139: an applied PURGE by its target. -/
theorem State.Heard.purgeApplied {target : Byte} (heard : s.Heard h f) (body : f.body = .purge target) (stays : h.StaysOnFrame) :
    s.PurgeApplied ((h.answered f).staleTest.conclude) target := by
  obtain ⟨a, seq, b⟩ := f
  dsimp only at body
  subst body
  obtain ⟨due, answered⟩ : ∃ due, h.answered ⟨a, seq, .purge target⟩ = (h.applyPurge target).recompute.evaluateIf due := ⟨_, rfl⟩
  rw [answered]
  have own := heard.own
  have hasOrphan : ∀ d, h.hasOrphan d = s.hasOrphan d := fun d => by
    unfold State.hasOrphan
    rw [heard.orphans]
  have kept : h.applyPurge target = h → s.Kept ((h.applyPurge target).recompute.evaluateIf due).staleTest.conclude := by
    intro same
    rw [same, State.conclude_settled stays]
    exact heard.kept due
  cases named : toAddr target with
  | none => exact purgeApplied_of_kept (kept (State.applyPurge_of_none named)) (by rw [named]; nofun) (by rw [named]; nofun)
  | some d =>
    have shape := State.applyPurge_of_some (s := h) named
    by_cases here : d = s.own
    · rw [if_pos (here.trans own.symm)] at shape
      subst here
      by_cases active : s.mu.station.active = true
      · rw [shape, State.selfDrop_of_active (by rw [heard.station]; exact active)]
        exact purgeApplied_of_self named active (heard.selfDropped due)
      · refine purgeApplied_of_kept (kept (shape.trans (State.selfDrop_of_idle ?_))) (fun _ => Bool.eq_false_iff.2 active)
          fun e again apart => absurd (Option.some.inj (again.symm.trans named)) apart
        rw [heard.station]
        exact Bool.eq_false_iff.2 active
    · rw [if_neg fun same => here (same.trans own)] at shape
      by_cases orphan : s.hasOrphan d = true
      · rw [if_pos ((hasOrphan d).trans orphan)] at shape
        rw [shape]
        obtain ⟨mu, ct, rm, chans, straps, freezes⟩ := State.dropOrphan_parts ((hasOrphan d).trans orphan)
        generalize h.dropOrphan d = u at *
        rw [State.conclude_settled (State.staysOnFrame_of_parts (by rw [mu]) (by rw [mu]) chans stays)]
        have again := heard.reallocated_of_plain (u := u) (b := due) rm chans (by rw [mu]) straps
        rw [ct, heard.ct] at again
        have orphans : u.mu.orphans = s.mu.orphans.filter fun o => o.station != d := by
          rw [mu, ← heard.orphans]
        refine purgeApplied_of_orphan named here orphan ((settle_orphans u due).trans orphans) (fun empty => ?_) (fun b => ?_)
          (fun b c => (settle_says u due b c).trans ?_) again
        · rw [settle_orphans] at empty
          rw [settle_hasEvent u due (by decide)]
          exact freezes empty
        · rw [settle_isMember, ← heard.isMember]
          unfold State.isMember State.member
          rw [mu]
        · rw [ct, heard.ct]
          rfl
      · rw [if_neg fun held => orphan ((hasOrphan d).symm.trans held)] at shape
        by_cases member : s.isMember d = true
        · have left := State.removeMember_left (s := h) ((heard.isMember d).trans member)
          have orphans := (h.removeMember_orphans d).trans heard.orphans
          rw [shape]
          generalize h.removeMember d = u at *
          rw [State.conclude_settled (left.staysOnFrame stays)]
          exact purgeApplied_of_removed named here member (Bool.eq_false_iff.2 orphan) ((heard.left left).removed due)
            ((settle_orphans u due).trans orphans)
        · have unknown : h.isMember d = false := (heard.isMember d).trans (Bool.eq_false_iff.2 member)
          refine purgeApplied_of_kept (kept (shape.trans (h.removeMember_of_not_member unknown)))
            (fun same => absurd (Option.some.inj (named.symm.trans same)) here) fun e again _ => ?_
          rw [Option.some.inj (again.symm.trans named)]
          exact ⟨Bool.eq_false_iff.2 orphan, Bool.eq_false_iff.2 member⟩

/-- R148: an applied LEAVE of another station. -/
theorem State.Heard.leaveApplied (heard : s.Heard h f) (body : f.body = .leave) (apart : f.sender ≠ s.own)
    (member : s.isMember f.sender = true) (stays : h.StaysOnFrame) :
    s.Removed ((h.answered f).staleTest.conclude) f.sender ∧ ((h.answered f).staleTest.conclude).mu.orphans = s.mu.orphans := by
  obtain ⟨a, seq, b⟩ := f
  dsimp only at body apart member ⊢
  subst body
  obtain ⟨due, answered⟩ : ∃ due, h.answered ⟨a, seq, .leave⟩ = (h.applyLeave a).recompute.evaluateIf due := ⟨_, rfl⟩
  have shape : h.applyLeave a = h.removeMember a := if_neg fun same => apart (same.trans heard.own)
  rw [answered, shape]
  have left := State.removeMember_left (s := h) ((heard.isMember a).trans member)
  have orphans := (h.removeMember_orphans a).trans heard.orphans
  generalize h.removeMember a = u at *
  rw [State.conclude_settled (left.staysOnFrame stays)]
  exact ⟨(heard.left left).removed due, (settle_orphans u due).trans orphans⟩

/-- R124, R126: a frame of a member without a gap, whatever it does to the station. -/
theorem State.takeFrame_heard {a : Addr} {seq : Seq} {body : FrameBody} (hears : s.Hears a seq) (fits : bodyFits body = true) :
    ∃ h, s.Heard h ⟨a, seq, body⟩ ∧ h.StaysOnFrame ∧
      s.takeFrame a seq body = (h.answered ⟨a, seq, body⟩).staleTest.conclude := by
  have next := State.next_of_hears hears body
  obtain ⟨released, receives, other, hosted, still, -⟩ := hears
  have heard := s.hearing_heard ⟨a, seq, body⟩
  exact ⟨_, heard, State.staysOnFrame_of_parts heard.station heard.cause heard.chans still,
    State.takeFrame_of_next released receives other hosted fits next⟩

end Sys2Proof.Machine
end

section
namespace Sys2Proof
open Sys2Proof.Machine

/-- Settles O33: an applied DROP by its target, the station itself or another. -/
theorem dropFrameApplied : Obligations.DropFrameApplied := by
  unfold Obligations.DropFrameApplied
  intro s a seq target
  refine ⟨fun d => toAddr_eq_some, fun m b d => ⟨rfl, inSet_removeAddr m d b, inSet_insertAddr m d b⟩, fun b => inSet_rosterSet s b,
    fun hears => ?_⟩
  obtain ⟨h, heard, stays, whole⟩ := State.takeFrame_heard (body := .drop target) hears rfl
  exact ⟨_, congrArg Host.Outcome.next whole, heard.dropApplied rfl stays⟩

/-- Settles O34: an applied PURGE by its target, and an applied LEAVE of its sender. -/
theorem purgeAndLeaveFramesApplied : Obligations.PurgeAndLeaveFramesApplied := by
  unfold Obligations.PurgeAndLeaveFramesApplied
  intro s a seq target hears
  refine ⟨?_, ?_⟩
  · obtain ⟨h, heard, stays, whole⟩ := State.takeFrame_heard (body := .purge target) hears rfl
    exact ⟨_, congrArg Host.Outcome.next whole, heard.purgeApplied rfl stays⟩
  · obtain ⟨h, heard, stays, whole⟩ := State.takeFrame_heard (body := .leave) hears rfl
    obtain ⟨removed, orphans⟩ := heard.leaveApplied rfl hears.2.2.1 (State.isMember_of_hears hears) stays
    exact ⟨_, congrArg Host.Outcome.next whole, removed.member, removed.slots, removed.roster, orphans, removed.told,
      removed.reallocated, removed.others⟩

end Sys2Proof
end

section
/-!
SUPPORT. The stages of a BEAT (R7): the sender's record (stages 1 and 2), the view part (stage 3), the entry list (stage 4) and the view
of the capacities (stage 5), each with what it leaves.
-/

namespace Sys2Proof.Machine

variable {s t h u : State}

/-! ### Events -/

/-- From `s` to `t` no event bit is cleared, and neither VIEW_MERGED nor CAPACITY_MISMATCH is set. -/
structure State.Heralds (s t : State) : Prop where
  keeps : ∀ e, s.hasEvent e = true → t.hasEvent e = true
  view : t.hasEvent .viewMerged = s.hasEvent .viewMerged
  capacity : t.hasEvent .capacityMismatch = s.hasEvent .capacityMismatch

namespace State.Heralds

theorem refl (s : State) : s.Heralds s := ⟨fun _ => id, rfl, rfl⟩

theorem trans (h : s.Heralds u) (k : u.Heralds t) : s.Heralds t :=
  ⟨fun e had => k.keeps e (h.keeps e had), k.view.trans h.view, k.capacity.trans h.capacity⟩

theorem of_events (events : t.events = s.events) : s.Heralds t :=
  ⟨fun e had => (hasEvent_of_events events e).trans had, hasEvent_of_events events _, hasEvent_of_events events _⟩

theorem raise (s : State) {e : SiteEvent} (view : e ≠ .viewMerged) (capacity : e ≠ .capacityMismatch) : s.Heralds (s.raise e) :=
  ⟨fun f had => by rw [State.hasEvent_raise, had]; rfl, State.hasEvent_raise_ne _ view.symm, State.hasEvent_raise_ne _ capacity.symm⟩

theorem raiseIf (s : State) (p : Bool) {e : SiteEvent} (view : e ≠ .viewMerged) (capacity : e ≠ .capacityMismatch) :
    s.Heralds (s.raiseIf p e) := by
  cases p with
  | true => exact .raise s view capacity
  | false => exact .refl s

theorem setOrphans (s : State) (os : List Orphan) : s.Heralds (s.setOrphans os) :=
  trans (u := s.setMu { s.mu with orphans := os }) (.of_events rfl) (.raiseIf (e := .freezeChanged) _ _ (by decide) (by decide))

theorem dropOrphan (s : State) (a : Addr) : s.Heralds (s.dropOrphan a) := by
  unfold State.dropOrphan
  split
  · exact .setOrphans s _
  · exact .refl s

theorem setHu (s : State) (v : HaltUnit) : s.Heralds (s.setHu v) := .of_events rfl

theorem testRound (s : State) : s.Heralds s.testRound := by
  unfold State.testRound
  split
  · split
    · exact (State.Heralds.setHu s _).trans (.raise (e := .haltConfirmed) _ (by decide) (by decide))
    · exact (State.Heralds.setHu s _).trans (.raise (e := .haltUnconfirmed) _ (by decide) (by decide))
  · exact .refl s

theorem enterHalted (s : State) (r : BitVec 4) (f : HaltUnit → HaltUnit) : s.Heralds (s.enterHalted r f) := by
  rw [s.enterHalted_eq]
  refine trans (u := s.halting r f) ?_ (.of_events (events_of_bare (State.closeAll_bare _ _)))
  unfold State.halting
  exact ((State.Heralds.setHu s _).trans (State.Heralds.testRound _)).trans (.raise (e := .haltEntered) _ (by decide) (by decide))

theorem adoptHalt (s : State) (k : HaltState) (r : BitVec 4) : s.Heralds (s.adoptHalt k r) := by
  unfold State.adoptHalt
  split
  · exact (State.Heralds.setHu s _).trans (.raiseIf (e := .haltReleased) _ _ (by decide) (by decide))
  · split
    · exact .of_events rfl
    · exact .enterHalted s _ _
  · exact (State.Heralds.setHu s _).trans (.raiseIf (e := .haltReleased) _ _ (by decide) (by decide))

theorem mergeHalt (s : State) (k : HaltState) (r : BitVec 4) : s.Heralds (s.mergeHalt k r) := by
  unfold State.mergeHalt
  split
  · exact .of_events rfl
  · split
    · exact .refl s
    · exact .enterHalted s _ _
  · exact .refl s

end State.Heralds

/-! ### Stages 1 and 2 -/

theorem State.dropOrphan_freezes (s : State) (a : Addr)
    (turns : (s.mu.orphans.filter fun o => o.station != a).isEmpty ≠ s.mu.orphans.isEmpty) :
    (s.dropOrphan a).hasEvent .freezeChanged = true := by
  have mu := s.dropOrphan_mu a
  unfold State.dropOrphan at mu ⊢
  split
  · exact s.setOrphans_freezes _ turns
  · next none' =>
    rw [if_neg none'] at mu
    have same := congrArg MemberUnit.orphans mu
    rw [← show s.mu.orphans = s.mu.orphans.filter _ from same] at turns
    exact absurd rfl turns

/-- R137: the orphan list after a BEAT has added its sender, if it was no member. -/
def State.keptOrphans (s : State) (a : Addr) : List Orphan :=
  if s.isMember a = true then s.mu.orphans else s.mu.orphans.filter fun o => o.station != a

/-- R134, R137, R11, R126: from `s` to `u` a BEAT of `a` has written its sender's record. -/
structure State.Introduced (s u : State) (a : Addr) (seq : Seq) (b : BeatBody) : Prop where
  ct : u.ct = s.ct
  hu : u.hu = s.hu
  rm : u.rm = s.rm
  chans : u.chans = s.chans
  straps : u.straps = s.straps
  mu : u.mu = { s.mu with roster := u.mu.roster, orphans := s.keptOrphans a }
  member : ∃ m, u.member a = some m ∧ m.weight = max 1 (min 4 b.weight.toNat) ∧ m.cap = max 1 b.cap.toNat ∧
    m.capacity = max 1 b.capacity.toNat ∧ m.lastSeq = seq ∧ m.heard = s.clock.seconds ∧
    m.silence = (if a = s.own then none else some 6000) ∧ m.silent = false ∧ m.gauge = (readGauge b.gauge).getD (s.gaugeOf a)
  others : ∀ d, d ≠ a → u.member d = s.member d
  heralds : s.Heralds u
  freezes : (s.keptOrphans a).isEmpty ≠ s.mu.orphans.isEmpty → u.hasEvent .freezeChanged = true
  roster : s.isMember a = false → u.hasEvent .rosterChanged = true

theorem State.modMember_mu (s : State) (a : Addr) (f : Member → Member) :
    (s.modMember a f).mu = { s.mu with roster := (s.modMember a f).mu.roster } := rfl

/-- R7: stages 1 and 2 of a BEAT. -/
def State.introducing (h : State) (a : Addr) (seq : Seq) (b : BeatBody) : State := (h.beatStation a seq b).applyGauge a b.gauge

theorem State.Heard.introduced_member {a : Addr} {seq : Seq} {b : BeatBody} (heard : s.Heard h ⟨a, seq, .beat b⟩)
    (known : s.isMember a = true) : s.Introduced (h.introducing a seq b) a seq b := by
  have shape : h.introducing a seq b = (h.modMember a fun m =>
      { m with weight := clampWeight b.weight, cap := clampCapacity b.cap, capacity := clampCapacity b.capacity }).modMember a
        fun m => { m with gauge := gaugeAfter b.gauge m.gauge } := by
    unfold State.introducing State.beatStation State.applyGauge
    rw [if_pos ((heard.isMember a).trans known)]
  have kept : s.keptOrphans a = s.mu.orphans := if_pos known
  obtain ⟨m, found⟩ := Option.isSome_iff_exists.1 (show (s.member a).isSome = true from known)
  rw [shape]
  refine ⟨heard.ct, heard.hu, heard.rm, heard.chans, heard.straps, ?_, ?_, fun d apart => ?_, .of_events heard.events,
    fun turns => absurd (congrArg List.isEmpty kept) turns, fun unknown => ?_⟩
  · rw [kept]
    refine (State.modMember_mu _ a _).trans ?_
    rw [State.modMember_mu h a, heard.shape]
  · rw [State.member_modMember, if_pos rfl, State.member_modMember, if_pos rfl, heard.member, if_pos rfl, found]
    refine ⟨_, rfl, rfl, rfl, rfl, rfl, rfl, rfl, rfl, ?_⟩
    unfold State.gaugeOf
    rw [found]
    rfl
  · rw [State.member_modMember, if_neg fun same => apart same.symm, State.member_modMember, if_neg fun same => apart same.symm,
      heard.member, if_neg fun same => apart same.symm]
  · rw [known] at unknown
    cases unknown

theorem State.Heard.introduced_stranger {a : Addr} {seq : Seq} {b : BeatBody} (heard : s.Heard h ⟨a, seq, .beat b⟩)
    (unknown : s.isMember a = false) (apart : a ≠ s.own) : s.Introduced (h.introducing a seq b) a seq b := by
  have known : h.isMember a = false := (heard.isMember a).trans unknown
  have station : h.beatStation a seq b = h.addMember a seq b := if_neg (Bool.eq_false_iff.1 known)
  obtain ⟨m, added, shape⟩ : ∃ m : Member, h.addMember a seq b = ((h.setMember a (some m)).raise .rosterChanged).dropOrphan a ∧
      (m.weight = max 1 (min 4 b.weight.toNat) ∧ m.cap = max 1 b.cap.toNat ∧ m.capacity = max 1 b.capacity.toNat ∧
        m.lastSeq = seq ∧ m.heard = s.clock.seconds ∧ m.silence = (if a = s.own then none else some 6000) ∧ m.silent = false ∧
        m.gauge = none) := by
    refine ⟨_, if_neg fun both => apart (both.1.trans heard.own), rfl, rfl, rfl, rfl, congrArg Clock.seconds heard.clock, ?_, rfl,
      rfl⟩
    rw [heard.own]
  have raised : ((h.setMember a (some m)).raise .rosterChanged).hasEvent .rosterChanged = true := State.hasEvent_raise_same _ _
  have heralds : s.Heralds ((h.setMember a (some m)).raise .rosterChanged) :=
    (State.Heralds.of_events (t := h.setMember a (some m)) heard.events).trans (.raise _ (by decide) (by decide))
  have members : ∀ d, ((h.setMember a (some m)).raise .rosterChanged).member d = if a = d then some m else h.member d :=
    fun d => h.member_setMember a d (some m)
  have parts : h.introducing a seq b = (((h.setMember a (some m)).raise .rosterChanged).dropOrphan a).modMember a
      fun m => { m with gauge := gaugeAfter b.gauge m.gauge } := by
    unfold State.introducing State.applyGauge
    rw [station, added]
  have mu : ((h.setMember a (some m)).raise .rosterChanged).mu =
      { s.mu with roster := ((h.setMember a (some m)).raise .rosterChanged).mu.roster } := by
    rw [heard.shape]
    rfl
  have ct : ((h.setMember a (some m)).raise .rosterChanged).ct = s.ct := heard.ct
  have hu : ((h.setMember a (some m)).raise .rosterChanged).hu = s.hu := heard.hu
  have plant : ((h.setMember a (some m)).raise .rosterChanged).plant = h.plant := rfl
  rw [parts]
  clear parts added station
  generalize (h.setMember a (some m)).raise .rosterChanged = y at *
  have orphans : y.mu.orphans.filter (fun o => o.station != a) = s.keptOrphans a := by
    rw [mu]
    exact (if_neg (Bool.eq_false_iff.1 unknown)).symm
  have same := (y.dropOrphan_plant a).trans plant
  have dropped : (y.dropOrphan a).mu = { s.mu with roster := y.mu.roster, orphans := s.keptOrphans a } := by
    rw [y.dropOrphan_mu, orphans, mu]
  have member : ∀ d, (y.dropOrphan a).member d = if a = d then some m else h.member d := fun d => by
    refine Eq.trans ?_ (members d)
    unfold State.member
    rw [dropped]
  have told := heralds.trans (.dropOrphan y a)
  obtain ⟨weight, cap, capacity, lastSeq, heardAt, silence, silent, gauge⟩ := shape
  refine ⟨(y.dropOrphan_ct a).trans ct, (y.dropOrphan_hu a).trans hu, (rm_of_plant same).trans heard.rm,
    (chans_of_plant same).trans heard.chans, (straps_of_plant same).trans heard.straps, ?_,
    ⟨{ m with gauge := gaugeAfter b.gauge m.gauge }, ?_, weight, cap, capacity, lastSeq, heardAt, silence, silent, ?_⟩,
    fun d other => ?_, told.trans (.of_events rfl), fun turns => ?_, fun _ => (State.Heralds.dropOrphan y a).keeps _ raised⟩
  · rw [State.modMember_mu, dropped]
  · rw [State.member_modMember, if_pos rfl, member, if_pos rfl]
    rfl
  · have none' : s.gaugeOf a = none := by
      unfold State.gaugeOf
      rw [State.member_eq_none unknown]
      rfl
    rw [none', ← gauge]
    rfl
  · rw [State.member_modMember, if_neg fun same => other same.symm, member, if_neg fun same => other same.symm, heard.member,
      if_neg fun same => other same.symm]
  · refine (hasEvent_of_events rfl _).trans (State.dropOrphan_freezes y a ?_)
    rw [orphans, mu]
    exact turns

theorem State.Introduced.isMember {a : Addr} {seq : Seq} {b : BeatBody} (intro' : s.Introduced u a seq b) (d : Addr) :
    u.isMember d = (s.isMember d || d == a) := by
  unfold State.isMember
  by_cases here : d = a
  · subst here
    obtain ⟨m, found, -⟩ := intro'.member
    rw [found]
    simp
  · rw [intro'.others d here, beq_false_of_ne here, Bool.or_false]

/-! ### Stage 3: orphan list and halt unit -/

theorem State.appendOrphans_eq (s : State) (list : List Orphan) (items : List OrphanItem) :
    s.appendOrphans list items = items.foldl (afterRecord s.own s.isMember) list := by
  unfold State.appendOrphans
  congr 1
  funext list o
  unfold afterRecord State.acceptsOrphan
  by_cases small : o.station.toNat < 16
  · have named : toAddr o.station = some ⟨o.station.toNat, small⟩ := toAddr_eq_some.2 rfl
    rw [named, dif_pos small]
    dsimp only
    have same : list.any (fun x => x.station == ⟨o.station.toNat, small⟩) = true ↔
        ∃ x ∈ list, x.station = ⟨o.station.toNat, small⟩ := by
      rw [List.any_eq_true]
      exact exists_congr fun x => and_congr_right fun _ => beq_iff_eq
    have zero : o.load = 0 ↔ o.load.toNat = 0 := (BitVec.toNat_inj (y := 0)).symm
    by_cases refused : (⟨o.station.toNat, small⟩ : Addr) = s.own ∨ s.isMember ⟨o.station.toNat, small⟩ = true ∨
        (∃ x ∈ list, x.station = ⟨o.station.toNat, small⟩) ∨ o.load.toNat = 0 ∨ 504 < o.load.toNat
    · rw [if_pos refused, if_pos (by rw [same, zero]; exact refused)]
      exact List.append_nil list
    · rw [if_neg refused, if_neg (by rw [same, zero]; exact refused)]
      rfl
  · have other : toAddr o.station = none := by
      cases named : toAddr o.station with
      | none => rfl
      | some d =>
        have eq := toAddr_eq_some.1 named
        exact absurd (eq ▸ d.isLt) small
    rw [other, dif_neg small]
    exact List.append_nil list

theorem State.raiseIf_hu (s : State) (p : Bool) (e : SiteEvent) : (s.raiseIf p e).hu = s.hu := by
  unfold State.raiseIf
  split <;> rfl

/-- R167: the halt unit after the halt part of a BEAT has been adopted. -/
def State.adopting (u : State) (k : HaltState) (r : BitVec 4) : HaltUnit :=
  match k with
  | .none => { u.hu.clearRound with halt := .none, reasons := 0, settle := 0, ackPending := false }
  | .halted =>
    if u.hu.halt = .halted then { u.hu with reasons := r, settle := 0 }
    else { u.hu.clearRound with halt := .halted, reasons := r, settle := 0, ackPending := u.hu.ackPending || u.mu.station.active }
  | .settling =>
    { u.hu.clearRound with halt := .settling, reasons := r, ackPending := false, settle := insertAddr u.rosterSet u.own }

/-- R168: the halt unit after the halt part of a BEAT has been merged. -/
def State.merging (u : State) (k : HaltState) (r : BitVec 4) : HaltUnit :=
  if k = .halted then
    if u.hu.halt = .halted then { u.hu with reasons := u.hu.reasons ||| r }
    else { u.hu.clearRound with
      halt := .halted, reasons := r ||| reasonMerge, settle := 0, ackPending := u.hu.ackPending || u.mu.station.active }
  else u.hu

/-- From `u` to `v` runs and valves are as they were, or those that an entry to HALTED by a BEAT leaves. -/
def State.HaltsOr (u v : State) : Prop :=
  (v.rm = u.rm ∧ v.chans = u.chans ∧ (v.hu.halt = .halted → u.hu.halt = .halted)) ∨
    ∃ (y : State) (r : BitVec 4), y.rm = u.rm ∧ y.chans = u.chans ∧ v.rm = (y.enterHalted r HaltUnit.clearRound).rm ∧
      v.chans = (y.enterHalted r HaltUnit.clearRound).chans ∧ v.hu.halt = .halted

/-- What the halt part of a BEAT leaves alone, and the events that it raises. -/
structure State.HaltPart (u v : State) : Prop where
  mu : v.mu = u.mu
  ct : v.ct = u.ct
  straps : v.straps = u.straps
  bus : { v.bus with outbound := [] } = { u.bus with outbound := [] }
  heralds : u.Heralds v
  runs : u.HaltsOr v
  entered : v.hu.halt = .halted → u.hu.halt ≠ .halted → v.hasEvent .haltEntered = true
  released : u.hu.halt = .halted → v.hu.halt ≠ .halted → v.hasEvent .haltReleased = true

theorem State.HaltPart.of_setHu (u : State) (w : HaltUnit) (same : w.halt = .halted ↔ u.hu.halt = .halted) :
    u.HaltPart (u.setHu w) :=
  ⟨rfl, rfl, rfl, rfl, .of_events rfl, .inl ⟨rfl, rfl, same.1⟩, fun halted other => absurd (same.1 halted) other,
    fun halted other => absurd (same.2 halted) other⟩

theorem State.HaltPart.refl (u : State) : u.HaltPart u :=
  ⟨rfl, rfl, rfl, rfl, .refl u, .inl ⟨rfl, rfl, id⟩, fun halted other => absurd halted other, fun halted other => absurd halted other⟩

theorem State.HaltPart.enterHalted (u : State) (r : BitVec 4) (other : u.hu.halt ≠ .halted) :
    u.HaltPart (u.enterHalted r HaltUnit.clearRound) := by
  have bare := u.enterHalted_bare r HaltUnit.clearRound
  have calm := congrArg State.bus (u.halting_calm r HaltUnit.clearRound)
  have hu := (u.enterHalted_hu r HaltUnit.clearRound).trans (u.haltedUnit_clear r)
  exact ⟨u.enterHalted_mu _ _, u.enterHalted_ct _ _, u.enterHalted_straps _ _,
    (silenced_of_bare bare).trans (congrArg (fun v : BusUnit => { v with outbound := [] }) calm), .enterHalted u _ _,
    .inr ⟨u, r, rfl, rfl, rfl, rfl, by rw [hu]⟩, fun _ _ => u.hasEvent_enterHalted _ _, fun halted => absurd halted other⟩

/-- R164, R167: an adoption that ends HALTED says so. -/
theorem State.HaltPart.released' (u : State) (w : HaltUnit) (other : w.halt ≠ .halted) :
    u.HaltPart ((u.setHu w).raiseIf (u.hu.halt == .halted) .haltReleased) := by
  have calm := State.raiseIf_calm (u.setHu w) (u.hu.halt == .halted) .haltReleased
  have hu : ((u.setHu w).raiseIf (u.hu.halt == .halted) .haltReleased).hu = w := State.raiseIf_hu _ _ _
  refine ⟨(mu_of_calm calm).trans rfl, (ct_of_calm calm).trans rfl, (straps_of_calm calm).trans rfl, ?_,
    (State.Heralds.setHu u w).trans (.raiseIf _ _ (by decide) (by decide)), .inl ⟨(rm_of_calm calm).trans rfl,
      (chans_of_calm calm).trans rfl, fun halted => ?_⟩, fun halted => ?_, fun halted _ => ?_⟩
  · rw [bus_of_calm calm]
    rfl
  · rw [hu] at halted
    exact absurd halted other
  · rw [hu] at halted
    exact absurd halted other
  · rw [State.hasEvent_raiseIf, halted]
    simp

theorem State.adoptHalt_part (u : State) (k : HaltState) (r : BitVec 4) :
    u.HaltPart (u.adoptHalt k r) ∧ (u.adoptHalt k r).hu = u.adopting k r := by
  unfold State.adoptHalt State.adopting
  cases k with
  | none =>
    refine ⟨.released' u _ ?_, State.raiseIf_hu _ _ _⟩
    show HaltState.none ≠ .halted
    decide
  | settling =>
    refine ⟨.released' u _ ?_, State.raiseIf_hu _ _ _⟩
    show HaltState.settling ≠ .halted
    decide
  | halted =>
    dsimp only
    split
    · next halted => exact ⟨.of_setHu u _ Iff.rfl, rfl⟩
    · next other => exact ⟨.enterHalted u r other, (u.enterHalted_hu r _).trans (u.haltedUnit_clear r)⟩

theorem State.mergeHalt_part (u : State) (k : HaltState) (r : BitVec 4) :
    u.HaltPart (u.mergeHalt k r) ∧ (u.mergeHalt k r).hu = u.merging k r := by
  unfold State.merging
  by_cases kind : k = .halted
  · subst kind
    rw [if_pos rfl]
    by_cases halted : u.hu.halt = .halted
    · have shape : u.mergeHalt .halted r = u.setHu { u.hu with reasons := u.hu.reasons ||| r } := by
        unfold State.mergeHalt
        rw [halted]
      rw [shape, if_pos halted]
      exact ⟨.of_setHu u _ Iff.rfl, rfl⟩
    · have shape : u.mergeHalt .halted r = u.enterHalted (r ||| reasonMerge) HaltUnit.clearRound := by
        unfold State.mergeHalt
        cases halt : u.hu.halt with
        | halted => exact absurd halt halted
        | none => exact if_neg (by decide)
        | settling => exact if_neg (by decide)
      rw [shape, if_neg halted]
      exact ⟨.enterHalted u _ halted, (u.enterHalted_hu _ _).trans (u.haltedUnit_clear _)⟩
  · have shape : u.mergeHalt k r = u := by
      unfold State.mergeHalt
      cases k with
      | halted => exact absurd rfl kind
      | none => cases u.hu.halt <;> rfl
      | settling => cases u.hu.halt <;> rfl
    rw [shape, if_neg kind]
    exact ⟨.refl u, rfl⟩

end Sys2Proof.Machine
end

section
/-!
SUPPORT. The view part, the entry list and the capacities of a BEAT (R7 stages 3 to 5), from the state in which its sender's record stands.
-/

namespace Sys2Proof.Machine

variable {s u v w x : State}

/-! ### Stage 3 -/

theorem State.HaltsOr.of_parts (rm : w.rm = u.rm) (chans : w.chans = u.chans) (hu : w.hu = u.hu) (halts : w.HaltsOr v) :
    u.HaltsOr v := by
  rcases halts with ⟨rm', chans', still⟩ | ⟨y, r, rm', chans', rest⟩
  · exact .inl ⟨rm'.trans rm, chans'.trans chans, hu ▸ still⟩
  · exact .inr ⟨y, r, rm'.trans rm, chans'.trans chans, rest⟩

theorem State.HaltsOr.after (halts : u.HaltsOr v) (rm : w.rm = v.rm) (chans : w.chans = v.chans)
    (halted : w.hu.halt = .halted ↔ v.hu.halt = .halted) : u.HaltsOr w := by
  rcases halts with ⟨rm', chans', still⟩ | ⟨y, r, before, valves, rm', chans', entered⟩
  · exact .inl ⟨rm.trans rm', chans.trans chans', fun now => still (halted.1 now)⟩
  · exact .inr ⟨y, r, before, valves, rm.trans rm', chans.trans chans', halted.2 entered⟩

/-- From `u` to `v` the view part of a BEAT has been adopted, merged or ignored. -/
structure State.Viewed (u v : State) : Prop where
  mu : v.mu = { u.mu with orphans := v.mu.orphans }
  ct : { v.ct with flags := u.ct.flags, pointers := u.ct.pointers, adoptionPending := u.ct.adoptionPending } = u.ct
  straps : v.straps = u.straps
  bus : { v.bus with outbound := [] } = { u.bus with outbound := [] }
  keeps : ∀ e, u.hasEvent e = true → v.hasEvent e = true
  capacity : v.hasEvent .capacityMismatch = u.hasEvent .capacityMismatch
  runs : u.HaltsOr v
  freezes : v.mu.orphans.isEmpty ≠ u.mu.orphans.isEmpty → v.hasEvent .freezeChanged = true
  entered : v.hu.halt = .halted → u.hu.halt ≠ .halted → v.hasEvent .haltEntered = true
  released : u.hu.halt = .halted → v.hu.halt ≠ .halted → v.hasEvent .haltReleased = true

theorem State.Viewed.refl (u : State) : u.Viewed u :=
  ⟨rfl, rfl, rfl, rfl, fun _ => id, rfl, .inl ⟨rfl, rfl, id⟩, fun turns => absurd rfl turns, fun halted other => absurd halted other,
    fun halted other => absurd halted other⟩

/-- The state in which flags, pointers and orphan list of a view stand, before its halt part. -/
def State.restated (u : State) (flags : BitVec 16) (pointers : Vector Addr 4) (pending : Bool) (os : List Orphan) : State :=
  (u.setCt { u.ct with flags := flags, pointers := pointers, adoptionPending := pending }).setOrphans os

section
variable (u) (flags : BitVec 16) (pointers : Vector Addr 4) (pending : Bool) (os : List Orphan)

theorem State.restated_calm : (u.restated flags pointers pending os).calm =
    ((u.setCt { u.ct with flags := flags, pointers := pointers, adoptionPending := pending }).setMu
      { u.mu with orphans := os }).calm := State.setOrphans_calm_of _ os

theorem State.restated_hu : (u.restated flags pointers pending os).hu = u.hu := State.setOrphans_hu _ os

theorem State.restated_mu : (u.restated flags pointers pending os).mu = { u.mu with orphans := os } :=
  (mu_of_calm (u.restated_calm flags pointers pending os)).trans rfl

theorem State.restated_ct : (u.restated flags pointers pending os).ct =
    { u.ct with flags := flags, pointers := pointers, adoptionPending := pending } :=
  (ct_of_calm (u.restated_calm flags pointers pending os)).trans rfl

theorem State.restated_rosterSet : (u.restated flags pointers pending os).rosterSet = u.rosterSet := by
  have mu := u.restated_mu flags pointers pending os
  unfold State.rosterSet State.isMember State.member
  rw [mu]

theorem State.restated_straps : (u.restated flags pointers pending os).straps = u.straps :=
  (straps_of_calm (u.restated_calm flags pointers pending os)).trans rfl

theorem State.restated_adopting (k : HaltState) (r : BitVec 4) :
    (u.restated flags pointers pending os).adopting k r = u.adopting k r := by
  unfold State.adopting State.own
  rw [u.restated_hu, u.restated_mu, u.restated_rosterSet, u.restated_straps]

theorem State.restated_merging (k : HaltState) (r : BitVec 4) :
    (u.restated flags pointers pending os).merging k r = u.merging k r := by
  unfold State.merging
  rw [u.restated_hu, u.restated_mu]

/-- The view part of a BEAT by its halt part. -/
theorem State.viewed_of_part (part : (u.restated flags pointers pending os).HaltPart v) : u.Viewed v ∧
    v.ct = { u.ct with flags := flags, pointers := pointers, adoptionPending := pending } ∧ v.mu.orphans = os ∧
    v.hasEvent .viewMerged = u.hasEvent .viewMerged := by
  have calm := u.restated_calm flags pointers pending os
  have hu := u.restated_hu flags pointers pending os
  have mu := u.restated_mu flags pointers pending os
  have ct := u.restated_ct flags pointers pending os
  have straps := u.restated_straps flags pointers pending os
  have heralds : u.Heralds (u.restated flags pointers pending os) :=
    (State.Heralds.of_events (s := u)
      (t := u.setCt { u.ct with flags := flags, pointers := pointers, adoptionPending := pending }) rfl).trans
      (.setOrphans (u.setCt { u.ct with flags := flags, pointers := pointers, adoptionPending := pending }) os)
  have turns : os.isEmpty ≠ u.mu.orphans.isEmpty → (u.restated flags pointers pending os).hasEvent .freezeChanged = true :=
    fun turns => State.setOrphans_freezes _ os turns
  generalize u.restated flags pointers pending os = w at *
  obtain ⟨mu', ct', straps', bus, told, runs, entered, released⟩ := part
  rw [hu] at entered released
  refine ⟨⟨?_, ?_, straps'.trans straps, ?_, fun e had => told.keeps e (heralds.keeps e had), told.capacity.trans heralds.capacity,
    runs.of_parts ((rm_of_calm calm).trans rfl) ((chans_of_calm calm).trans rfl) hu, fun turned => ?_, entered, released⟩,
    ct'.trans ct, ?_, told.view.trans heralds.view⟩
  · rw [mu', mu]
  · rw [ct', ct]
  · rw [bus, bus_of_calm calm]
    rfl
  · rw [mu', mu] at turned
    exact told.keeps _ (turns turned)
  · rw [mu', mu]

end

theorem State.appendOrphans_setCt (u : State) (c : ClaimUnit) (list : List Orphan) (items : List OrphanItem) :
    (u.setCt c).appendOrphans list items = u.appendOrphans list items := rfl

/-- R16, R167: an adopted view. -/
theorem State.adoptView_viewed (u : State) (b : BeatBody) : u.Viewed (u.adoptView b) ∧
    (u.adoptView b).ct = { u.ct with flags := b.flags, pointers := b.pointers, adoptionPending := false } ∧
    (u.adoptView b).mu.orphans = b.orphans.foldl (afterRecord u.own u.isMember) [] ∧
    (u.adoptView b).hasEvent .viewMerged = u.hasEvent .viewMerged ∧
    (u.adoptView b).hu = u.adopting (toHaltState b.haltState) (toReasons b.reasons) := by
  have shape : u.adoptView b = (u.restated b.flags b.pointers false (u.appendOrphans [] b.orphans)).adoptHalt
      (toHaltState b.haltState) (toReasons b.reasons) := rfl
  obtain ⟨part, hu⟩ := (u.restated b.flags b.pointers false (u.appendOrphans [] b.orphans)).adoptHalt_part
    (toHaltState b.haltState) (toReasons b.reasons)
  rw [← shape] at part hu
  obtain ⟨viewed, ct, orphans, view⟩ := u.viewed_of_part _ _ _ _ part
  exact ⟨viewed, ct, orphans.trans (u.appendOrphans_eq _ _), view, hu.trans (u.restated_adopting ..)⟩

theorem toHaltState_halted {b : Byte} : toHaltState b = .halted ↔ b ≠ 0 ∧ b ≠ 2 := by
  have zero : b = 0 ↔ b.toNat = 0 := (BitVec.toNat_inj (y := 0)).symm
  have two : b = 2 ↔ b.toNat = 2 := (BitVec.toNat_inj (y := 2)).symm
  rw [ne_eq, ne_eq, zero, two]
  unfold toHaltState
  split
  · next same => simp [same]
  · next same => simp [same]
  · next other other' => exact ⟨fun _ => ⟨other, other'⟩, fun _ => rfl⟩

/-- R17, R18, R168: a merged view. -/
theorem State.mergeView_viewed (u : State) (a : Addr) (b : BeatBody) : u.Viewed (u.mergeView a b) ∧
    (u.mergeView a b).ct = { u.ct with
      flags := u.ct.flags ||| b.flags, pointers := if a < u.own then b.pointers else u.ct.pointers } ∧
    (u.mergeView a b).mu.orphans = b.orphans.foldl (afterRecord u.own u.isMember) u.mu.orphans ∧
    (u.mergeView a b).hasEvent .viewMerged = (u.hasEvent .viewMerged || decide ((u.mergeView a b).ct.flags ≠ u.ct.flags) ||
      decide ((u.mergeView a b).ct.pointers ≠ u.ct.pointers) || decide ((u.mergeView a b).mu.orphans ≠ u.mu.orphans) ||
      decide (u.hu.halt ≠ .halted ∧ b.haltState ≠ 0 ∧ b.haltState ≠ 2)) ∧
    (u.mergeView a b).hu = u.merging (toHaltState b.haltState) (toReasons b.reasons) := by
  generalize entry : (u.restated (u.ct.flags ||| b.flags) (if a < u.own then b.pointers else u.ct.pointers) u.ct.adoptionPending
    (u.appendOrphans u.mu.orphans b.orphans)).mergeHalt (toHaltState b.haltState) (toReasons b.reasons) = y
  have shape : ∃ p, u.mergeView a b = y.raiseIf p .viewMerged ∧
      p = ((u.ct.flags ||| b.flags) != u.ct.flags || (if a < u.own then b.pointers else u.ct.pointers) != u.ct.pointers ||
        u.appendOrphans u.mu.orphans b.orphans != u.mu.orphans || (u.hu.halt != .halted && y.hu.halt == .halted)) := by
    rw [← entry]
    exact ⟨_, rfl, rfl⟩
  obtain ⟨p, shape, value⟩ := shape
  obtain ⟨part, hu⟩ := (u.restated (u.ct.flags ||| b.flags) (if a < u.own then b.pointers else u.ct.pointers) u.ct.adoptionPending
    (u.appendOrphans u.mu.orphans b.orphans)).mergeHalt_part (toHaltState b.haltState) (toReasons b.reasons)
  rw [entry] at part hu
  obtain ⟨viewed, ct, orphans, view⟩ := u.viewed_of_part _ _ _ _ part
  replace hu := hu.trans (u.restated_merging ..)
  have calm := State.raiseIf_calm y p .viewMerged
  have hu' := State.raiseIf_hu y p .viewMerged
  have events := State.hasEvent_raiseIf y p .viewMerged
  rw [shape]
  generalize y.raiseIf p .viewMerged = z at *
  obtain ⟨mu, ct', straps, bus, keeps, capacity, runs, freezes, entered, released⟩ := viewed
  have sameMu := mu_of_calm calm
  have sameCt := ct_of_calm calm
  have kept : ∀ e, y.hasEvent e = true → z.hasEvent e = true := fun e had => by
    rw [events, had]
    rfl
  have whole : z.ct = { u.ct with
      flags := u.ct.flags ||| b.flags, pointers := if a < u.own then b.pointers else u.ct.pointers } := sameCt.trans ct
  have list : z.mu.orphans = u.appendOrphans u.mu.orphans b.orphans := by
    rw [sameMu, orphans]
  refine ⟨⟨?_, ?_, (straps_of_calm calm).trans straps, ?_, fun e had => kept e (keeps e had), ?_,
    runs.after (rm_of_calm calm) (chans_of_calm calm) (by rw [hu']), ?_, ?_, ?_⟩, whole,
    list.trans (u.appendOrphans_eq _ _), ?_, hu'.trans hu⟩
  · rw [sameMu, mu]
  · rw [sameCt, ct']
  · rw [bus_of_calm calm, bus]
  · rw [events, capacity]
    simp
  · rw [sameMu]
    exact fun turned => kept _ (freezes turned)
  · rw [hu']
    exact fun halted other => kept _ (entered halted other)
  · rw [hu']
    exact fun halted other => kept _ (released halted other)
  · have halts : (u.hu.halt != .halted && y.hu.halt == .halted) =
        decide (u.hu.halt ≠ .halted ∧ b.haltState ≠ 0 ∧ b.haltState ≠ 2) := by
      rw [show decide (u.hu.halt ≠ .halted ∧ b.haltState ≠ 0 ∧ b.haltState ≠ 2) =
        decide (u.hu.halt ≠ .halted ∧ toHaltState b.haltState = .halted) from
          decide_eq_decide.2 (and_congr_right fun _ => toHaltState_halted.symm), hu]
      unfold State.merging
      by_cases halted : u.hu.halt = .halted
      · simp [halted]
      · by_cases kind : toHaltState b.haltState = .halted
        · simp [halted, kind]
        · simp [halted, kind]
    rw [events, view, value, halts, whole, list]
    simp only [Bool.and_true, decide_true, Bool.or_assoc]
    simp only [bne, decide_not, beq_eq_decide]

theorem State.beatView_viewed (u : State) (a : Addr) (b : BeatBody) (adopt : Bool) : u.Viewed (u.beatView a b adopt) := by
  unfold State.beatView
  split
  · exact .refl u
  · exact .refl u
  · exact .refl u
  · split
    · exact (u.adoptView_viewed b).1
    · exact (u.mergeView_viewed a b).1

theorem State.beatView_of_ignored (ignored : u.mu.station = .isolated ∨ u.mu.station = .clash) (a : Addr) (b : BeatBody)
    (adopt : Bool) : u.beatView a b adopt = u := by
  unfold State.beatView
  rcases ignored with same | same
  · rw [same]
  · rw [same]

theorem State.beatView_of_taken (isolated : u.mu.station ≠ .isolated) (clash : u.mu.station ≠ .clash) (config : u.mu.station ≠ .config)
    (a : Addr) (b : BeatBody) (adopt : Bool) : u.beatView a b adopt = if adopt then u.adoptView b else u.mergeView a b := by
  unfold State.beatView
  cases station : u.mu.station with
  | isolated => exact absurd station isolated
  | clash => exact absurd station clash
  | config => exact absurd station config
  | _ => rfl

/-! ### Stages 4 and 5 -/

theorem HaltUnit.unsettling_halted (hu : HaltUnit) (a : Addr) : (hu.unsettling a).halt = .halted ↔ hu.halt = .halted := by
  unfold HaltUnit.unsettling HaltUnit.calmed
  split
  · next settling =>
    have same : hu.halt = .settling := settling.1
    rw [same]
    exact ⟨nofun, nofun⟩
  · exact Iff.rfl

/-- R7, R165: from `u` to `x` the view, the entry list and the capacities of a BEAT of `a` have been entered. -/
structure State.Beaten (u x : State) (a : Addr) (b : BeatBody) : Prop where
  station : x.mu.station = u.mu.station
  cause : x.mu.cause = u.mu.cause
  straps : x.straps = u.straps
  bus : { x.bus with outbound := [] } = { u.bus with outbound := [] }
  member : ∀ d, x.member d = if a = d then (u.member d).map (fun m => { m with stale := false }) else u.member d
  table : x.ct.table = replaceEntries u.ct.table a (x.hu.halt == .none && x.mu.orphans.isEmpty) b.entries
  keeps : ∀ e, u.hasEvent e = true → x.hasEvent e = true
  capacity : x.hasEvent .capacityMismatch = (u.hasEvent .capacityMismatch ||
    decide (x.ct.announcedSet ≠ u.ct.announcedSet ∧ 2 ≤ x.ct.announcedSet.length))
  formed : x.ViewFormed
  runs : u.HaltsOr x
  freezes : x.mu.orphans.isEmpty ≠ u.mu.orphans.isEmpty → x.hasEvent .freezeChanged = true
  entered : x.hu.halt = .halted → u.hu.halt ≠ .halted → x.hasEvent .haltEntered = true
  released : u.hu.halt = .halted → x.hu.halt ≠ .halted → x.hasEvent .haltReleased = true
  ignores : u.mu.station = .isolated ∨ u.mu.station = .clash → x.ct.flags = u.ct.flags ∧ x.ct.pointers = u.ct.pointers ∧
    x.ct.adoptionPending = u.ct.adoptionPending ∧ x.mu.orphans = u.mu.orphans ∧
    x.hasEvent .viewMerged = u.hasEvent .viewMerged ∧ x.hu = u.hu.unsettling a
  adopts : u.mu.station ≠ .isolated → u.mu.station ≠ .clash → u.mu.station ≠ .config → u.ct.adoptionPending = true →
    x.ct.flags = b.flags ∧ x.ct.pointers = b.pointers ∧ x.ct.adoptionPending = false ∧
    x.mu.orphans = b.orphans.foldl (afterRecord u.own u.isMember) [] ∧ x.hasEvent .viewMerged = u.hasEvent .viewMerged ∧
    x.hu = (u.adopting (toHaltState b.haltState) (toReasons b.reasons)).unsettling a
  merges : u.mu.station ≠ .isolated → u.mu.station ≠ .clash → u.mu.station ≠ .config → u.ct.adoptionPending = false →
    x.ct.flags = u.ct.flags ||| b.flags ∧ x.ct.pointers = (if a < u.own then b.pointers else u.ct.pointers) ∧
    x.ct.adoptionPending = false ∧ x.mu.orphans = b.orphans.foldl (afterRecord u.own u.isMember) u.mu.orphans ∧
    x.hasEvent .viewMerged = (u.hasEvent .viewMerged || decide (x.ct.flags ≠ u.ct.flags) ||
      decide (x.ct.pointers ≠ u.ct.pointers) || decide (x.mu.orphans ≠ u.mu.orphans) ||
      decide (u.hu.halt ≠ .halted ∧ b.haltState ≠ 0 ∧ b.haltState ≠ 2)) ∧
    x.hu = (u.merging (toHaltState b.haltState) (toReasons b.reasons)).unsettling a

/-- R7: stages 3 to 5 of a BEAT. -/
def State.beating (u : State) (a : Addr) (b : BeatBody) : State :=
  (((u.beatView a b u.ct.adoptionPending).settleRemoval a).beatEntries a b.entries).refreshView

/-- What stages 4 and 5 and the removal from the settle set make of the state after stage 3. -/
theorem State.beatEntries_parts (v : State) (a : Addr) (items : List EntryItem) :
    let x := ((v.settleRemoval a).beatEntries a items).refreshView
    x.mu = { v.mu with roster := x.mu.roster } ∧ x.straps = v.straps ∧ x.bus = v.bus ∧ x.rm = v.rm ∧ x.chans = v.chans ∧
    x.hu = v.hu.unsettling a ∧
    (∀ d, x.member d = if a = d then (v.member d).map (fun m => { m with stale := false }) else v.member d) ∧
    x.ct = { v.ct with
      table := replaceEntries v.ct.table a (x.hu.halt == .none && x.mu.orphans.isEmpty) items
      capacityView := x.ct.capacityView, announcedSet := x.ct.announcedSet } ∧
    (∀ e, x.hasEvent e = (v.hasEvent e || decide (e = .capacityMismatch) &&
      decide (x.ct.announcedSet ≠ v.ct.announcedSet ∧ 2 ≤ x.ct.announcedSet.length))) := by
  dsimp only
  have calm := State.settleRemoval_calm v a
  have hu := State.settleRemoval_hu v a
  have events := State.settleRemoval_events v a
  generalize v.settleRemoval a = y at *
  have mu := mu_of_calm calm
  have ct := ct_of_calm calm
  generalize entry : y.beatEntries a items = w
  have wMu : w.mu = { y.mu with roster := w.mu.roster } := by rw [← entry]; rfl
  have wHu : w.hu = y.hu := by rw [← entry]; rfl
  have wCt : w.ct = { y.ct with table := replaceEntries y.ct.table a (y.hu.halt == .none && !y.frozen) items } := by
    rw [← entry]; rfl
  have wMember : ∀ d, w.member d = if a = d then (y.member d).map (fun m => { m with stale := false }) else y.member d := fun d => by
    rw [← entry]
    exact State.member_modMember _ a d _
  have wCalm : w.straps = y.straps ∧ w.bus = y.bus ∧ w.rm = y.rm ∧ w.chans = y.chans ∧ w.events = y.events := by
    rw [← entry]
    exact ⟨rfl, rfl, rfl, rfl, rfl⟩
  obtain ⟨wStraps, wBus, wRm, wChans, wEvents⟩ := wCalm
  have xCalm := w.refreshView_calm
  have xHu := w.refreshView_hu
  have xCt := w.refreshView_ct
  have xMu := w.refreshView_mu
  have xEvents : ∀ e, w.refreshView.hasEvent e = (w.hasEvent e || decide (e = .capacityMismatch) &&
      decide (w.refreshView.ct.announcedSet ≠ w.ct.announcedSet ∧ 2 ≤ w.refreshView.ct.announcedSet.length)) := fun e => by
    rw [xCt]
    refine (State.hasEvent_raiseIf _ _ _ _).trans ?_
    rw [Bool.and_comm, Bool.decide_and, decide_not, bne, beq_eq_decide]
    rfl
  have xStraps := (straps_of_calm xCalm).trans rfl
  have xBus := (bus_of_calm xCalm).trans rfl
  have xRm := (rm_of_calm xCalm).trans rfl
  have xChans := (chans_of_calm xCalm).trans rfl
  generalize w.refreshView = x at *
  have members : ∀ d, x.member d = w.member d := fun d => by
    unfold State.member
    rw [xMu]
  have orphans : x.mu.orphans = y.mu.orphans := by rw [xMu, wMu]
  refine ⟨?_, xStraps.trans (wStraps.trans (straps_of_calm calm)), xBus.trans (wBus.trans (bus_of_calm calm)),
    xRm.trans (wRm.trans (rm_of_calm calm)), xChans.trans (wChans.trans (chans_of_calm calm)), xHu.trans (wHu.trans hu),
    fun d => ?_, ?_, fun e => ?_⟩
  · rw [xMu, wMu, mu]
  · rw [members, wMember]
    unfold State.member
    rw [mu]
  · have shape : x.ct = { w.ct with capacityView := x.ct.capacityView, announcedSet := x.ct.announcedSet } := by rw [xCt]
    rw [shape, wCt, ct, xHu, wHu, orphans]
    unfold State.frozen
    rw [Bool.not_not]
  · rw [xEvents, hasEvent_of_events (wEvents.trans events), wCt, ct]

theorem State.beating_beaten (u : State) (a : Addr) (b : BeatBody) : u.Beaten (u.beating a b) a b := by
  obtain ⟨mu, straps, bus, rm, chans, hu, member, ct, events⟩ :=
    (u.beatView a b u.ct.adoptionPending).beatEntries_parts a b.entries
  have formed : (u.beating a b).ViewFormed := State.refreshView_viewFormed _
  obtain ⟨vMu, vCt, vStraps, vBus, vKeeps, vCapacity, vRuns, vFreezes, vEntered, vReleased⟩ :=
    u.beatView_viewed a b u.ct.adoptionPending
  have ignored := fun station => u.beatView_of_ignored station a b u.ct.adoptionPending
  have taken := fun isolated clash config => u.beatView_of_taken isolated clash config a b u.ct.adoptionPending
  have adopted := (u.adoptView_viewed b).2
  have merged := (u.mergeView_viewed a b).2
  have shape : ((u.beatView a b u.ct.adoptionPending).settleRemoval a |>.beatEntries a b.entries).refreshView = u.beating a b := rfl
  rw [shape] at mu straps bus rm chans hu member ct events
  clear shape
  generalize u.beating a b = x at *
  generalize u.beatView a b u.ct.adoptionPending = v at *
  have others : ∀ e, e ≠ .capacityMismatch → x.hasEvent e = v.hasEvent e := fun e other => by
    rw [events, decide_eq_false other]
    simp
  have kept : ∀ e, v.hasEvent e = true → x.hasEvent e = true := fun e had => by
    rw [events, had]
    rfl
  have halted : x.hu.halt = .halted ↔ v.hu.halt = .halted := by
    rw [hu]
    exact HaltUnit.unsettling_halted _ _
  have orphans : x.mu.orphans = v.mu.orphans := by rw [mu]
  have flags : x.ct.flags = v.ct.flags := by rw [ct]
  have pointers : x.ct.pointers = v.ct.pointers := by rw [ct]
  have pending : x.ct.adoptionPending = v.ct.adoptionPending := by rw [ct]
  have set : v.ct.announcedSet = u.ct.announcedSet := by rw [← vCt]
  have view := others .viewMerged (by decide)
  have same : ∀ d, v.member d = u.member d := fun d => by
    unfold State.member
    rw [vMu]
  refine ⟨?_, ?_, straps.trans vStraps, ?_, fun d => ?_, ?_, fun e had => kept e (vKeeps e had), ?_, formed, ?_, ?_, ?_, ?_,
    fun station => ?_, fun isolated clash config adopts => ?_, fun isolated clash config merges => ?_⟩
  · rw [mu, vMu]
  · rw [mu, vMu]
  · rw [bus, vBus]
  · rw [member, same]
  · rw [ct, ← vCt]
  · rw [events, vCapacity, set]
    simp
  · exact vRuns.after rm chans halted
  · rw [orphans]
    exact fun turned => kept _ (vFreezes turned)
  · exact fun now other => kept _ (vEntered (halted.1 now) other)
  · exact fun had other => kept _ (vReleased had fun still => other (halted.2 still))
  · rw [flags, pointers, pending, orphans, view, hu, ignored station]
    exact ⟨rfl, rfl, rfl, rfl, rfl, rfl⟩
  · rw [flags, pointers, pending, orphans, view, hu, taken isolated clash config, adopts, if_pos rfl]
    obtain ⟨ct', orphans', view', hu'⟩ := adopted
    rw [ct', orphans', view', hu']
    exact ⟨rfl, rfl, rfl, rfl, rfl, rfl⟩
  · rw [view, flags, pointers, pending, orphans, hu, taken isolated clash config, merges, if_neg (by decide)]
    obtain ⟨ct', orphans', view', hu'⟩ := merged
    refine ⟨by rw [ct'], by rw [ct'], by rw [ct']; exact merges, orphans', view', by rw [hu']⟩

/-- R7: a BEAT whose first stage is no entry to SYNCED. -/
theorem State.applyBeat_of_introduced {h : State} {a : Addr} {seq : Seq} {b : BeatBody}
    (ct : (h.introducing a seq b).ct = h.ct) : h.applyBeat a seq b = (h.introducing a seq b).beating a b := by
  unfold State.beating
  rw [ct]
  rfl

end Sys2Proof.Machine
end

section
/-!
SUPPORT. What an entry list writes (R8): the last valid item for each channel, and its mark.
-/

namespace Sys2Proof.Machine

/-- R8: the entry that an entry list leaves for a channel: that of the last item read for it. -/
def lastRead (mayLatch : Bool) (items : List EntryItem) (c : Chan) : Option Entry :=
  ((items.filterMap (readItem mayLatch)).reverse.find? fun i => i.1 == c).map fun i => i.2

/-- A mark stands where marks may stand. -/
def Entry.marked (mayLatch : Bool) (e : Entry) : Entry := { e with latched := mayLatch && e.latched }

theorem readItem_marked (mayLatch : Bool) (i : EntryItem) :
    readItem mayLatch i = (readItem true i).map fun x => (x.1, x.2.marked mayLatch) := by
  unfold readItem Entry.marked
  cases toChan i.channel with
  | none => rfl
  | some c =>
    cases toLevel i.level with
    | none => rfl
    | some l =>
      cases toDemand i.demand with
      | none => rfl
      | some d =>
        cases toPhase i.phase.toNat with
        | none => rfl
        | some p =>
          dsimp only [Option.map_some]
          rw [Bool.true_and, Bool.and_assoc]

theorem filterMap_readItem (mayLatch : Bool) (items : List EntryItem) : items.filterMap (readItem mayLatch) =
    (items.filterMap (readItem true)).map fun x => (x.1, x.2.marked mayLatch) := by
  rw [List.map_filterMap]
  congr 1
  funext i
  exact readItem_marked mayLatch i

theorem lastRead_marked (mayLatch : Bool) (items : List EntryItem) (c : Chan) :
    lastRead mayLatch items c = (lastRead true items c).map (Entry.marked mayLatch) := by
  unfold lastRead
  rw [filterMap_readItem mayLatch, ← List.map_reverse, List.find?_map, Option.map_map, Option.map_map]
  rfl

theorem lastRead_said (items : List EntryItem) (c : Chan) (mayLatch : Bool) :
    (lastRead mayLatch items c).map Entry.said = (lastRead false items c).map Entry.said := by
  rw [lastRead_marked mayLatch, lastRead_marked false, Option.map_map, Option.map_map]
  rfl

theorem lastRead_latched (items : List EntryItem) (c : Chan) : (lastRead true items c).any Entry.latched =
    ((items.filterMap (readItem true)).reverse.find? fun i => i.1 == c).any fun i => i.2.latched := by
  unfold lastRead
  rw [Option.any_map]

theorem slot_setSlots (xs : List (Chan × Entry)) (t : Table) (a : Addr) (c : Chan) :
    slot (xs.foldl (fun t i => setSlot t a i.1 (some i.2)) t) a c =
      ((xs.reverse.find? fun i => i.1 == c).map fun i => i.2).or (slot t a c) := by
  induction xs generalizing t with
  | nil => rfl
  | cons x xs ih =>
    rw [List.foldl_cons, ih, List.reverse_cons, List.find?_append, slot_setSlot]
    cases xs.reverse.find? fun i => i.1 == c with
    | some y => rfl
    | none =>
      by_cases same : x.1 = c
      · simp [same]
      · simp [same]

theorem slot_replaceEntries (t : Table) (a : Addr) (mayLatch : Bool) (items : List EntryItem) (c : Chan) :
    slot (replaceEntries t a mayLatch items) a c = lastRead mayLatch items c := by
  unfold replaceEntries
  rw [slot_setSlots, slot_clearRow]
  simp [lastRead]

theorem readItem_iff (i : EntryItem) (mayLatch : Bool) (c : Chan) (e : Entry) : readItem mayLatch i = some (c, e) ↔
    i.channel.toNat = c.val ∧ i.level.toNat = e.level.val ∧ i.demand.toNat = e.demand ∧ 1 ≤ e.demand ∧
      e.demand ≤ 63 ∧ i.phase.toNat = e.phase.code ∧ e.placed = false ∧
      e.latched = (mayLatch && decide (e.phase = .asking) && decide (i.latched = 1)) := by
  obtain ⟨level, demand, phase, latched, placed⟩ := e
  dsimp only
  rw [← toChan_eq_some, ← toLevel_eq_some, ← toPhase_eq_some]
  have dem := toDemand_eq_some (b := i.demand) (d := demand)
  unfold readItem
  constructor
  · intro read
    split at read
    · next c' l' d' p' chan lev dem' ph =>
      obtain ⟨same, entry⟩ := Prod.mk.inj (Option.some.inj read)
      injection entry with level' demand' phase' latched' placed'
      subst same level' demand' phase' placed'
      obtain ⟨value, low, high⟩ := toDemand_eq_some.1 dem'
      refine ⟨chan, lev, value, low, high, ph, rfl, ?_⟩
      rw [← latched', beq_eq_decide, beq_eq_decide]
    · cases read
  · rintro ⟨chan, lev, value, low, high, ph, unplaced, mark⟩
    rw [chan, lev, dem.2 ⟨value, low, high⟩, ph, mark, unplaced]
    dsimp only
    rw [beq_eq_decide, beq_eq_decide]

end Sys2Proof.Machine
end

section
/-!
SUPPORT. What the recomputation, the evaluation and the tests at the end of an applied BEAT leave of it.
-/

namespace Sys2Proof.Machine

variable {s u x : State}

/-! ### The end of a frame by its test of the stale set -/

theorem State.regained_mu (u : State) : u.regained.mu = { u.mu with
    station := .synced, roster := mapVec (Option.map fun m => { m with stale := false }) u.mu.roster } := rfl

/-- R145: as an event ends either all stands or an empty stale set has ended RESYNC. -/
theorem State.rested_rests (v : State) :
    (v.rested.mu = v.mu ∧ v.rested.ct.adoptionPending = v.ct.adoptionPending ∧ (v.mu.station = .resync → v.anyStale = true)) ∨
    v.mu.station = .resync ∧ v.anyStale = false ∧ v.rested.mu = v.regained.mu ∧ v.rested.ct.adoptionPending = false ∧
      v.rested.hasEvent .syncRegained = true := by
  unfold State.rested
  rcases v.staleTest_cases with same | ⟨station, fresh, synced⟩
  · rw [same, State.closing_mu, State.closing_ct]
    refine .inl ⟨rfl, rfl, fun resync => ?_⟩
    by_contra fresh
    rw [Bool.not_eq_true] at fresh
    have stands : v.mu.station = .synced := by
      rw [← v.enterSynced_station, ← v.staleTest_of_fresh resync fresh, same]
    rw [resync] at stands
    cases stands
  · rw [synced, State.closing_mu, State.closing_ct]
    have mute := v.enterSynced_mute
    have regained : v.regained.hasEvent .syncRegained = true := State.hasEvent_raise_same _ _
    refine .inr ⟨station, fresh, mu_of_mute mute, ?_, ?_⟩
    · rw [ct_of_mute mute]
      rfl
    · rw [hasEvent_of_events (State.closing_events _), hasEvent_of_events (events_of_mute mute)]
      exact regained

theorem anyStale_of_mu {v : State} (mu : v.mu = u.mu) : v.anyStale = u.anyStale := by
  unfold State.anyStale State.member
  rw [mu]

theorem settle_rests (u : State) (b : Bool) :
    (((u.recompute.evaluateIf b).rested).mu = u.mu ∧
      ((u.recompute.evaluateIf b).rested).ct.adoptionPending = u.ct.adoptionPending ∧
      (u.mu.station = .resync → u.anyStale = true)) ∨
    u.mu.station = .resync ∧ u.anyStale = false ∧ ((u.recompute.evaluateIf b).rested).mu = u.regained.mu ∧
      ((u.recompute.evaluateIf b).rested).ct.adoptionPending = false ∧
      ((u.recompute.evaluateIf b).rested).hasEvent .syncRegained = true := by
  have mu : (u.recompute.evaluateIf b).mu = u.mu := (State.evaluateIf_mu _ b).trans u.recompute_mu
  have ct : (u.recompute.evaluateIf b).ct.adoptionPending = u.ct.adoptionPending := by
    rw [State.evaluateIf_ct, u.recompute_ct]
  have rests := (u.recompute.evaluateIf b).rested_rests
  rw [anyStale_of_mu mu, State.regained_mu, mu, ct, ← State.regained_mu] at rests
  exact rests

theorem member_regained (u : State) (a : Addr) : u.regained.member a = (u.member a).map fun m => { m with stale := false } :=
  member_clearStale ((u.setStation .synced).raise .syncRegained) a

theorem settle_fresh (b : Bool) {a : Addr} (fresh : ∀ m ∈ u.member a, m.stale = false) :
    ∀ m ∈ ((u.recompute.evaluateIf b).rested).member a, m.stale = false := by
  rcases settle_rests u b with ⟨mu, -⟩ | ⟨-, -, mu, -⟩
  · unfold State.member at fresh ⊢
    rw [mu]
    exact fresh
  · have member : ((u.recompute.evaluateIf b).rested).member a = u.regained.member a := by
      unfold State.member
      rw [mu]
    rw [member, member_regained]
    intro m found
    obtain ⟨o, -, rfl⟩ := Option.map_eq_some_iff.1 found
    rfl

theorem settle_member_of_fresh (b : Bool) {a : Addr} (fresh : ∀ m ∈ u.member a, m.stale = false) :
    ((u.recompute.evaluateIf b).rested).member a = u.member a := by
  have same := settle_member u b a
  have fresh' := settle_fresh b fresh
  generalize ((u.recompute.evaluateIf b).rested).member a = o at *
  cases found : u.member a with
  | none =>
    rw [found] at same
    exact Option.map_eq_none_iff.1 same
  | some m =>
    rw [found] at same
    obtain ⟨m', found', shape⟩ := Option.map_eq_some_iff.1 same
    have stale := fresh m found
    have stale' := fresh' m' found'
    rw [found']
    congr 1
    cases m
    cases m'
    subst stale stale'
    exact shape

theorem settle_view (u : State) (b : Bool) : ((u.recompute.evaluateIf b).rested).ct.capacityView = u.ct.capacityView ∧
    ((u.recompute.evaluateIf b).rested).ct.announcedSet = u.ct.announcedSet := by
  have kept := (u.recompute.evaluateIf b).rested_ct
  refine ⟨(view_of_adoption kept).trans ?_, (announcedSet_of_adoption kept).trans ?_⟩
  · rw [State.evaluateIf_ct, u.recompute_ct]
  · rw [State.evaluateIf_ct, u.recompute_ct]

theorem settle_viewFormed (b : Bool) (formed : u.ViewFormed) : ((u.recompute.evaluateIf b).rested).ViewFormed := by
  obtain ⟨view, set⟩ := settle_view u b
  refine viewFormed_of_parts view set (fun a => ?_) formed
  have same := congrArg (Option.map Member.capacity) (settle_member u b a)
  rw [Option.map_map, Option.map_map] at same
  exact same

/-! ### An applied BEAT -/

section
variable {a : Addr} {seq : Seq} {b : BeatBody} (intro' : s.Introduced u a seq b)
include intro'

theorem State.Introduced.station : u.mu.station = s.mu.station := by
  rw [intro'.mu]

theorem State.Introduced.cause : u.mu.cause = s.mu.cause := by
  rw [intro'.mu]

theorem State.Introduced.orphans : u.mu.orphans = s.keptOrphans a := by
  rw [intro'.mu]

theorem State.Introduced.own : u.own = s.own := own_rested intro'.straps

variable (beaten : u.Beaten x a b) (p : Bool)
include beaten

/-- R34–R36: the notices after a BEAT. -/
theorem State.Beaten.noticesTaken : s.NoticesTaken ((x.recompute.evaluateIf p).rested) x.ct.table := by
  have straps := beaten.straps.trans intro'.straps
  rcases beaten.runs with ⟨rm, chans, -⟩ | ⟨y, r, rm, chans, rm', chans', halted⟩
  · exact noticesTaken_of_plain (rm.trans intro'.rm) (chans.trans intro'.chans) (beaten.station.trans intro'.station) straps rfl
  · refine noticesTaken_of_halted (by rw [halted]; nofun) straps fun runs one c slow run found flows drives => ?_
    have chan := chan_of_chans (chans.trans intro'.chans) c
    have tidy : y.Tidy := tidy_of_rm (s := s) (congrArg RunUnit.pool (rm.trans intro'.rm)) (State.tidy_of_sound runs one)
    have head : y.head c = some run := by
      unfold State.head
      rw [rm, intro'.rm]
      exact found
    rw [← chan] at slow drives ⊢
    have shutting := tidy.enterHalted_shuts r HaltUnit.clearRound head flows drives slow
    have slowly := (confirmed_enterHalted y r HaltUnit.clearRound c).trans slow
    rw [chan_of_chans chans' c]
    exact ⟨slowly, shutting.2⟩

theorem State.Beaten.reallocated : s.Reallocated ((x.recompute.evaluateIf p).rested) x.ct.table :=
  ⟨recomputedFrom_rested x p, beaten.noticesTaken intro' p⟩

/-- R134, R126, R11: the sender's record after a BEAT. -/
theorem State.Beaten.record : ∃ m, ((x.recompute.evaluateIf p).rested).member a = some m ∧
    m.weight = max 1 (min 4 b.weight.toNat) ∧ m.cap = max 1 b.cap.toNat ∧ m.capacity = max 1 b.capacity.toNat ∧ m.lastSeq = seq ∧
    m.heard = s.clock.seconds ∧ m.stale = false ∧ m.silence = (if a = s.own then none else some 6000) ∧ m.silent = false ∧
    m.gauge = (readGauge b.gauge).getD (s.gaugeOf a) := by
  obtain ⟨m, found, weight, cap, capacity, lastSeq, heard, silence, silent, gauge⟩ := intro'.member
  have member : x.member a = some { m with stale := false } := by
    rw [beaten.member, if_pos rfl, found]
    rfl
  refine ⟨{ m with stale := false }, ?_, weight, cap, capacity, lastSeq, heard, rfl, silence, silent, gauge⟩
  rw [settle_member_of_fresh p, member]
  rw [member]
  rintro _ ⟨⟩
  rfl

omit intro' in
/-- R8, R30: the sender's entries after a BEAT, with their marks. -/
theorem State.Beaten.entry {c : Chan} {e : Entry} (found : e ∈ slot ((x.recompute.evaluateIf p).rested).ct.table a c) :
    (e.latched = true → e.phase = .asking ∧ ((x.recompute.evaluateIf p).rested).hu.halt = .none ∧
      ((x.recompute.evaluateIf p).rested).mu.orphans = []) ∧
    (((x.recompute.evaluateIf p).rested).hu.halt = .none → ((x.recompute.evaluateIf p).rested).mu.orphans = [] →
      (lastRead true b.entries c).any Entry.latched = true → e.latched = true) ∧
    ((lastRead true b.entries c).any Entry.latched = false → e.latched = true →
      e.placed = true ∧ ((x.recompute.evaluateIf p).rested).alloc.drain = true) := by
  obtain ⟨o, old, rfl⟩ := settle_slot found
  rw [beaten.table, slot_replaceEntries, lastRead_marked] at old
  obtain ⟨i, read, rfl⟩ := Option.map_eq_some_iff.1 old
  rw [read, settle_alloc, settle_orphans]
  obtain ⟨q, hu⟩ := settle_hu x p
  have halt : ((x.recompute.evaluateIf p).rested).hu.halt = x.hu.halt := by rw [hu]
  have latch := x.remark_latched_iff (a, c) (i.marked (x.hu.halt == .none && x.mu.orphans.isEmpty))
  rw [x.remark_phase] at latch ⊢
  have asks : i.latched = true → i.phase = .asking := by
    obtain ⟨y, same, rfl⟩ := Option.map_eq_some_iff.1 read
    have member := List.mem_reverse.1 (List.mem_of_find?_eq_some same)
    obtain ⟨item, -, value⟩ := List.mem_filterMap.1 member
    exact (sound_of_readItem value).2.2
  have mark : (i.marked (x.hu.halt == .none && x.mu.orphans.isEmpty)).latched =
      ((x.hu.halt == .none && x.mu.orphans.isEmpty) && i.latched) := rfl
  have phase : (i.marked (x.hu.halt == .none && x.mu.orphans.isEmpty)).phase = i.phase := rfl
  rw [mark, phase] at latch
  rw [phase, halt, Option.any_some]
  clear found old read hu halt mark phase
  generalize x.remark (a, c) _ = e at *
  generalize x.allocate.result.drain = drain at *
  refine ⟨fun latched => ?_, fun none' empty marked => ?_, fun plain latched => ?_⟩
  · obtain ⟨none', empty, had | ⟨-, asking, -⟩⟩ := latch.1 latched
    · exact ⟨asks (by simp_all), none', empty⟩
    · exact ⟨asking, none', empty⟩
  · exact latch.2 ⟨none', empty, .inl (by simp [none', empty, marked])⟩
  · obtain ⟨-, -, had | ⟨placed, -, drains⟩⟩ := latch.1 latched
    · rw [plain, Bool.and_false] at had
      cases had
    · exact ⟨placed, drains⟩

omit intro' in
theorem State.Beaten.says (c : Chan) : ((x.recompute.evaluateIf p).rested).says a c =
    (((b.entries.filterMap (readItem false)).reverse.find? fun i => i.1 == c).map fun i => i.2.said) := by
  rw [settle_says, beaten.table, slot_replaceEntries, lastRead_said]
  unfold lastRead
  rw [Option.map_map]
  rfl

theorem State.Beaten.slot_other {d : Addr} (other : d ≠ a) (c : Chan) : slot x.ct.table d c = slot s.ct.table d c := by
  rw [beaten.table, slot_replaceEntries_ne _ _ _ _ other, intro'.ct]

theorem State.Beaten.isMember (d : Addr) : ((x.recompute.evaluateIf p).rested).isMember d = (s.isMember d || d == a) := by
  rw [settle_isMember, ← intro'.isMember]
  have member := beaten.member d
  unfold State.isMember
  rw [member]
  split
  · exact Option.isSome_map
  · rfl

theorem State.Beaten.beatEntered :
    s.BeatEntered ((x.recompute.evaluateIf p).rested) a seq b (if a = s.own then none else some 6000) := by
  refine ⟨beaten.record intro' p, beaten.says p, fun c e found => ?_, fun d other c => ?_, fun d other => ?_, x.ct.table,
    beaten.reallocated intro' p, fun c => ?_, fun d other c => beaten.slot_other intro' other c⟩
  · have entry := beaten.entry p found
    rw [lastRead_latched] at entry
    exact entry
  · refine (settle_says x p d c).trans ?_
    rw [beaten.slot_other intro' other]
    rfl
  · rw [beaten.isMember intro', beq_false_of_ne other, Bool.or_false]
  · obtain ⟨q, hu⟩ := settle_hu x p
    rw [settle_orphans, hu, beaten.table, slot_replaceEntries]
    rfl

end

end Sys2Proof.Machine
end

section
/-!
SUPPORT. What the station keeps of what it has to tell: the announced records with their CLAIMs, the keys pending in the outbound set,
and a HALT that is pending (R82, R84, R128, R154), through everything that does not empty the set.
-/

namespace Sys2Proof.Machine

variable {s t u v : State}

/-! ### Keys of the outbound set -/

theorem sameKey_insertOut {f g : OutFrame} {out : List OutFrame} (held : ∃ x ∈ out, x.sameKey g = true) :
    ∃ x ∈ insertOut f out, x.sameKey g = true := by
  induction out with
  | nil =>
    obtain ⟨x, member, -⟩ := held
    cases member
  | cons h out ih =>
    obtain ⟨x, member, same⟩ := held
    unfold insertOut
    split
    · next combined =>
      rcases List.mem_cons.1 member with rfl | later
      · exact ⟨_, List.mem_cons_self, (OutFrame.combine_sameKey _ _ g combined).trans same⟩
      · exact ⟨x, List.mem_cons_of_mem _ later, same⟩
    · rcases List.mem_cons.1 member with rfl | later
      · exact ⟨x, List.mem_cons_self, same⟩
      · obtain ⟨y, member', same'⟩ := ih ⟨x, later, same⟩
        exact ⟨y, List.mem_cons_of_mem _ member', same'⟩

theorem drop_of_sameKey {f : OutFrame} {a : Addr} (same : f.sameKey (.drop a) = true) : f = .drop a := by
  cases f with
  | drop b => rw [eq_of_beq (α := Addr) same]
  | _ => cases same

/-! ### The relation -/

/-- From `s` to `t` the station keeps what it has to tell: each announced record is the one it was, with the CLAIM that was pending,
or the one that the CLAIM now pending leaves; each key pending in the outbound set is still pending, and so is a HALT by each
reason. -/
structure State.Spoken (s t : State) : Prop where
  told : ∀ c, (t.chan c).announced = (s.chan c).announced ∧ pendingClaim t.bus.outbound c = pendingClaim s.bus.outbound c ∨
    ∃ k, pendingClaim t.bus.outbound c = some k ∧ (t.chan c).announced = k.announces
  keys : ∀ g, (∃ f ∈ s.bus.outbound, f.sameKey g = true) → ∃ f ∈ t.bus.outbound, f.sameKey g = true
  urges : ∀ n, s.Urges n → t.Urges n

namespace State.Spoken

theorem of_parts (out : t.bus.outbound = s.bus.outbound) (chans : ∀ c, (t.chan c).announced = (s.chan c).announced) : s.Spoken t := by
  refine ⟨fun c => .inl ⟨chans c, by rw [out]⟩, fun g held => ?_, fun n urged => ?_⟩
  · rw [out]
    exact held
  · unfold State.Urges State.HaltPending at urged ⊢
    rw [out]
    exact urged

theorem refl (s : State) : s.Spoken s := of_parts rfl fun _ => rfl

theorem trans (h : s.Spoken u) (k : u.Spoken t) : s.Spoken t := by
  refine ⟨fun c => ?_, fun g held => k.keys g (h.keys g held), fun n urged => k.urges n (h.urges n urged)⟩
  rcases k.told c with ⟨said, pending⟩ | new
  · rcases h.told c with ⟨said', pending'⟩ | ⟨m, pending', said'⟩
    · exact .inl ⟨said.trans said', pending.trans pending'⟩
    · exact .inr ⟨m, pending.trans pending', said.trans said'⟩
  · exact .inr new

theorem of_plant (plant : t.plant = s.plant) : s.Spoken t :=
  of_parts (congrArg BusUnit.outbound (bus_of_plant plant)) fun c =>
    congrArg Channel.announced (chan_of_chans (chans_of_plant plant) c)

theorem enqueue (s : State) {f : OutFrame} (other : f.isClaim = false) : s.Spoken (s.enqueue f) := by
  refine ⟨fun c => .inl ⟨congrArg Channel.announced (s.enqueue_chan f c), ?_⟩, fun g held => ?_, fun n urged => urged.enqueue f⟩
  · unfold State.enqueue
    split
    · exact pendingClaim_insertOut_other other c _
    · rfl
  · unfold State.enqueue
    split
    · exact sameKey_insertOut held
    · exact held

theorem queueClaim (s : State) (c : Chan) (k : ClaimContent) : s.Spoken (s.queueClaim c k) := by
  by_cases loud : s.mu.station.silent = false
  · refine ⟨fun d => ?_, fun g held => ?_, fun n urged => urged.queueClaim c k⟩
    · by_cases here : c = d
      · subst here
        exact .inr ⟨k, State.pendingClaim_queueClaim loud c k, State.announced_queueClaim loud c k⟩
      · refine .inl ⟨congrArg Channel.announced (s.queueClaim_chan_ne k here), ?_⟩
        rw [State.queueClaim_of_loud loud]
        exact (pendingClaim_insertOut c d k _).trans (if_neg here)
    · rw [State.queueClaim_of_loud loud]
      exact sameKey_insertOut held
  · have shape : s.queueClaim c k = s := if_pos (Bool.not_eq_false _ ▸ loud)
    rw [shape]
    exact refl s

theorem of_runMove (move : RunMove s t) : s.Spoken t := by
  cases move with
  | claim c k => exact queueClaim s c k
  | pool p same => exact of_parts rfl fun _ => rfl
  | valve c ch bare announced =>
    refine of_parts rfl fun d => ?_
    by_cases here : c = d
    · subst here
      rw [State.chan_setChan_same]
      exact announced
    · rw [State.chan_setChan_ne _ _ here]
  | remove r b live => exact of_parts rfl fun _ => rfl

theorem of_runSide (chain : RunSide s t) : s.Spoken t :=
  chain.keep (P := fun w => s.Spoken w) (fun _ _ move sofar => sofar.trans (of_runMove move)) (refl s)

theorem fold {α : Type} (op : State → α → State) (each : ∀ s x, State.Spoken s (op s x)) (xs : List α) (s : State) :
    s.Spoken (xs.foldl op s) :=
  List.foldlRecOn xs op (motive := fun t => s.Spoken t) (refl s) fun _ sofar x _ => sofar.trans (each _ x)

theorem settle (u : State) (b : Bool) : u.Spoken (u.recompute.evaluateIf b) := by
  have copied : u.Spoken u.written := of_parts rfl fun c => congrArg Channel.announced (u.written_chan c)
  have chain : RunSide u.written u.recompute := RunSide.recompute u
  exact copied.trans ((of_runSide chain).trans (of_runSide (RunSide.evaluateIf _ b)))

theorem enterSynced (u : State) : u.Spoken u.enterSynced := by
  have regained : u.Spoken u.regained := of_parts rfl fun _ => rfl
  have dropped : ∀ w : State, w.Spoken w.dropSilent := fun w => by
    unfold State.dropSilent
    refine fold _ (fun w a => ?_) _ w
    split
    · unfold State.queueDrop
      split
      · exact refl w
      · exact enqueue w rfl
    · exact refl w
  have sofar := regained.trans ((of_runSide (RunSide.announceAll u.regained)).trans (dropped _))
  unfold State.enterSynced
  dsimp only
  split
  · exact sofar.trans (enqueue _ rfl)
  · exact sofar

theorem staleTest (u : State) : u.Spoken u.staleTest := by
  rcases u.staleTest_cases with same | ⟨-, -, synced⟩
  · rw [same]
    exact refl u
  · rw [synced]
    exact enterSynced u

theorem closing (u : State) : u.Spoken u.closing := by
  have acked : ∀ w : State, w.Spoken w.ackTest := fun w => by
    unfold State.ackTest
    split
    · exact (enqueue w (f := .haltAck w.stuckMask) rfl).trans (of_parts rfl fun _ => rfl)
    · exact refl w
  have left : ∀ w : State, w.Spoken w.leaveTest := fun w => by
    unfold State.leaveTest
    split
    · exact enqueue w rfl
    · exact refl w
  exact (of_runSide (RunSide.announceAll u)).trans ((acked _).trans (left _))

theorem rested (u : State) : u.Spoken u.rested := (staleTest u).trans (closing _)

theorem loseSync (u : State) : u.Spoken u.loseSync := by
  have losing : u.Spoken u.losing := of_plant ((State.setAdoption_plant _ _).trans ((State.markStale_plant _).trans
    ((State.raise_plant _ _).trans (State.setStation_plant _ _))))
  exact losing.trans (of_runSide (RunSide.closeAll u.losing .resync))

theorem restartMarking (u : State) : u.Spoken u.restartMarking :=
  (of_plant ((State.setAdoption_plant _ _).trans (State.markStale_plant _))).trans (staleTest _)

/-! ### Appliers -/

theorem enterHalted (u : State) (r : BitVec 4) (f : HaltUnit → HaltUnit) : u.Spoken (u.enterHalted r f) := by
  have halting : u.Spoken (u.halting r f) := of_plant ((State.raise_plant _ _).trans ((State.testRound_plant _).trans
    (State.setHu_plant _ _)))
  rw [u.enterHalted_eq]
  exact halting.trans (of_runSide (RunSide.closeAll _ _))

theorem applyHalt (u : State) (r : BitVec 4) : u.Spoken (u.applyHalt r) := by
  unfold State.applyHalt
  split
  · exact of_parts rfl fun _ => rfl
  · split <;> exact enterHalted u _ _

theorem applyRelease (u : State) : u.Spoken u.applyRelease := by
  by_cases halted : u.hu.halt = .halted
  · have turned : u.Spoken u.turnToSettling := of_plant ((State.raise_plant _ _).trans ((State.testSettle_plant _).trans
      (State.setHu_plant _ _)))
    rw [u.applyRelease_eq halted]
    split
    · exact turned.trans (enqueue _ rfl)
    · exact turned
  · rw [u.applyRelease_of_not_halted halted]
    exact refl u

theorem adoptHalt (u : State) (k : HaltState) (r : BitVec 4) : u.Spoken (u.adoptHalt k r) := by
  unfold State.adoptHalt
  split
  · exact of_plant ((State.raiseIf_plant _ _ _).trans (State.setHu_plant _ _))
  · split
    · exact of_parts rfl fun _ => rfl
    · exact enterHalted u _ _
  · exact of_plant ((State.raiseIf_plant _ _ _).trans (State.setHu_plant _ _))

theorem mergeHalt (u : State) (k : HaltState) (r : BitVec 4) : u.Spoken (u.mergeHalt k r) := by
  unfold State.mergeHalt
  split
  · exact of_parts rfl fun _ => rfl
  · split
    · exact refl u
    · exact enterHalted u _ _
  · exact refl u

theorem beatView (u : State) (a : Addr) (b : BeatBody) (adopt : Bool) : u.Spoken (u.beatView a b adopt) := by
  have listed : ∀ c os, u.Spoken ((u.setCt c).setOrphans os) := fun c os =>
    of_plant ((State.setOrphans_plant _ os).trans (State.setCt_plant u c))
  have adopted : u.Spoken (u.adoptView b) := (listed _ _).trans (adoptHalt _ _ _)
  have merged : u.Spoken (u.mergeView a b) :=
    (listed _ _).trans ((mergeHalt _ _ _).trans (of_plant (State.raiseIf_plant _ _ _)))
  unfold State.beatView
  split
  · exact refl u
  · exact refl u
  · exact refl u
  · split
    · exact adopted
    · exact merged

theorem beating (u : State) (a : Addr) (b : BeatBody) : u.Spoken (u.beating a b) :=
  (beatView u a b u.ct.adoptionPending).trans (of_plant ((State.refreshView_plant _).trans
    ((State.modMember_plant _ a _).trans ((State.setCt_plant _ _).trans (State.settleRemoval_plant _ a)))))

end State.Spoken

/-! ### R84 -/

/-- R82, R84: a state that holds its derivations and keeps what the station has to tell has announced them. -/
theorem State.Spoken.reannounced (spoken : s.Spoken t) (holds : ∀ c, t.Holds c) : s.Reannounced t := by
  refine fun c => ⟨fun k derived => ?_, fun derived k said => ?_⟩
  · obtain ⟨live, -⟩ := holds c
    have now := live k derived
    refine ⟨now, fun other => ?_⟩
    rcases spoken.told c with ⟨same, -⟩ | ⟨m, pending, said⟩
    · exact absurd (same.symm.trans now) other
    · rw [pending]
      cases m with
      | live p l d =>
        rw [now] at said
        cases said
        rfl
      | gone l cause =>
        rw [now] at said
        cases said
  · obtain ⟨-, gone⟩ := holds c
    obtain ⟨l, now⟩ := gone derived
    rcases spoken.told c with ⟨same, -⟩ | ⟨m, pending, said'⟩
    · rw [said, now] at same
      cases same
    · cases m with
      | live p l d =>
        rw [now] at said'
        cases said'
      | gone l cause => exact ⟨l, cause, pending⟩

theorem State.closing_holds {u : State} (loud : u.mu.station.silent = false) (c : Chan) : u.closing.Holds c := by
  have holds := State.conclude_holds loud c
  rw [State.conclude_of_not_quits (State.not_quits_of_loud loud)] at holds
  exact holds

end Sys2Proof.Machine
end

section
/-!
SUPPORT. An applied BEAT as one step, and its view part.
-/

namespace Sys2Proof.Machine

variable {s h u x : State}

/-! ### The step -/

section
variable {a : Addr} {seq : Seq} {b : BeatBody} (heard : s.Heard h ⟨a, seq, .beat b⟩) (known : s.isMember a = true ∨ a ≠ s.own)
include heard known

theorem State.Heard.introducing_plant : (h.introducing a seq b).plant = h.plant := by
  unfold State.introducing
  refine (State.modMember_plant _ a _).trans ?_
  unfold State.beatStation
  split
  · exact State.modMember_plant h a _
  · next stranger =>
    have apart := known.resolve_left fun member => stranger ((heard.isMember a).trans member)
    unfold State.addMember
    rw [if_neg fun both => apart (both.1.trans heard.own)]
    exact (State.dropOrphan_plant _ a).trans rfl

theorem State.Heard.introduced : s.Introduced (h.introducing a seq b) a seq b := by
  cases member : s.isMember a with
  | true => exact heard.introduced_member member
  | false => exact heard.introduced_stranger member (known.resolve_left (by rw [member]; nofun))

/-- R7: an applied BEAT by its stages, where its first stage is no entry to SYNCED. -/
theorem State.Heard.beat : ∃ u x : State, s.Introduced u a seq b ∧ u.Beaten x a b ∧
    { x.bus with outbound := [] } = { h.bus with outbound := [] } ∧ s.Spoken x ∧ h.bodied ⟨a, seq, .beat b⟩ = x ∧
      h.answered ⟨a, seq, .beat b⟩ = x.recompute.evaluateIf (evaluationDue ⟨a, seq, .beat b⟩ h x) := by
  have intro' := heard.introduced known
  have plant := heard.introducing_plant known
  have shape : h.bodied ⟨a, seq, .beat b⟩ = (h.introducing a seq b).beating a b :=
    State.applyBeat_of_introduced (intro'.ct.trans heard.ct.symm)
  have beaten := (h.introducing a seq b).beating_beaten a b
  have spoken : s.Spoken h := .of_parts heard.outbound fun c => congrArg Channel.announced (heard.chan c)
  refine ⟨_, _, intro', beaten, beaten.bus.trans (by rw [bus_of_plant plant]), spoken.trans ((State.Spoken.of_plant plant).trans
    (.beating _ a b)), shape, ?_⟩
  unfold State.answered
  rw [shape]

end

theorem State.HaltsOr.stalls (halts : u.HaltsOr x) {c : Chan} (stalled : (u.chan c).stalled) : (x.chan c).mute = (u.chan c).mute := by
  rcases halts with ⟨-, chans, -⟩ | ⟨y, r, -, chans, -, chans', -⟩
  · rw [chan_of_chans chans c]
  · rw [chan_of_chans chans' c, ← chan_of_chans chans c]
    rw [← chan_of_chans chans c] at stalled
    exact Held.enterHalted y r HaltUnit.clearRound c stalled

theorem State.Beaten.staysOnFrame {a : Addr} {seq : Seq} {b : BeatBody} (beaten : u.Beaten x a b) (intro' : s.Introduced u a seq b)
    (stays : s.StaysOnFrame) : x.StaysOnFrame := by
  refine stays.imp (fun stays => ?_) fun ⟨c, present, closing, slow⟩ => ⟨c, ?_⟩
  · unfold State.Stays
    rw [beaten.station, beaten.cause, intro'.station, intro'.cause]
    exact stays
  · have chan := chan_of_chans intro'.chans c
    rw [← chan] at present closing slow
    have mute := beaten.runs.stalls ⟨closing, slow⟩
    refine ⟨?_, Channel.stalled_of_mute mute ⟨closing, slow⟩⟩
    unfold Channel.present
    rw [settings_of_mute mute]
    exact present

/-- R7, R124: a BEAT of another station that the station applies. -/
theorem State.takeFrame_beat {a : Addr} {seq : Seq} {b : BeatBody} (hears : s.HearsBeat a seq b) : ∃ (u x : State) (p : Bool),
    s.Introduced u a seq b ∧ u.Beaten x a b ∧ x.bus.lastSender = a ∧ s.Spoken x ∧
      s.takeFrame a seq (.beat b) = (x.recompute.evaluateIf p).rested := by
  have next := State.next_of_hearsBeat hears
  obtain ⟨released, receives, other, station, stays, fits, -⟩ := hears
  have heard := s.hearing_heard ⟨a, seq, .beat b⟩
  obtain ⟨u, x, intro', beaten, bus, spoken, body, answered⟩ := heard.beat (.inr other)
  refine ⟨u, x, evaluationDue ⟨a, seq, .beat b⟩ (s.hearing ⟨a, seq, .beat b⟩) x, intro', beaten, (lastSender_of_silenced bus).trans heard.lastSender,
    spoken, ?_⟩
  rw [← answered]
  refine State.takeFrame_rested (f := ⟨a, seq, .beat b⟩) released receives other station fits next ?_
  rw [body]
  exact beaten.staysOnFrame intro' stays

/-! ### The view part -/

/-- R16, R17: no record of the own address or of a member enters the orphan list. -/
theorem afterRecord_apart {own d : Addr} {members : Addr → Bool} (barred : d = own ∨ members d = true) (items : List OrphanItem)
    (list : List Orphan) (apart : ∀ o ∈ list, o.station ≠ d) : ∀ o ∈ items.foldl (afterRecord own members) list, o.station ≠ d := by
  refine List.foldlRecOn _ _ (motive := fun l : List Orphan => ∀ o ∈ l, o.station ≠ d) apart fun l kept i _ => ?_
  unfold afterRecord
  split
  · split
    · exact kept
    · next small accepted =>
      intro o member
      rcases List.mem_append.1 member with old | new
      · exact kept o old
      · rw [List.mem_singleton.1 new]
        rintro rfl
        exact accepted (barred.elim .inl fun m => .inr (.inl m))
  · exact kept

section
variable {a : Addr} {seq : Seq} {b : BeatBody} (intro' : s.Introduced u a seq b) (beaten : u.Beaten x a b) (p : Bool)
include intro' beaten

theorem State.Beaten.hasOrphan (unknown : s.isMember a = false) (config : s.mu.station ≠ .config) :
    ((x.recompute.evaluateIf p).rested).hasOrphan a = false := by
  have kept : ∀ o ∈ s.keptOrphans a, o.station ≠ a := fun o member => by
    rw [State.keptOrphans, if_neg (by rw [unknown]; nofun), List.mem_filter] at member
    simpa using member.2
  have member : u.isMember a = true := by rw [intro'.isMember]; simp
  have station := intro'.station
  have orphans : ∀ o ∈ x.mu.orphans, o.station ≠ a := by
    rw [← intro'.orphans] at kept
    by_cases ignored : u.mu.station = .isolated ∨ u.mu.station = .clash
    · obtain ⟨-, -, -, same, -⟩ := beaten.ignores ignored
      rw [same]
      exact kept
    · obtain ⟨isolated, clash⟩ := not_or.1 ignored
      rw [← station] at config
      cases pending : u.ct.adoptionPending with
      | true =>
        obtain ⟨-, -, -, same, -⟩ := beaten.adopts isolated clash config pending
        rw [same]
        exact afterRecord_apart (.inr member) _ _ nofun
      | false =>
        obtain ⟨-, -, -, same, -⟩ := beaten.merges isolated clash config pending
        rw [same]
        exact afterRecord_apart (.inr member) _ _ kept
  unfold State.hasOrphan
  rw [settle_orphans, List.any_eq_false]
  intro o found same
  exact orphans o found (beq_iff_eq.1 same)

/-- R15–R18, R13, R14: the view part of an applied BEAT. -/
theorem State.Beaten.viewTaken (config : s.mu.station ≠ .config) {kept : List Orphan} {members : Addr → Bool}
    (before : kept = s.keptOrphans a) (roster : ∀ d : Addr, members d = (s.isMember d || d == a)) :
    s.ViewTaken ((x.recompute.evaluateIf p).rested) a b kept members := by
  obtain rfl : members = u.isMember := funext fun d => (roster d).trans (intro'.isMember d).symm
  have station := intro'.station
  have orphans := intro'.orphans
  rw [← before] at orphans
  have own := intro'.own
  have ct := intro'.ct
  have view := intro'.heralds.view
  obtain ⟨-, set⟩ := settle_view x p
  have events := fun e other => settle_hasEvent x p (e := e) other
  have pending : x.ct.adoptionPending = false → ((x.recompute.evaluateIf p).rested).ct.adoptionPending = false := fun off => by
    rcases settle_rests x p with ⟨-, same, -⟩ | ⟨-, -, -, off', -⟩
    · exact same.trans off
    · exact off'
  have still : x.mu.station ≠ .resync → ((x.recompute.evaluateIf p).rested).ct.adoptionPending = x.ct.adoptionPending := fun other => by
    rcases settle_rests x p with ⟨-, same, -⟩ | ⟨resync, -⟩
    · exact same
    · exact absurd resync other
  rw [State.ViewTaken, settle_flags, settle_pointers, settle_orphans, set, events _ (by decide), events _ (by decide),
    events _ (by decide)]
  have formed := settle_viewFormed p beaten.formed
  generalize (x.recompute.evaluateIf p).rested = t at *
  have adopt := beaten.adopts
  have merge := beaten.merges
  have ignore := beaten.ignores
  rw [station, ct, view, own] at adopt merge
  rw [station, ct, view] at ignore
  refine ⟨fun ⟨adopts, here⟩ => ?_, fun ⟨merges, isolated, clash⟩ => ?_, fun ignored => ?_, fun turned => ?_, formed, ?_⟩
  · have apart : s.mu.station ≠ .isolated ∧ s.mu.station ≠ .clash := by
      rcases here with same | same
      · rw [same]
        exact ⟨nofun, nofun⟩
      · rw [same]
        exact ⟨nofun, nofun⟩
    obtain ⟨flags, pointers, off, list, merged, -⟩ := adopt apart.1 apart.2 config adopts
    exact ⟨flags, pointers, pending off, list, merged⟩
  · obtain ⟨flags, pointers, off, list, merged, -⟩ := merge isolated clash config merges
    rw [orphans, intro'.hu] at merged
    rw [orphans] at list
    exact ⟨flags, pointers, pending off, list, merged⟩
  · obtain ⟨flags, pointers, same, list, merged, -⟩ := ignore ignored
    refine ⟨flags, pointers, list.trans orphans, (still ?_).trans same, merged⟩
    rw [beaten.station, station]
    rcases ignored with same | same
    · rw [same]
      nofun
    · rw [same]
      nofun
  · by_cases same : x.mu.orphans.isEmpty = u.mu.orphans.isEmpty
    · refine beaten.keeps _ (intro'.freezes ?_)
      rw [← intro'.orphans, ← same]
      exact turned
    · exact beaten.freezes same
  · rw [beaten.capacity, intro'.heralds.capacity, ct]

end

end Sys2Proof.Machine
end

section
namespace Sys2Proof
open Sys2Proof.Machine

/-- Settles O30: the view part of an applied BEAT is adopted, merged or ignored. -/
theorem beatViewTaken : Obligations.BeatViewTaken := by
  unfold Obligations.BeatViewTaken
  intro s a seq b kept members hears before roster
  obtain ⟨u, x, p, intro', beaten, -, -, taken⟩ := State.takeFrame_beat hears
  refine ⟨_, rfl, ?_⟩
  rw [taken]
  obtain ⟨-, -, -, config, -⟩ := hears
  exact beaten.viewTaken intro' p config before roster

end Sys2Proof
end

section
/-!
SUPPORT. The halt part of an applied BEAT (R165–R168).
-/

namespace Sys2Proof.Machine

variable {s h u x : State}

theorem removeAddr_zero (a : Addr) : removeAddr 0 a = 0 := removeAddr_of_out (by simp [inSet])

theorem HaltUnit.unsettling_of_other {hu : HaltUnit} {a : Addr} (other : hu.halt ≠ .settling ∨ removeAddr hu.settle a ≠ 0) :
    hu.unsettling a = { hu with settle := removeAddr hu.settle a } :=
  HaltUnit.calmed_of_other { hu with settle := removeAddr hu.settle a } other

/-- R66, R158: a state in which no head flows keeps that through the end of a frame, where halt state is not NONE. -/
theorem quiet_settle (b : Bool) (tidy : x.Tidy) (halt : x.hu.halt ≠ .none) {c : Chan} (quiet : x.Quiet c) :
    ∀ r ∈ ((x.recompute.evaluateIf b).rested).head c, r.state ≠ .flowing := by
  have closes := tidy.recompute_closes halt
  have written : x.written.Quiet c := by
    unfold State.Quiet
    rw [State.written_rm]
    exact quiet
  have recomputed := closes.quiet tidy.written id written
  have settled : (x.recompute.evaluateIf b).Quiet c := by
    unfold State.evaluateIf
    split
    · exact (tidy.recompute.evaluate_chain (ends := fun _ => True) fun _ _ => trivial).quiet tidy.recompute id recomputed
    · exact recomputed
  intro r found
  obtain ⟨live, here, -⟩ := State.mem_of_head found
  rw [State.rested_rm] at live
  exact settled r live here

/-- R167: the settle set of an adopted SETTLING. -/
def State.settling (u : State) : BitVec 16 := insertAddr u.rosterSet u.own

section
variable (u : State) (r : BitVec 4) (a : Addr)

theorem State.adopting_none : (u.adopting .none r).unsettling a =
    { u.hu.clearRound with halt := .none, reasons := 0, settle := 0, ackPending := false } := by
  refine (HaltUnit.unsettling_of_other (.inl (show HaltState.none ≠ .settling by decide))).trans ?_
  show { u.hu.clearRound with halt := .none, reasons := 0, settle := removeAddr 0 a, ackPending := false } = _
  rw [removeAddr_zero]

theorem State.adopting_settling (left : removeAddr u.settling a ≠ 0) : (u.adopting .settling r).unsettling a =
    { u.hu.clearRound with halt := .settling, reasons := r, ackPending := false, settle := removeAddr u.settling a } :=
  HaltUnit.unsettling_of_other (.inr left)

theorem State.adopting_still (halted : u.hu.halt = .halted) : (u.adopting .halted r).unsettling a =
    { u.hu with reasons := r, settle := 0 } := by
  have shape : u.adopting .halted r = { u.hu with reasons := r, settle := 0 } := if_pos halted
  rw [shape]
  refine (HaltUnit.unsettling_of_other (.inl ?_)).trans ?_
  · show u.hu.halt ≠ .settling
    rw [halted]
    decide
  · show { u.hu with reasons := r, settle := removeAddr 0 a } = _
    rw [removeAddr_zero]

theorem State.adopting_entry (other : u.hu.halt ≠ .halted) : (u.adopting .halted r).unsettling a =
    { u.hu.clearRound with
      halt := .halted, reasons := r, settle := 0, ackPending := u.hu.ackPending || u.mu.station.active } := by
  have shape : u.adopting .halted r = { u.hu.clearRound with
      halt := .halted, reasons := r, settle := 0, ackPending := u.hu.ackPending || u.mu.station.active } := if_neg other
  rw [shape]
  refine (HaltUnit.unsettling_of_other (.inl (show HaltState.halted ≠ .settling by decide))).trans ?_
  show { u.hu.clearRound with
    halt := .halted, reasons := r, settle := removeAddr 0 a, ackPending := u.hu.ackPending || u.mu.station.active } = _
  rw [removeAddr_zero]

theorem State.merging_still (halted : u.hu.halt = .halted) : (u.merging .halted r).unsettling a =
    { u.hu with reasons := u.hu.reasons ||| r, settle := removeAddr u.hu.settle a } := by
  have shape : u.merging .halted r = { u.hu with reasons := u.hu.reasons ||| r } := (if_pos rfl).trans (if_pos halted)
  rw [shape]
  refine HaltUnit.unsettling_of_other (hu := { u.hu with reasons := u.hu.reasons ||| r }) (.inl ?_)
  show u.hu.halt ≠ .settling
  rw [halted]
  decide

theorem State.merging_entry (other : u.hu.halt ≠ .halted) : (u.merging .halted r).unsettling a =
    { u.hu.clearRound with
      halt := .halted, reasons := r ||| reasonMerge, settle := 0, ackPending := u.hu.ackPending || u.mu.station.active } := by
  have shape : u.merging .halted r = { u.hu.clearRound with
      halt := .halted, reasons := r ||| reasonMerge, settle := 0
      ackPending := u.hu.ackPending || u.mu.station.active } := (if_pos rfl).trans (if_neg other)
  rw [shape]
  refine (HaltUnit.unsettling_of_other (.inl (show HaltState.halted ≠ .settling by decide))).trans ?_
  show { u.hu.clearRound with
    halt := .halted, reasons := r ||| reasonMerge, settle := removeAddr 0 a
    ackPending := u.hu.ackPending || u.mu.station.active } = _
  rw [removeAddr_zero]

theorem State.merging_of_other {k : HaltState} (other : k ≠ .halted) : u.merging k r = u.hu := if_neg other

end

section
variable {a : Addr} {seq : Seq} {b : BeatBody} (intro' : s.Introduced u a seq b) (beaten : u.Beaten x a b) (p : Bool)
include intro' beaten

/-- R166, R168: an entry to HALTED by a BEAT leaves no head flowing. -/
theorem State.Beaten.quiet (runs : s.RunsSound) (one : s.OneHead) (halted : x.hu.halt = .halted) (other : s.hu.halt ≠ .halted)
    (c : Chan) : ∀ r ∈ ((x.recompute.evaluateIf p).rested).head c, r.state ≠ .flowing := by
  rcases beaten.runs with ⟨-, -, still⟩ | ⟨y, r, rm, -, rm', -⟩
  · exact absurd (intro'.hu ▸ still halted) other
  · have tidy : y.Tidy := tidy_of_rm (s := s) (congrArg RunUnit.pool (rm.trans intro'.rm)) (State.tidy_of_sound runs one)
    have neat : x.Tidy := tidy_of_rm (congrArg RunUnit.pool rm') (tidy.enterHalted r HaltUnit.clearRound)
    have quiet : x.Quiet c := by
      unfold State.Quiet
      rw [rm']
      exact tidy.enterHalted_quiet r HaltUnit.clearRound c
    exact quiet_settle p neat (by rw [halted]; nofun) quiet

/-- R166: what an entry to HALTED by a BEAT leaves, by the halt unit it writes. -/
theorem State.Beaten.haltEntered (runs : s.RunsSound) (one : s.OneHead) (other : s.hu.halt ≠ .halted) {words : BitVec 4}
    (unit : x.hu = { s.hu.clearRound with
      halt := .halted, reasons := words, settle := 0, ackPending := s.hu.ackPending || s.mu.station.active }) :
    ((x.recompute.evaluateIf p).rested).hu.halt = .halted ∧ ((x.recompute.evaluateIf p).rested).hu.reasons = words ∧
      ((x.recompute.evaluateIf p).rested).hu.settle = 0 ∧ ((x.recompute.evaluateIf p).rested).hu.round = .none ∧
      ((x.recompute.evaluateIf p).rested).hu.roundTimer = none ∧
      ((x.recompute.evaluateIf p).rested).hasEvent .haltEntered = true ∧
      (∀ c : Chan, ∀ r ∈ ((x.recompute.evaluateIf p).rested).head c, r.state ≠ .flowing) ∧
      (s.mu.station.active = true → ((x.recompute.evaluateIf p).rested).hu.ackPending = true ∨
        OutFrame.haltAck ((x.recompute.evaluateIf p).rested).stuckMask ∈ ((x.recompute.evaluateIf p).rested).bus.outbound) := by
  have halted : x.hu.halt = .halted := by rw [unit]
  have quiet := beaten.quiet intro' p runs one halted other
  have event := (settle_hasEvent x p (e := .haltEntered) (by decide)).trans
    (beaten.entered halted (by rw [intro'.hu]; exact other))
  have owes : s.mu.station.active = true → _ := fun active => settle_owes x p (by rw [unit, active]; exact Bool.or_true _)
    (by rw [beaten.station, intro'.station]; exact active)
  obtain ⟨q, hu⟩ := settle_hu x p
  generalize (x.recompute.evaluateIf p).rested = t at *
  refine ⟨?_, ?_, ?_, ?_, ?_, event, quiet, owes⟩
  · rw [hu, unit]
  · rw [hu, unit]
  · rw [hu, unit]
  · rw [hu, unit]
    rfl
  · rw [hu, unit]
    rfl

/-- R165–R168: the halt part of an applied BEAT. -/
theorem State.Beaten.haltPartTaken (config : s.mu.station ≠ .config) (runs : s.RunsSound) (one : s.OneHead)
    (left : s.Adopts → ∃ d : Addr, d ≠ a ∧ (d = s.own ∨ s.isMember d = true)) :
    s.HaltPartTaken ((x.recompute.evaluateIf p).rested) a b := by
  have entry := fun other words unit => beaten.haltEntered intro' p runs one other (words := words) unit
  have clear := settle_hu_of_clear x p
  obtain ⟨q, hu⟩ := settle_hu x p
  have event := fun e other => settle_hasEvent x p (e := e) other
  have released := beaten.released
  have adopt := beaten.adopts
  have merge := beaten.merges
  have ignore := beaten.ignores
  have settling : removeAddr u.settling a ≠ 0 ∨ ¬ s.Adopts := by
    by_contra both
    obtain ⟨zero, adopts⟩ := not_or.1 both
    obtain ⟨d, apart, here⟩ := left (not_not.1 adopts)
    have bit := inSet_removeAddr u.settling a d
    rw [not_not.1 zero, State.settling, inSet_insertAddr, inSet_rosterSet, intro'.isMember, intro'.own] at bit
    rcases here with same | member
    · subst same
      simp [inSet, apart] at bit
    · simp [inSet, apart, member] at bit
  have settle : ∀ d : Addr, inSet (removeAddr u.settling a) d = (decide (d ≠ a) && (s.isMember d || d == s.own)) := fun d => by
    rw [inSet_removeAddr, State.settling, inSet_insertAddr, inSet_rosterSet, intro'.isMember, intro'.own]
    by_cases same : d = a
    · simp [same]
    · rw [beq_false_of_ne same, decide_eq_true (p := d ≠ a) same, beq_eq_decide]
      simp
  have none' := u.adopting_none (toReasons b.reasons) a
  have settled := u.adopting_settling (toReasons b.reasons) a
  have still := u.adopting_still (toReasons b.reasons) a
  have enter := u.adopting_entry (toReasons b.reasons) a
  have still' := u.merging_still (toReasons b.reasons) a
  have enter' := u.merging_entry (toReasons b.reasons) a
  have apart := u.merging_of_other (toReasons b.reasons) (k := toHaltState b.haltState)
  have station := intro'.station
  rw [station, intro'.ct] at adopt merge
  rw [station] at ignore enter enter'
  rw [intro'.hu] at none' settled still enter still' enter' apart ignore released
  have adopted : s.Adopts → x.hu = (u.adopting (toHaltState b.haltState) (toReasons b.reasons)).unsettling a := fun ⟨pending, here⟩ => by
    have apart : s.mu.station ≠ .isolated ∧ s.mu.station ≠ .clash := by
      rcases here with same | same
      · rw [same]
        exact ⟨nofun, nofun⟩
      · rw [same]
        exact ⟨nofun, nofun⟩
    obtain ⟨-, -, -, -, -, unit⟩ := adopt apart.1 apart.2 config pending
    exact unit
  have merged : s.Merges → x.hu = (u.merging (toHaltState b.haltState) (toReasons b.reasons)).unsettling a :=
    fun ⟨pending, isolated, clash⟩ => by
      obtain ⟨-, -, -, -, -, unit⟩ := merge isolated clash config pending
      exact unit
  have ignored : s.mu.station = .isolated ∨ s.mu.station = .clash → x.hu = s.hu.unsettling a := fun here => by
    obtain ⟨-, -, -, -, -, unit⟩ := ignore here
    exact unit
  clear adopt merge ignore left
  refine ⟨fun adopts zero => ?_, fun adopts two => ?_, fun adopts zero two => ?_, fun merges zero two => ?_, fun passed => ?_⟩
  · have unit := adopted adopts
    rw [zero, show toHaltState 0 = .none from rfl, none'] at unit
    have same := clear (by rw [unit])
    have event := event .haltReleased (by decide)
    generalize (x.recompute.evaluateIf p).rested = t at *
    rw [unit] at same
    rw [event, same]
    exact ⟨rfl, rfl, rfl, rfl, rfl, rfl, rfl, rfl, fun had => released had (by rw [unit]; nofun)⟩
  · have unit := adopted adopts
    rw [two, show toHaltState 2 = .settling from rfl, settled (settling.resolve_right (not_not.2 adopts))] at unit
    have same := clear (by rw [unit])
    have event := event .haltReleased (by decide)
    generalize (x.recompute.evaluateIf p).rested = t at *
    rw [unit] at same
    rw [event, same]
    exact ⟨rfl, rfl, rfl, rfl, rfl, settle, fun had => released had (by rw [unit]; nofun)⟩
  · have unit := adopted adopts
    rw [toHaltState_halted.2 ⟨zero, two⟩] at unit
    by_cases had : s.hu.halt = .halted
    · rw [still had] at unit
      generalize (x.recompute.evaluateIf p).rested = t at *
      rw [unit] at hu
      rw [hu]
      exact ⟨had, rfl, rfl, fun _ => ⟨rfl, rfl, rfl, rfl, rfl⟩, fun other => absurd had other⟩
    · rw [enter had] at unit
      obtain ⟨halt, words, empty, round, timer, raised, quiet, owes⟩ := entry had _ unit
      exact ⟨halt, words, empty, fun halted => absurd halted had, fun _ => ⟨round, timer, raised, quiet,
        fun resync => owes (by rw [resync]; rfl)⟩⟩
  · have unit := merged merges
    rw [toHaltState_halted.2 ⟨zero, two⟩] at unit
    by_cases had : s.hu.halt = .halted
    · rw [still' had] at unit
      generalize (x.recompute.evaluateIf p).rested = t at *
      rw [unit] at hu
      rw [hu]
      exact ⟨had, fun _ => ⟨rfl, rfl, rfl, rfl, rfl⟩, fun other => absurd had other⟩
    · rw [enter' had] at unit
      obtain ⟨halt, words, empty, round, timer, raised, quiet, owes⟩ := entry had _ unit
      exact ⟨halt, fun halted => absurd halted had, fun _ => ⟨words, empty, round, timer, raised, quiet, owes⟩⟩
  · have unit : x.hu = s.hu.unsettling a := by
      rcases passed with ⟨merges, code⟩ | here
      · rw [merged merges, apart]
        rintro same
        obtain ⟨zero, two⟩ := toHaltState_halted.1 same
        exact code.elim zero two
      · exact ignored here
    obtain ⟨round, ackSet, acked, missing, -, settle', -⟩ := HaltUnit.calmed_round { s.hu with settle := removeAddr s.hu.settle a }
    have empty := HaltUnit.calmed_of_empty { s.hu with settle := removeAddr s.hu.settle a }
    have other := HaltUnit.calmed_of_other { s.hu with settle := removeAddr s.hu.settle a }
    rw [show x.hu = HaltUnit.calmed { s.hu with settle := removeAddr s.hu.settle a } from unit] at hu
    generalize (x.recompute.evaluateIf p).rested = t at *
    generalize HaltUnit.calmed { s.hu with settle := removeAddr s.hu.settle a } = v at *
    rw [hu]
    refine ⟨settle', round, ackSet, acked, missing, fun settling zero => empty settling (settle'.symm.trans zero), fun rest => ?_⟩
    have same := other (rest.imp_right fun some' zero => some' (settle'.trans zero))
    dsimp only
    rw [same]
    exact ⟨rfl, rfl⟩

end

end Sys2Proof.Machine
end

section
namespace Sys2Proof
open Sys2Proof.Machine

/-- Settles O31: the halt part of an applied BEAT. -/
theorem beatHaltPartTaken : Obligations.BeatHaltPartTaken := by
  unfold Obligations.BeatHaltPartTaken
  intro s a seq b hears runs one
  obtain ⟨u, x, p, intro', beaten, -, -, taken⟩ := State.takeFrame_beat hears
  refine ⟨_, rfl, ?_⟩
  rw [taken]
  obtain ⟨-, -, other, config, -⟩ := hears
  exact beaten.haltPartTaken intro' p config runs one fun _ => ⟨s.own, other.symm, .inl rfl⟩

end Sys2Proof
end

section
/-!
SUPPORT. RESYNC (R143–R145): the entry to it, the marking of the other members, and the return to SYNCED.
-/

namespace Sys2Proof.Machine

variable {s t u v y : State}

/-! ### The stale marks -/

theorem State.anyStale_iff : v.anyStale = true ↔ ∃ a, ∃ m ∈ v.member a, m.stale = true := by
  unfold State.anyStale
  rw [List.any_eq_true]
  refine ⟨fun ⟨a, _, some'⟩ => ⟨a, ?_⟩, fun ⟨a, m, found, stale⟩ => ⟨a, mem_allAddrs a, ?_⟩⟩
  · cases found : v.member a with
    | none =>
      rw [found] at some'
      cases some'
    | some m =>
      rw [found] at some'
      exact ⟨m, rfl, some'⟩
  · rw [Option.mem_def.1 found]
    exact stale

theorem State.anyStale_eq_false : v.anyStale = false ↔ ∀ a, ∀ m ∈ v.member a, m.stale = false := by
  rw [← Bool.not_eq_true, State.anyStale_iff]
  push Not
  simp only [Bool.not_eq_true]

/-- R144: the mark of a stale member. -/
def Member.marked (m : Member) : Member := { m with stale := true }

theorem State.member_markStale (v : State) (a : Addr) :
    v.markStale.member a = if a = v.own then v.member a else (v.member a).map Member.marked := by
  have walk : ∀ (cs : List Addr) (w : State), w.own = v.own → (cs.foldl (fun s a => if a = s.own then s else
      s.modMember a fun m => { m with stale := true }) w).member a =
        if a = v.own ∨ a ∉ cs then w.member a else (w.member a).map Member.marked := by
    intro cs
    induction cs with
    | nil => exact fun w _ => (if_pos (.inr List.not_mem_nil)).symm
    | cons d cs ih =>
      intro w own
      rw [List.foldl_cons]
      by_cases self : d = w.own
      · rw [if_pos self, ih w own]
        have same : (a = v.own ∨ a ∉ cs) ↔ (a = v.own ∨ a ∉ d :: cs) := by
          rw [List.mem_cons, self, own]
          tauto
        exact if_congr same rfl rfl
      · rw [if_neg self, ih (w.modMember d fun m => { m with stale := true }) own, State.member_modMember]
        by_cases here : d = a
        · subst here
          rw [if_pos rfl, if_neg (not_or.2 ⟨fun same => self (same.trans own.symm), not_not.2 List.mem_cons_self⟩)]
          split
          · rfl
          · rw [Option.map_map]
            rfl
        · rw [if_neg here]
          have same : (a = v.own ∨ a ∉ cs) ↔ (a = v.own ∨ a ∉ d :: cs) := by
            rw [List.mem_cons, not_or]
            have : a ≠ d := fun same => here same.symm
            tauto
          exact if_congr same rfl rfl
  refine (walk allAddrs v rfl).trans (if_congr ?_ rfl rfl)
  have := mem_allAddrs a
  tauto

/-! ### The entry to RESYNC and the restart of the marking -/

/-- R144, R145: from `v` to `y` the station has come to RESYNC, or has restarted its marking there, before the test of the stale
set. -/
structure State.Doubtful (v y : State) : Prop where
  station : y.mu.station = .resync
  cause : y.mu.cause = v.mu.cause
  orphans : y.mu.orphans = v.mu.orphans
  member : ∀ a, y.member a = if a = v.own then v.member a else (v.member a).map Member.marked
  ct : y.ct = { v.ct with adoptionPending := true }
  hu : y.hu = v.hu
  alloc : y.alloc = v.alloc
  straps : y.straps = v.straps
  bus : { y.bus with outbound := [] } = { v.bus with outbound := [] }
  spoken : v.Spoken y

/-- R144: the state after an entry to RESYNC, before the test of the stale set. -/
def State.lapsed (v : State) : State := v.loseSync.announceAll

/-- R145: the state after a restart of the stale marking, before the test of the stale set. -/
def State.remarked (v : State) : State := v.markStale.setAdoption true

theorem State.markStale_mu (v : State) : v.markStale.mu = { v.mu with roster := v.markStale.mu.roster } := by
  unfold State.markStale
  refine List.foldlRecOn allAddrs _ (motive := fun w : State => w.mu = { v.mu with roster := w.mu.roster }) rfl
    fun w kept a _ => ?_
  split
  · exact kept
  · rw [State.modMember_mu, kept]

theorem State.markStale_ct (v : State) : v.markStale.ct = v.ct := by
  unfold State.markStale
  refine List.foldlRecOn allAddrs _ (motive := fun w : State => w.ct = v.ct) rfl fun w kept a _ => ?_
  split <;> exact kept

theorem State.markStale_events (v : State) : v.markStale.events = v.events := by
  unfold State.markStale
  refine List.foldlRecOn allAddrs _ (motive := fun w : State => w.events = v.events) rfl fun w kept a _ => ?_
  split <;> exact kept

section
variable (v : State) (b : Bool)
theorem State.setAdoption_mu : (v.setAdoption b).mu = v.mu := rfl
theorem State.setAdoption_ct : (v.setAdoption b).ct = { v.ct with adoptionPending := b } := rfl
theorem State.setAdoption_hu : (v.setAdoption b).hu = v.hu := rfl
theorem State.setAdoption_events : (v.setAdoption b).events = v.events := rfl
theorem State.setAdoption_member (a : Addr) : (v.setAdoption b).member a = v.member a := rfl
end

/-- R145: what a marking leaves. -/
theorem State.remarked_parts (v : State) : v.remarked.plant = v.plant ∧
    v.remarked.mu = { v.mu with roster := v.remarked.mu.roster } ∧ v.remarked.ct = { v.ct with adoptionPending := true } ∧
    v.remarked.hu = v.hu ∧ v.remarked.events = v.events ∧
    ∀ a, v.remarked.member a = if a = v.own then v.member a else (v.member a).map Member.marked := by
  unfold State.remarked
  refine ⟨(State.setAdoption_plant _ _).trans v.markStale_plant, ?_, ?_, ?_, ?_, fun a => ?_⟩
  · rw [State.setAdoption_mu]
    exact v.markStale_mu
  · rw [State.setAdoption_ct, v.markStale_ct]
  · rw [State.setAdoption_hu, v.markStale_hu]
  · rw [State.setAdoption_events, v.markStale_events]
  · rw [State.setAdoption_member, v.member_markStale]

theorem State.remarked_doubtful (v : State) (resync : v.mu.station = .resync) : v.Doubtful v.remarked := by
  obtain ⟨plant, mu, ct, hu, -, member⟩ := v.remarked_parts
  exact ⟨by rw [mu, resync], by rw [mu], by rw [mu], member, ct, hu, alloc_of_plant plant, straps_of_plant plant,
    congrArg (fun b : BusUnit => { b with outbound := [] }) (bus_of_plant plant), .of_plant plant⟩

/-- R144: SYNC_LOST, and the station in RESYNC. -/
def State.strayed (v : State) : State := (v.setStation .resync).raise .syncLost

theorem State.losing_eq (v : State) : v.losing = v.strayed.remarked := rfl

theorem State.losing_doubtful (v : State) : v.Doubtful v.losing := by
  obtain ⟨station, cause, orphans, member, ct, hu, alloc, straps, bus, spoken⟩ := v.strayed.remarked_doubtful rfl
  rw [v.losing_eq]
  exact ⟨station, cause, orphans, member, ct, hu, alloc, straps, bus, (State.Spoken.of_parts (s := v) (t := v.strayed) rfl fun _ => rfl).trans spoken⟩

theorem State.Doubtful.of_bare (doubtful : v.Doubtful u) (bare : y.bare = u.bare) (spoken : u.Spoken y) : v.Doubtful y := by
  obtain ⟨station, cause, orphans, member, ct, hu, alloc, straps, bus, told⟩ := doubtful
  have mu := mu_of_bare bare
  refine ⟨by rw [mu, station], by rw [mu, cause], by rw [mu, orphans], fun a => ?_, (ct_of_bare bare).trans ct,
    (hu_of_bare bare).trans hu, (alloc_of_bare bare).trans alloc, (straps_of_bare bare).trans straps,
    (silenced_of_bare bare).trans bus, told.trans spoken⟩
  unfold State.member
  rw [mu]
  exact member a

theorem State.lapsed_bare (v : State) : v.lapsed.bare = v.losing.bare :=
  (State.announceAll_bare _).trans v.loseSync_bare

theorem State.lapsed_doubtful (v : State) : v.Doubtful v.lapsed :=
  v.losing_doubtful.of_bare v.lapsed_bare
    ((State.Spoken.of_runSide (RunSide.closeAll v.losing .resync)).trans (.of_runSide (RunSide.announceAll _)))

theorem State.hasEvent_lapsed (v : State) (e : SiteEvent) : v.lapsed.hasEvent e = (v.hasEvent e || decide (e = .syncLost)) := by
  obtain ⟨-, -, -, -, events, -⟩ := v.strayed.remarked_parts
  rw [hasEvent_of_events (events_of_bare v.lapsed_bare), v.losing_eq, hasEvent_of_events events]
  exact State.hasEvent_raise _ _ _

/-- R123, R126: a lost frame in SYNCED and RESYNC. -/
theorem State.lostFrame_doubtful (v : State) (here : v.mu.station = .synced ∨ v.mu.station = .resync) :
    ∃ y, v.Doubtful y ∧ v.lostFrame = y.staleTest ∧ (∀ e, e ≠ .syncLost → y.hasEvent e = v.hasEvent e) ∧
      (v.mu.station = .synced → y.hasEvent .syncLost = true ∧ y = v.lapsed) ∧
      (v.mu.station = .resync → y = v.remarked) := by
  unfold State.lostFrame
  rcases here with station | station
  · rw [station]
    refine ⟨v.lapsed, v.lapsed_doubtful, rfl, fun e other => ?_, fun _ => ⟨?_, rfl⟩, nofun⟩
    · rw [v.hasEvent_lapsed, decide_eq_false other, Bool.or_false]
    · rw [v.hasEvent_lapsed, decide_eq_true rfl, Bool.or_true]
  · rw [station]
    obtain ⟨-, -, -, -, events, -⟩ := v.remarked_parts
    exact ⟨v.remarked, v.remarked_doubtful station, rfl, fun e _ => hasEvent_of_events events e, nofun, fun _ => rfl⟩

namespace State.Doubtful

variable (doubtful : v.Doubtful y)
include doubtful

theorem isMember (a : Addr) : y.isMember a = v.isMember a := by
  unfold State.isMember
  rw [doubtful.member]
  split
  · rfl
  · exact Option.isSome_map

theorem marked {a : Addr} (other : a ≠ v.own) : ∀ m ∈ y.member a, m.stale = true := by
  rw [doubtful.member, if_neg other]
  intro m found
  obtain ⟨o, -, rfl⟩ := Option.map_eq_some_iff.1 found
  rfl

theorem anyStale {a : Addr} (other : a ≠ v.own) (member : v.isMember a = true) : y.anyStale = true := by
  rw [← doubtful.isMember] at member
  obtain ⟨m, found⟩ := Option.isSome_iff_exists.1 member
  exact State.anyStale_iff.2 ⟨a, m, found, doubtful.marked other m found⟩

theorem fresh (alone : ∀ a : Addr, a ≠ v.own → v.isMember a = false) (own : ∀ m ∈ v.member v.own, m.stale = false) :
    y.anyStale = false := by
  refine State.anyStale_eq_false.2 fun a m found => ?_
  rw [doubtful.member] at found
  split at found
  · next self => exact own m (self ▸ found)
  · next other =>
    rw [State.member_eq_none (alone a other)] at found
    cases found

theorem loud : y.mu.station.silent = false := by
  rw [doubtful.station]
  rfl

/-- R144, R145: RESYNC with another member in the roster stands through the end of the event. -/
theorem concluded (stale : y.anyStale = true) : y.staleTest.conclude = y.closing ∧ y.staleTest.staleTest.conclude = y.closing := by
  have same := State.staleTest_of_stale stale
  have closes := State.conclude_of_not_quits (State.not_quits_of_loud doubtful.loud)
  rw [same, same]
  exact ⟨closes, closes⟩

theorem reannounced : v.Reannounced y.closing :=
  (doubtful.spoken.trans (.closing y)).reannounced (State.closing_holds doubtful.loud)

end State.Doubtful

theorem State.closing_member (v : State) (a : Addr) : v.closing.member a = v.member a := by
  unfold State.member
  rw [State.closing_mu]

theorem State.closing_isMember (v : State) (a : Addr) : v.closing.isMember a = v.isMember a := by
  unfold State.isMember
  rw [State.closing_member]

theorem State.closing_hasEvent (v : State) (e : SiteEvent) : v.closing.hasEvent e = v.hasEvent e :=
  hasEvent_of_events (State.closing_events v) e

/-! ### The return to SYNCED -/

/-- R143: the step of `dropSilent` at one address. -/
def State.dropIfSilent (x : State) (a : Addr) : State := if (x.member a).any Member.silent then x.queueDrop a else x

theorem State.dropIfSilent_bare (x : State) (a : Addr) : (x.dropIfSilent a).bare = x.bare := by
  unfold State.dropIfSilent
  split
  · exact x.queueDrop_bare a
  · rfl

theorem State.Spoken.dropIfSilent (x : State) (a : Addr) : x.Spoken (x.dropIfSilent a) := by
  unfold State.dropIfSilent State.queueDrop
  split
  · split
    · exact .refl x
    · exact .enqueue x rfl
  · exact .refl x

theorem State.Spoken.drop (spoken : s.Spoken t) {d : Addr} (queued : OutFrame.drop d ∈ s.bus.outbound) :
    OutFrame.drop d ∈ t.bus.outbound := by
  obtain ⟨f, found, same⟩ := spoken.keys (.drop d) ⟨_, queued, OutFrame.sameKey_refl _⟩
  rw [← drop_of_sameKey same]
  exact found

theorem State.dropIfSilent_queues (x : State) (active : x.mu.station.active = true) {d : Addr} (other : d ≠ x.own)
    (silent : (x.member d).any Member.silent = true) : OutFrame.drop d ∈ (x.dropIfSilent d).bus.outbound := by
  have queues : x.queueDrop d = x.queued (.drop d) := (if_neg other).trans (State.enqueue_of_active active)
  unfold State.dropIfSilent
  rw [if_pos silent, queues]
  refine mem_insertOut_self fun g same => ?_
  rw [drop_of_sameKey same]
  rfl

theorem State.dropSilent_eq (w : State) : w.dropSilent = allAddrs.foldl State.dropIfSilent w := by
  unfold State.dropSilent
  rfl

/-- R143: DROP is queued for a silent member. -/
theorem dropSilent_queues (w : State) (active : w.mu.station.active = true) {d : Addr} (other : d ≠ w.own)
    (silent : (w.member d).any Member.silent = true) : OutFrame.drop d ∈ w.dropSilent.bus.outbound := by
  have walk : ∀ (cs : List Addr) (x : State), x.mu = w.mu → x.straps = w.straps → d ∈ cs ∨ OutFrame.drop d ∈ x.bus.outbound →
      OutFrame.drop d ∈ (cs.foldl State.dropIfSilent x).bus.outbound := by
    intro cs
    induction cs with
    | nil => exact fun x _ _ held => held.resolve_left List.not_mem_nil
    | cons e cs ih =>
      intro x mu straps held
      have bare := x.dropIfSilent_bare e
      have spoken := State.Spoken.dropIfSilent x e
      refine ih _ ((mu_of_bare bare).trans mu) ((straps_of_bare bare).trans straps) ?_
      rcases held with member | queued
      · rcases List.mem_cons.1 member with rfl | later
        · refine .inr (x.dropIfSilent_queues (by rw [mu]; exact active) ?_ ?_)
          · rw [own_rested straps]
            exact other
          · unfold State.member
            rw [mu]
            exact silent
        · exact .inl later
      · exact .inr (spoken.drop queued)
  rw [w.dropSilent_eq]
  exact walk allAddrs w rfl rfl (.inl (mem_allAddrs d))

/-- R143, R154: an entry to SYNCED up to its HALT PRESSURE. -/
theorem State.enterSynced_eq (v : State) : v.enterSynced = if v.regained.announceAll.dropSilent.pressureLost &&
    v.regained.announceAll.dropSilent.hu.halt != .halted then v.regained.announceAll.dropSilent.enqueue (.halt reasonPressure)
    else v.regained.announceAll.dropSilent := by
  unfold State.enterSynced State.regained
  rfl

/-- R143, R135, R154: what an entry to SYNCED queues. -/
theorem State.enterSynced_queues (v : State) :
    (∀ d : Addr, d ≠ v.own → (v.member d).any Member.silent = true → OutFrame.drop d ∈ v.enterSynced.bus.outbound) ∧
    (v.pressureLost = true → v.hu.halt ≠ .halted → v.enterSynced.Urges 1) := by
  have bare : v.regained.announceAll.bare = v.regained.bare := State.announceAll_bare _
  have drops := fun d other silent => dropSilent_queues v.regained.announceAll (d := d)
    (by rw [mu_of_bare bare]; rfl) other silent
  have bare' := (State.dropSilent_bare v.regained.announceAll).trans bare
  have shape := v.enterSynced_eq
  have own : v.regained.announceAll.own = v.own := own_rested ((straps_of_bare bare).trans rfl)
  have silent : ∀ d, (v.regained.announceAll.member d).any Member.silent = (v.member d).any Member.silent := fun d => by
    have same : v.regained.announceAll.member d = v.regained.member d := by
      unfold State.member
      rw [mu_of_bare bare]
    rw [same, member_regained, Option.any_map]
  rw [shape]
  have pressed : v.regained.announceAll.dropSilent.pressureLost = v.pressureLost := by
    unfold State.pressureLost
    rw [straps_of_bare bare', hu_of_bare bare']
    rfl
  have halt : v.regained.announceAll.dropSilent.hu.halt = v.hu.halt := by
    rw [hu_of_bare bare']
    rfl
  have station : v.regained.announceAll.dropSilent.mu.station = .synced := by
    rw [mu_of_bare bare']
    rfl
  generalize v.regained.announceAll.dropSilent = w at *
  rw [pressed, halt]
  refine ⟨fun d other asks => ?_, fun pressure running => ?_⟩
  · have queued := drops d (by rw [own]; exact other) (by rw [silent]; exact asks)
    split
    · exact (State.Spoken.enqueue w rfl).drop queued
    · exact queued
  · rw [if_pos (by rw [pressure]; simpa using running)]
    exact haltPending_of_enqueue (by rw [station]; rfl) (by decide)

/-- R143–R145: what an empty stale set in RESYNC leaves as the event ends. -/
structure State.Rejoined (v t : State) : Prop where
  station : t.mu.station = .synced
  regained : t.hasEvent .syncRegained = true
  adoption : t.ct.adoptionPending = false
  fresh : ∀ a : Addr, ∀ m ∈ t.member a, m.stale = false
  drops : ∀ d : Addr, d ≠ v.own → (v.member d).any Member.silent = true → OutFrame.drop d ∈ t.bus.outbound
  pressure : v.pressureLost = true → v.hu.halt ≠ .halted → t.HaltPending 1
  spoken : v.Spoken t
  holds : ∀ c : Chan, t.Holds c

theorem State.rested_rejoined (v : State) (resync : v.mu.station = .resync) (fresh : v.anyStale = false) :
    v.Rejoined v.rested := by
  rcases v.rested_rests with ⟨-, -, stale⟩ | ⟨-, -, mu, adoption, regained⟩
  · rw [stale resync] at fresh
    cases fresh
  · obtain ⟨drops, pressure⟩ := v.enterSynced_queues
    have shape : v.rested = v.enterSynced.closing := congrArg State.closing (State.staleTest_of_fresh resync fresh)
    have loud : v.enterSynced.mu.station.silent = false := by
      rw [v.enterSynced_station]
      rfl
    refine ⟨?_, regained, adoption, fun a m found => ?_, fun d other silent => ?_, fun pressed running => ?_, .rested v,
      fun c => ?_⟩
    · rw [mu]
      rfl
    · have member : v.rested.member a = v.regained.member a := by
        unfold State.member
        rw [mu]
      rw [member, member_regained] at found
      obtain ⟨o, -, rfl⟩ := Option.map_eq_some_iff.1 found
      rfl
    · rw [shape]
      exact (State.Spoken.closing _).drop (drops d other silent)
    · rw [shape]
      exact (State.Spoken.closing v.enterSynced).urges 1 (pressure pressed running)
    · rw [shape]
      exact State.closing_holds loud c

end Sys2Proof.Machine
end

section
/-!
SUPPORT. Frames that are lost, and frames that end RESYNC.
-/

namespace Sys2Proof.Machine

variable {s h t u v x y : State}

/-! ### PLOSS# through the halt unit's changes -/

theorem HaltUnit.tested_ploss (hu : HaltUnit) : hu.tested.ploss = hu.ploss := by
  unfold HaltUnit.tested
  split <;> rfl

theorem HaltUnit.unsettling_ploss (hu : HaltUnit) (a : Addr) : (hu.unsettling a).ploss = hu.ploss := by
  unfold HaltUnit.unsettling HaltUnit.calmed
  split <;> rfl

theorem HaltUnit.told_ploss (hu : HaltUnit) (a : Addr) : (hu.told a).ploss = hu.ploss := by
  unfold HaltUnit.told HaltUnit.removing
  rw [HaltUnit.unsettling_ploss]
  split
  · exact HaltUnit.tested_ploss _
  · rfl

theorem State.adopting_ploss (u : State) (k : HaltState) (r : BitVec 4) : (u.adopting k r).ploss = u.hu.ploss := by
  unfold State.adopting
  split
  · rfl
  · split <;> rfl
  · rfl

theorem State.merging_ploss (u : State) (k : HaltState) (r : BitVec 4) : (u.merging k r).ploss = u.hu.ploss := by
  unfold State.merging
  split
  · split <;> rfl
  · rfl

theorem pressureLost_of_parts (straps : t.straps = s.straps) (ploss : t.hu.ploss = s.hu.ploss) : t.pressureLost = s.pressureLost := by
  unfold State.pressureLost
  rw [straps, ploss]

/-! ### An empty stale set as a frame ends -/

theorem State.Rejoined.reannounced (rejoined : v.Rejoined t) (spoken : s.Spoken v) : s.Reannounced t :=
  (spoken.trans rejoined.spoken).reannounced rejoined.holds

/-- R143, R145: an applied frame after which no member is stale. -/
theorem settle_rejoined (p : Bool) (resync : x.mu.station = .resync) (fresh : x.anyStale = false) :
    x.Rejoined ((x.recompute.evaluateIf p).rested) := by
  have mu : (x.recompute.evaluateIf p).mu = x.mu := (State.evaluateIf_mu _ p).trans x.recompute_mu
  have hu : (x.recompute.evaluateIf p).hu = x.hu := (State.evaluateIf_hu _ p).trans x.recompute_hu
  have straps : (x.recompute.evaluateIf p).straps = x.straps := (straps_of_bare (State.evaluateIf_bare _ p)).trans x.recompute_straps
  have spoken := State.Spoken.settle x p
  generalize x.recompute.evaluateIf p = v at *
  obtain ⟨station, regained, adoption, all, drops, pressure, told, holds⟩ :=
    v.rested_rejoined (by rw [mu]; exact resync) ((anyStale_of_mu mu).trans fresh)
  have member : ∀ d, v.member d = x.member d := fun d => by
    unfold State.member
    rw [mu]
  refine ⟨station, regained, adoption, all, fun d other silent => drops d ?_ ?_, fun pressed running => pressure ?_ ?_,
    spoken.trans told, holds⟩
  · rw [own_rested straps]
    exact other
  · rw [member]
    exact silent
  · rw [pressureLost_of_parts straps (by rw [hu])]
    exact pressed
  · rw [hu]
    exact running

/-! ### Lost frames -/

theorem State.receiveLine_of_error {chars : List Byte} (receives : s.canReceive = true) (error : receiveChars chars = .error) :
    s.receiveLine chars = s.endReception.lostFrame.conclude := by
  unfold State.receiveLine
  rw [if_pos receives, error]
  rfl

theorem exec_receiveError {chars : List Byte} (released : s.inReset = false) (receives : s.canReceive = true)
    (error : receiveChars chars = .error) : exec (.receiveError chars) s = .next s.endReception.lostFrame.conclude := by
  refine Eq.trans (b := .next (s.whenReleased fun s => s.receiveLine chars)) rfl ?_
  rw [State.whenReleased_of_released _ released, State.receiveLine_of_error receives error]

theorem State.isMember_of_gap {f : Frame} (gap : s.hasGap f = true) : s.isMember f.sender = true := by
  unfold State.hasGap at gap
  unfold State.isMember
  cases found : s.member f.sender with
  | none =>
    rw [found] at gap
    cases gap
  | some m => rfl

theorem State.hasGap_iff {f : Frame} : s.hasGap f = true ↔ ∃ m ∈ s.member f.sender, f.seq ≠ m.lastSeq + 1 := by
  unfold State.hasGap
  cases s.member f.sender with
  | none => simp
  | some m => simp

/-- R126: a frame of a member with a gap, applied in full before the gap is reported. -/
theorem State.takeFrame_of_gap {f : Frame} (released : s.inReset = false) (receives : s.canReceive = true)
    (other : f.sender ≠ s.own) (station : s.mu.station ≠ .config) (fits : bodyFits f.body = true) (gap : s.hasGap f = true) :
    s.takeFrame f.sender f.seq f.body = ((s.hearing f).answered f).lostFrame.staleTest.conclude := by
  rw [State.takeFrame_of_applied released receives other station fits (.inl (State.isMember_of_gap gap))]
  exact State.applyFrame_of_gap gap

theorem says_of_table (table : t.ct.table = x.allocate.table) (a : Addr) (c : Chan) : t.says a c = x.says a c := by
  unfold State.says
  rw [table, slot_allocate, Option.map_map]
  exact congrArg (Option.map · _) (funext fun e => x.remark_said _ e)

/-- What a gap leaves of a frame in RESYNC, or in SYNCED on the way to it. -/
structure State.Gapped (s x t : State) : Prop where
  station : t.mu.station = .resync
  lost : s.mu.station = .synced → t.hasEvent .syncLost = true
  adoption : t.ct.adoptionPending = true
  marked : ∀ d : Addr, d ≠ s.own → ∀ m ∈ t.member d, m.stale = true
  records : ∀ d : Addr, (t.member d).map (fun m => { m with stale := false }) = (x.member d).map fun m => { m with stale := false }
  flags : t.ct.flags = x.ct.flags
  table : t.ct.table = x.allocate.table
  result : t.alloc = x.allocate.result
  grounds : Grounds x t
  bus : { t.bus with outbound := [] } = { x.bus with outbound := [] }
  reannounced : ∀ w : State, w.Spoken x → w.Reannounced t

/-- R126, R144, R145: the gap of a frame in SYNCED or RESYNC, after its body has made `x` of the state. -/
theorem State.gapped {a : Addr} {p : Bool} (here : s.mu.station = .synced ∨ s.mu.station = .resync)
    (station : x.mu.station = s.mu.station) (straps : x.straps = s.straps) (other : a ≠ s.own) (member : x.isMember a = true) :
    s.Gapped x (x.recompute.evaluateIf p).lostFrame.staleTest.conclude := by
  have mu : (x.recompute.evaluateIf p).mu = x.mu := (State.evaluateIf_mu _ p).trans x.recompute_mu
  have straps' : (x.recompute.evaluateIf p).straps = x.straps := (straps_of_bare (State.evaluateIf_bare _ p)).trans x.recompute_straps
  have flags : (x.recompute.evaluateIf p).ct.flags = x.ct.flags := by rw [State.evaluateIf_ct, x.recompute_ct]
  have table : (x.recompute.evaluateIf p).ct.table = x.allocate.table := by rw [State.evaluateIf_ct, x.recompute_ct]
  have result : (x.recompute.evaluateIf p).alloc = x.allocate.result := (alloc_of_bare (State.evaluateIf_bare _ p)).trans x.recompute_alloc
  have grounds := grounds_settle x p
  have bus : { (x.recompute.evaluateIf p).bus with outbound := [] } = { x.bus with outbound := [] } :=
    (silenced_of_bare (State.evaluateIf_bare _ p)).trans x.recompute_silenced
  have spoken := State.Spoken.settle x p
  generalize x.recompute.evaluateIf p = v at *
  have members : ∀ d, v.member d = x.member d := fun d => by
    unfold State.member
    rw [mu]
  have own : v.own = s.own := own_rested (straps'.trans straps)
  obtain ⟨y, doubtful, lost, -, entered, -⟩ := v.lostFrame_doubtful (by rw [mu, station]; exact here)
  have stale : y.anyStale = true := doubtful.anyStale (by rw [own]; exact other) (by
    unfold State.isMember
    rw [members]
    exact member)
  rw [lost, (doubtful.concluded stale).2]
  have holds := State.closing_holds doubtful.loud
  refine ⟨?_, fun synced => ?_, ?_, fun d apart => ?_, fun d => ?_, ?_, ?_, ?_, ?_, ?_, fun w told => ?_⟩
  · rw [State.closing_mu]
    exact doubtful.station
  · rw [State.closing_hasEvent]
    exact (entered (by rw [mu, station]; exact synced)).1
  · rw [State.closing_ct, doubtful.ct]
  · rw [State.closing_member]
    exact doubtful.marked (by rw [own]; exact apart)
  · rw [State.closing_member, doubtful.member, ← members]
    split
    · rfl
    · rw [Option.map_map]
      rfl
  · rw [State.closing_ct, doubtful.ct]
    exact flags
  · rw [State.closing_ct, doubtful.ct]
    exact table
  · rw [State.closing_alloc, doubtful.alloc]
    exact result
  · obtain ⟨q, hu⟩ := y.closing_hu
    refine grounds.trans ⟨?_, ?_, ?_, ?_, own_rested ((State.closing_straps y).trans doubtful.straps), fun d => ?_⟩
    · rw [State.closing_ct, doubtful.ct]
    · rw [State.closing_ct, doubtful.ct]
    · rw [State.closing_mu, doubtful.orphans]
    · rw [hu, doubtful.hu]
    · rw [State.closing_member, doubtful.member]
      split
      · rfl
      · rw [Option.map_map]
        rfl
  · exact y.closing_bus.trans (doubtful.bus.trans bus)
  · exact (told.trans (spoken.trans (doubtful.spoken.trans (.closing y)))).reannounced holds

end Sys2Proof.Machine
end

section
/-!
SUPPORT. The frames that end RESYNC (R145): the BEAT and the LEAVE of the last stale member.
-/

namespace Sys2Proof.Machine

variable {s h t u v x : State}

/-- R123: taking a frame off the line changes nothing but the interface. -/
theorem State.endReception_spoken (s : State) : s.Spoken s.endReception := .of_parts rfl fun _ => rfl

/-- R143, R145, R154: what the station that is back in SYNCED has, by the state `s` in which the frame came and the sender `a` whose
record the frame wrote or removed. -/
structure State.Returned (s t : State) (a : Addr) : Prop where
  station : t.mu.station = .synced
  regained : t.hasEvent .syncRegained = true
  adoption : t.ct.adoptionPending = false
  fresh : ∀ d : Addr, ∀ m ∈ t.member d, m.stale = false
  drops : ∀ d : Addr, d ≠ s.own → d ≠ a → (s.member d).any Member.silent = true → OutFrame.drop d ∈ t.bus.outbound
  pressure : s.pressureLost = true → t.hu.halt ≠ .halted → t.HaltPending 1
  reannounced : s.Reannounced t

theorem returned_of_settle {a : Addr} (p : Bool) (station : x.mu.station = .resync) (straps : x.straps = s.straps)
    (ploss : x.hu.ploss = s.hu.ploss) (others : ∀ d, d ≠ a → x.member d = s.member d) (spoken : s.Spoken x)
    (sender : ∀ m ∈ x.member a, m.stale = false) (rest : ∀ d : Addr, d ≠ a → ∀ m ∈ s.member d, m.stale = false) :
    s.Returned ((x.recompute.evaluateIf p).rested) a := by
  have fresh : x.anyStale = false := State.anyStale_eq_false.2 fun d m found => by
    by_cases here : d = a
    · exact sender m (here ▸ found)
    · rw [others d here] at found
      exact rest d here m found
  have rejoined := settle_rejoined p station fresh
  obtain ⟨q, hu⟩ := settle_hu x p
  refine ⟨rejoined.station, rejoined.regained, rejoined.adoption, rejoined.fresh, fun d self apart silent => ?_,
    fun pressed running => ?_, rejoined.reannounced spoken⟩
  · refine rejoined.drops d ?_ ?_
    · rw [own_rested straps]
      exact self
    · rw [others d apart]
      exact silent
  · refine rejoined.pressure ?_ ?_
    · rw [pressureLost_of_parts straps ploss]
      exact pressed
    · rw [hu] at running
      exact running

section
variable {a : Addr} {seq : Seq} {b : BeatBody} (intro' : s.Introduced u a seq b) (beaten : u.Beaten x a b)
include intro' beaten

theorem State.Beaten.member_other {d : Addr} (other : d ≠ a) : x.member d = s.member d := by
  rw [beaten.member, if_neg fun same => other same.symm, intro'.others d other]

theorem State.Beaten.sender_fresh : ∀ m ∈ x.member a, m.stale = false := by
  obtain ⟨m, found, -⟩ := intro'.member
  rw [beaten.member, if_pos rfl, found]
  rintro _ ⟨⟩
  rfl

theorem State.Beaten.viewed_resync (resync : s.mu.station = .resync) : x.ct.adoptionPending = false ∧ x.hu.ploss = s.hu.ploss := by
  have station : u.mu.station = .resync := intro'.station.trans resync
  have isolated : u.mu.station ≠ .isolated := by rw [station]; nofun
  have clash : u.mu.station ≠ .clash := by rw [station]; nofun
  have config : u.mu.station ≠ .config := by rw [station]; nofun
  rw [← intro'.hu]
  cases pending : u.ct.adoptionPending with
  | true =>
    obtain ⟨-, -, off, -, -, hu⟩ := beaten.adopts isolated clash config pending
    rw [hu, HaltUnit.unsettling_ploss, State.adopting_ploss]
    exact ⟨off, rfl⟩
  | false =>
    obtain ⟨-, -, off, -, -, hu⟩ := beaten.merges isolated clash config pending
    rw [hu, HaltUnit.unsettling_ploss, State.merging_ploss]
    exact ⟨off, rfl⟩

end

/-- R145: a receive error in SYNCED or RESYNC with no other member in the roster. -/
theorem lostFrame_alone (here : s.mu.station = .synced ∨ s.mu.station = .resync)
    (alone : ∀ d : Addr, d ≠ s.own → s.isMember d = false) (own : ∀ m ∈ s.member s.own, m.stale = false) :
    let t := s.endReception.lostFrame.conclude
    t.mu.station = .synced ∧ t.hasEvent .syncRegained = true ∧ (s.mu.station = .synced → t.hasEvent .syncLost = true) ∧
      t.ct.adoptionPending = false ∧ (s.pressureLost = true → s.hu.halt ≠ .halted → t.HaltPending 1) ∧ s.Reannounced t := by
  obtain ⟨y, doubtful, lost, -, entered, -⟩ := s.endReception.lostFrame_doubtful here
  have fresh := doubtful.fresh alone own
  have rejoined := y.rested_rejoined doubtful.station fresh
  have shape : s.endReception.lostFrame.conclude = y.rested := by
    rw [lost, State.staleTest_of_fresh doubtful.station fresh]
    refine (State.conclude_of_not_quits (State.not_quits_of_loud ?_)).trans ?_
    · rw [State.enterSynced_station]
      rfl
    · unfold State.rested
      rw [State.staleTest_of_fresh doubtful.station fresh]
  dsimp only
  rw [shape]
  refine ⟨rejoined.station, rejoined.regained, fun synced => ?_, rejoined.adoption, fun pressed running => ?_,
    rejoined.reannounced (s.endReception_spoken.trans doubtful.spoken)⟩
  · rw [y.rested_hasEvent (by decide)]
    exact (entered synced).1
  · refine rejoined.pressure ?_ ?_
    · rw [pressureLost_of_parts (s := s) (doubtful.straps.trans rfl) (by rw [doubtful.hu]; rfl)]
      exact pressed
    · rw [doubtful.hu]
      exact running

/-- R148: an applied LEAVE of another station, as one step. -/
theorem State.takeFrame_leave {a : Addr} {seq : Seq} (hears : s.Hears a seq) : ∃ (x : State) (p : Bool),
    s.takeFrame a seq .leave = (x.recompute.evaluateIf p).rested ∧ x.mu.station = s.mu.station ∧ x.straps = s.straps ∧
      x.hu.ploss = s.hu.ploss ∧ (∀ d, x.member d = if a = d then none else s.member d) ∧ s.Spoken x := by
  obtain ⟨h, heard, stays, taken⟩ := State.takeFrame_heard (body := .leave) hears rfl
  have member := State.isMember_of_hears hears
  obtain ⟨-, -, apart, -⟩ := hears
  have known : h.isMember a = true := (heard.isMember a).trans member
  have left := State.removeMember_left known
  have members := State.member_removeMember known
  obtain ⟨due, answered⟩ : ∃ due, h.answered ⟨a, seq, .leave⟩ = (h.applyLeave a).recompute.evaluateIf due := ⟨_, rfl⟩
  have shape : h.applyLeave a = h.removeMember a := if_neg fun same => apart (same.trans heard.own)
  rw [answered, shape] at taken
  have spoken : s.Spoken (h.removeMember a) :=
    (State.Spoken.of_parts heard.outbound fun c => congrArg Channel.announced (heard.chan c)).trans
      (.of_plant (h.removeMember_plant a))
  generalize h.removeMember a = x at *
  refine ⟨x, due, ?_, left.station.trans heard.station, left.straps.trans heard.straps, ?_, fun d => ?_, spoken⟩
  · rw [taken, State.conclude_settled (left.staysOnFrame stays)]
  · rw [left.hu, HaltUnit.told_ploss, heard.hu]
  · rw [members, heard.member]
    split <;> rfl

end Sys2Proof.Machine
end

section
namespace Sys2Proof
open Sys2Proof.Machine

/-- Settles O28: RESYNC ends with an empty stale set, and stands after a gap. -/
theorem resyncRestartsAndEnds : Obligations.ResyncRestartsAndEnds := by
  unfold Obligations.ResyncRestartsAndEnds
  intro s chars a seq b released receives
  refine ⟨fun error here alone own => ⟨_, exec_receiveError released receives error, lostFrame_alone here alone own⟩,
    fun hears resync rest => ?_, fun hears resync stale => ?_, fun other resync fits gap => ?_, fun hears resync rest => ?_⟩
  · obtain ⟨u, x, p, intro', beaten, -, spoken, taken⟩ := State.takeFrame_beat hears
    refine ⟨_, rfl, ?_⟩
    rw [taken]
    obtain ⟨station, regained, adoption, fresh, drops, pressure, reannounced⟩ := returned_of_settle p
      (beaten.station.trans (intro'.station.trans resync)) (beaten.straps.trans intro'.straps) (beaten.viewed_resync intro' resync).2
      (fun d other => beaten.member_other intro' other) spoken (beaten.sender_fresh intro') rest
    exact ⟨station, regained, adoption, fresh, drops, pressure, reannounced⟩
  · obtain ⟨u, x, p, intro', beaten, -, -, taken⟩ := State.takeFrame_beat hears
    refine ⟨_, rfl, ?_⟩
    rw [taken]
    obtain ⟨d, apart, m, found, marked⟩ := stale
    rw [← beaten.member_other intro' apart] at found
    have any : x.anyStale = true := State.anyStale_iff.2 ⟨d, m, found, marked⟩
    rcases settle_rests x p with ⟨mu, adoption, -⟩ | ⟨-, fresh, -⟩
    · have member : ∀ d, ((x.recompute.evaluateIf p).rested).member d = x.member d := fun d => by
        unfold State.member
        rw [mu]
      refine ⟨?_, adoption.trans (beaten.viewed_resync intro' resync).1, ?_, fun d other => ?_⟩
      · rw [mu, beaten.station, intro'.station, resync]
      · rw [member]
        exact beaten.sender_fresh intro'
      · rw [member, beaten.member_other intro' other]
    · rw [any] at fresh
      cases fresh
  · have lost : s.hasGap ⟨a, seq, .beat b⟩ = true := State.hasGap_iff.2 gap
    have taken := State.takeFrame_of_gap (f := ⟨a, seq, .beat b⟩) released receives other (by rw [resync]; nofun) fits lost
    obtain ⟨u, x, intro', beaten, -, -, -, answered⟩ := (s.hearing_heard ⟨a, seq, .beat b⟩).beat (.inr other)
    rw [answered] at taken
    refine ⟨_, rfl, ?_⟩
    rw [show s.takeFrame a seq (.beat b) = _ from taken]
    have known : x.isMember a = true := by
      unfold State.isMember
      obtain ⟨m, found, -⟩ := intro'.member
      rw [beaten.member, if_pos rfl, found]
      rfl
    obtain ⟨station, -, adoption, marked, -⟩ := State.gapped (s := s)
      (p := evaluationDue ⟨a, seq, .beat b⟩ (s.hearing ⟨a, seq, .beat b⟩) x) (.inr resync)
      (beaten.station.trans intro'.station) (beaten.straps.trans intro'.straps) other known
    exact ⟨station, adoption, marked⟩
  · obtain ⟨x, p, taken, station, straps, ploss, member, spoken⟩ := State.takeFrame_leave hears
    refine ⟨_, rfl, ?_⟩
    rw [taken]
    have gone : x.member a = none := (member a).trans (if_pos rfl)
    obtain ⟨station, regained, adoption, -, drops, pressure, reannounced⟩ := returned_of_settle p
      (station.trans resync) straps ploss (fun d other => (member d).trans (if_neg fun same => other same.symm)) spoken
      (by rw [gone]; nofun) rest
    exact ⟨station, settle_none x p gone, regained, adoption, drops, pressure, reannounced⟩

/-- Settles O29: an applied BEAT writes its sender's record and entries. -/
theorem beatFrameApplied : Obligations.BeatFrameApplied := by
  unfold Obligations.BeatFrameApplied
  intro s a seq b
  refine ⟨readItem_iff, fun hears => ?_, fun released receives other synced fits gap => ?_⟩
  · obtain ⟨u, x, p, intro', beaten, sender, -, taken⟩ := State.takeFrame_beat hears
    obtain ⟨-, -, other, config, -⟩ := hears
    refine ⟨_, rfl, ?_⟩
    rw [taken]
    have entered := beaten.beatEntered intro' p
    rw [if_neg other] at entered
    refine ⟨(settle_lastSender x p).trans sender, entered, fun unknown => ⟨?_, beaten.hasOrphan intro' p unknown config⟩⟩
    rw [settle_hasEvent x p (by decide)]
    exact beaten.keeps _ (intro'.roster unknown)
  · have lost : s.hasGap ⟨a, seq, .beat b⟩ = true := State.hasGap_iff.2 gap
    have taken := State.takeFrame_of_gap (f := ⟨a, seq, .beat b⟩) released receives other (by rw [synced]; nofun) fits lost
    obtain ⟨u, x, intro', beaten, -, -, -, answered⟩ := (s.hearing_heard ⟨a, seq, .beat b⟩).beat (.inr other)
    rw [answered] at taken
    refine ⟨_, rfl, ?_⟩
    rw [show s.takeFrame a seq (.beat b) = _ from taken]
    obtain ⟨m, found, -, -, -, lastSeq, -⟩ := intro'.member
    have member : x.member a = some { m with stale := false } := by
      rw [beaten.member, if_pos rfl, found]
      rfl
    obtain ⟨station, event, adoption, marked, records, -, table, -⟩ := State.gapped (s := s)
      (p := evaluationDue ⟨a, seq, .beat b⟩ (s.hearing ⟨a, seq, .beat b⟩) x) (.inl synced)
      (beaten.station.trans intro'.station) (beaten.straps.trans intro'.straps) other
      (show (x.member a).isSome = true by rw [member]; rfl)
    have record := records a
    rw [member] at record
    obtain ⟨m', found', shape⟩ := Option.map_eq_some_iff.1 record
    refine ⟨station, event synced, adoption, ⟨m', found', ?_, marked a other m' found'⟩, fun c => ?_⟩
    · exact (congrArg Member.lastSeq shape).trans lastSeq
    · exact (says_of_table table a c).trans ((settle_says x false a c).symm.trans (beaten.says false c))

end Sys2Proof
end

section
/-!
SUPPORT. What the entry to RESYNC closes (R66, R144), also where the frame before it has already turned some channels, and the lost frames
of the other station states.
-/

namespace Sys2Proof.Machine

variable {s h t u v x y : State} {p : Scope}

/-! ### A head that flows until something closes it -/

/-- The valve of a channel whose closure is not confirmed is closing with a close time, or driven by a head that flows. -/
def State.Draws (s : State) (c : Chan) (load : Nat) : Prop :=
  (s.chan c).confirmed = false ∧ (s.chan c).closeLoad = load ∧
    ((s.chan c).Shutting (some load) ∨
      (s.chan c).valve.driven = true ∧ ∃ r ∈ s.rm.pool, r.channel = c ∧ r.state = .flowing)

theorem State.draws_of_flowing {c : Chan} {r : Run} (head : s.head c = some r) (flows : r.state = .flowing)
    (drives : (s.chan c).valve.driven = true) (slow : (s.chan c).confirmed = false) : s.Draws c (s.chan c).closeLoad := by
  obtain ⟨live, here, -⟩ := State.mem_of_head head
  exact ⟨slow, rfl, .inr ⟨drives, r, live, here, flows⟩⟩

theorem State.Draws.of_parts {c : Chan} {load : Nat} (draws : s.Draws c load) (rm : t.rm.pool = s.rm.pool)
    (chan : (t.chan c).mute = (s.chan c).mute) : t.Draws c load := by
  obtain ⟨slow, same, state⟩ := draws
  have bare : (t.chan c).bare = (s.chan c).bare := congrArg Channel.bare (with_announced_of_mute chan) |>.trans rfl
  refine ⟨(confirmed_of_bare bare).trans slow, (closeLoad_of_bare bare).trans same, ?_⟩
  rw [rm, valve_of_mute chan]
  exact state.imp_left (Channel.Shutting.of_mute chan)

theorem beginClose_not_driven {ch : Channel} : ch.beginClose.valve.driven = false := by
  unfold Channel.beginClose
  split
  · rfl
  · next rests => exact Bool.eq_false_iff.2 rests

theorem Turnover.flowing_stays {a b : Run} {ch : Channel} (change : Turnover p s a b ch) (flows : a.state = .flowing)
    (slow : (s.chan a.channel).confirmed = false) (drives : ch.valve.driven = true) : b.state = .flowing := by
  cases change with
  | ask free waits =>
    rw [flows] at waits
    cases waits
  | unask asks =>
    rw [flows] at asks
    cases asks
  | preempt flows' =>
    rw [beginClose_not_driven] at drives
    cases drives
  | close q flows' =>
    rw [beginClose_not_driven] at drives
    cases drives
  | preemptShut flows' shuts =>
    rw [shuts.confirmed] at slow
    cases slow
  | closeShut flows' shuts =>
    rw [shuts.confirmed] at slow
    cases slow
  | result e may none => exact flows
  | ending q may closes =>
    rw [flows] at closes
    cases closes
  | opens may can asks => rfl

theorem State.not_canOpen_of_driven {c : Chan} (drives : (s.chan c).valve.driven = true) : s.canOpen c = false := by
  refine Bool.eq_false_iff.2 fun opens => ?_
  obtain ⟨-, -, -, closed, -⟩ := State.of_canOpen opens
  rw [closed] at drives
  cases drives

theorem Stir.draws (step : Stir p s t) (tidy : s.Tidy) {c : Chan} {load : Nat} (draws : s.Draws c load) : t.Draws c load := by
  obtain ⟨slow, same, state⟩ := draws
  have bare := chan_of_bare step.bare c
  refine ⟨(step.once.confirmed c).trans slow, ?_, ?_⟩
  · rw [← same]
    exact closeLoad_of_bare bare
  rcases state with shutting | ⟨drives, r, live, here, flows⟩
  · exact .inl (step.once.shutting slow shutting)
  rcases step.valve c with still | shut | ⟨confirmed, -⟩ | ⟨-, can, -⟩
  · have drives' : (t.chan c).valve.driven = true := by rw [valve_of_mute still]; exact drives
    refine .inr ⟨drives', ?_⟩
    have stands : r ∈ t.rm.pool → ∃ q ∈ t.rm.pool, q.channel = c ∧ q.state = .flowing := fun stays => ⟨r, stays, here, flows⟩
    cases step with
    | claim d k at' => exact stands (by rw [s.queueClaim_rm d k]; exact live)
    | turn q f ch liveQ at' change =>
      by_cases mine : r.handle = q.handle
      · obtain rfl := tidy.only live liveQ mine
        refine ⟨f r, (tidy.mem_modRun live).2 (.inl rfl), change.channel.trans here, ?_⟩
        rw [← here, State.chan_setChan_same] at drives'
        exact change.flowing_stays flows (by rw [here]; exact slow) drives'
      · exact stands ((tidy.mem_modRun liveQ).2 (.inr ⟨live, mine⟩))
    | remove q b liveQ at' may waits =>
      refine stands (tidy.mem_removeRun.2 ⟨live, fun mine => ?_⟩)
      obtain rfl := tidy.only live liveQ mine
      rw [flows] at waits
      simp at waits
    | finish q b liveQ at' may flows' shuts =>
      refine stands (tidy.mem_finished.2 ⟨live, fun mine => ?_⟩)
      obtain rfl := tidy.only live liveQ mine
      rw [← here, shuts.confirmed] at slow
      cases slow
    | pass g gated =>
      refine stands (List.mem_map.2 ⟨r, live, if_neg fun passes => ?_⟩)
      rw [(gated r live passes).1] at flows
      cases flows
  · refine .inl (Channel.Shutting.of_mute shut ?_)
    rw [← same]
    exact Channel.beginClose_shutting drives
  · rw [slow] at confirmed
    cases confirmed
  · rw [State.not_canOpen_of_driven drives] at can
    cases can

theorem Stirs.draws (chain : Stirs p s t) (tidy : s.Tidy) {c : Chan} {load : Nat} (draws : s.Draws c load) : t.Draws c load :=
  (chain.keep (P := fun u => u.Tidy ∧ u.Draws c load) (fun _ _ step both => ⟨step.tidy both.1, step.draws both.1 both.2⟩)
    ⟨tidy, draws⟩).2

theorem State.Tidy.draws_settle (tidy : x.Tidy) (b : Bool) {c : Chan} {load : Nat} (draws : x.Draws c load) :
    (x.recompute.evaluateIf b).Draws c load := by
  have recomputed : x.recompute.Draws c load :=
    tidy.recompute_chain.draws tidy.written (draws.of_parts (by rw [State.written_rm]) (by rw [State.written_chan]))
  unfold State.evaluateIf
  split
  · exact (tidy.recompute.evaluate_chain (ends := fun _ => True) fun _ _ => trivial).draws tidy.recompute recomputed
  · exact recomputed

theorem State.Tidy.settle (tidy : x.Tidy) (b : Bool) : (x.recompute.evaluateIf b).Tidy := by
  unfold State.evaluateIf
  split
  · exact (tidy.recompute.evaluate_chain (ends := fun _ => True) fun _ _ => trivial).tidy tidy.recompute
  · exact tidy.recompute

/-! ### The entry to RESYNC -/

section
variable (tidy : x.Tidy) {q : Purpose} (other : q ≠ .ending)

/-- R66, R82: every FLOWING head closes for one purpose, and the event ends. -/
def State.shutAll (x : State) (q : Purpose) : State := (x.closeAll q).announceAll.closing

theorem State.shutAll_parts (x : State) (q : Purpose) : (x.shutAll q).rm = (x.closeAll q).rm ∧
    ∀ c, ((x.shutAll q).chan c).mute = ((x.closeAll q).chan c).mute := by
  have mute : (x.closeAll q).announceAll.mute = (x.closeAll q).mute := State.announceAll_mute _
  refine ⟨(State.closing_rm _).trans (rm_of_mute mute), fun c => ?_⟩
  exact (State.closing_chan _ c).trans (chan_of_mute mute c)

include tidy other

/-- R66: no head is left flowing. -/
theorem State.Tidy.shutAll_quiet (c : Chan) : ∀ r ∈ (x.shutAll q).head c, r.state ≠ .flowing := by
  have quiet := tidy.closeAll_quiet other c
  obtain ⟨rm, -⟩ := x.shutAll_parts q
  intro r found
  obtain ⟨live, here, -⟩ := State.mem_of_head found
  rw [rm] at live
  exact quiet r live here

theorem State.Tidy.shutAll_shuts {c : Chan} {load : Nat} (draws : x.Draws c load) :
    ((x.shutAll q).chan c).Shutting (some load) := by
  obtain ⟨-, mute⟩ := x.shutAll_parts q
  obtain ⟨slow, same, state⟩ := draws
  refine Channel.Shutting.of_mute (mute c) ?_
  rcases state with shutting | ⟨drives, r, live, here, flows⟩
  · exact (tidy.closeAll_chain other).shutting slow shutting
  · have head := tidy.head_eq live (by rw [flows]; rfl)
    rw [here] at head
    rw [← same]
    exact (tidy.closeAll_shuts other head flows drives slow).2

/-- R66: the FLOWING heads close for the purpose. -/
theorem State.Tidy.shutAll_closedHeads (rm : x.rm = v.rm) (chans : x.chans = v.chans) : v.ClosedHeads (x.shutAll q) q := by
  refine ⟨tidy.shutAll_quiet other, fun c r head flows drives slow => ?_⟩
  have chan := chan_of_chans chans c
  have head' : x.head c = some r := by
    unfold State.head
    rw [rm]
    exact head
  rw [← chan] at drives slow
  obtain ⟨after, -⟩ := x.shutAll_parts q
  obtain ⟨valve, timer⟩ := tidy.shutAll_shuts other (State.draws_of_flowing head' flows drives slow)
  refine ⟨?_, valve, timer.trans (by rw [chan])⟩
  rw [after]
  exact (tidy.closeAll_shuts other head' flows drives slow).1

end

section
variable (tidy : v.Tidy)
include tidy

theorem State.Tidy.losing : v.losing.Tidy := tidy_of_rm (congrArg RunUnit.pool (rm_of_plant ((State.setAdoption_plant _ _).trans
  ((State.markStale_plant _).trans ((State.raise_plant _ _).trans (State.setStation_plant _ _)))))) tidy

omit tidy in
theorem State.losing_parts (v : State) : v.losing.rm = v.rm ∧ v.losing.chans = v.chans := by
  have plant : v.losing.plant = v.plant := (State.setAdoption_plant _ _).trans
    ((State.markStale_plant _).trans ((State.raise_plant _ _).trans (State.setStation_plant _ _)))
  exact ⟨rm_of_plant plant, chans_of_plant plant⟩

omit tidy in
theorem State.lapsed_closing (v : State) : v.lapsed.closing = v.losing.shutAll .resync := by
  unfold State.shutAll State.lapsed
  rfl

/-- R66, R144: no head is left flowing. -/
theorem State.Tidy.lapsed_quiet (c : Chan) : ∀ r ∈ v.lapsed.closing.head c, r.state ≠ .flowing := by
  rw [v.lapsed_closing]
  exact tidy.losing.shutAll_quiet (by decide) c

theorem State.Tidy.lapsed_shuts {c : Chan} {load : Nat} (draws : v.Draws c load) :
    (v.lapsed.closing.chan c).Shutting (some load) := by
  obtain ⟨rm, chans⟩ := v.losing_parts
  rw [v.lapsed_closing]
  exact tidy.losing.shutAll_shuts (by decide)
    (draws.of_parts (congrArg RunUnit.pool rm) (congrArg Channel.mute (chan_of_chans chans c)))

/-- R144: the FLOWING heads close for RESYNC. -/
theorem State.Tidy.lapsed_closedHeads : v.ClosedHeads v.lapsed.closing .resync := by
  obtain ⟨rm, chans⟩ := v.losing_parts
  rw [v.lapsed_closing]
  exact tidy.losing.shutAll_closedHeads (by decide) rm chans

end

/-- R144: a gap in SYNCED, by what the frame's body has made of the state. -/
theorem gapped_closes {a : Addr} (b : Bool) (tidy : x.Tidy) (synced : x.mu.station = .synced) (other : a ≠ x.own)
    (member : x.isMember a = true) :
    (∀ c, ∀ r ∈ ((x.recompute.evaluateIf b).lostFrame.staleTest.conclude).head c, r.state ≠ .flowing) ∧
    ∀ c load, x.Draws c load → (((x.recompute.evaluateIf b).lostFrame.staleTest.conclude).chan c).Shutting (some load) := by
  have mu : (x.recompute.evaluateIf b).mu = x.mu := (State.evaluateIf_mu _ b).trans x.recompute_mu
  have straps : (x.recompute.evaluateIf b).straps = x.straps := (straps_of_bare (State.evaluateIf_bare _ b)).trans x.recompute_straps
  have neat := tidy.settle b
  have draws := fun c load => tidy.draws_settle b (c := c) (load := load)
  generalize x.recompute.evaluateIf b = v at *
  obtain ⟨y, doubtful, lost, -, entered, -⟩ := v.lostFrame_doubtful (.inl (by rw [mu]; exact synced))
  obtain ⟨-, same⟩ := entered (by rw [mu]; exact synced)
  rw [same] at doubtful lost
  have stale : v.lapsed.anyStale = true := doubtful.anyStale (by rw [own_rested straps]; exact other) (by
    unfold State.isMember State.member
    rw [mu]
    exact member)
  rw [lost, (doubtful.concluded stale).2]
  exact ⟨neat.lapsed_quiet, fun c load here => neat.lapsed_shuts (draws c load here)⟩

/-! ### Station states in which a lost frame is discarded, or restarts the window -/

theorem State.closing_of_silent (silent : s.mu.station.silent = true) : s.closing =
    s.setHu { s.hu with ackPending := s.hu.ackPending && !s.settled } := by
  unfold State.closing
  rw [State.announceAll_of_silent silent, State.ackTest_of_idle (StationState.active_of_silent silent), State.leaveTest_of_other]
  intro leaving
  rw [show s.mu.station = .leaving from leaving] at silent
  cases silent

theorem State.closing_of_calm (silent : s.mu.station.silent = true) (clear : s.hu.ackPending = false) : s.closing = s := by
  rw [State.closing_of_silent silent, clear]
  show s.setHu { s.hu with ackPending := false } = s
  rw [← clear]
  rfl

theorem State.lostFrame_of_other (synced : s.mu.station ≠ .synced) (resync : s.mu.station ≠ .resync)
    (listening : s.mu.station ≠ .listening) : s.lostFrame = s := by
  unfold State.lostFrame
  cases station : s.mu.station with
  | synced => exact absurd station synced
  | resync => exact absurd station resync
  | listening => exact absurd station listening
  | _ => rfl

/-- R142: a lost frame in LISTENING restarts the listen window. -/
theorem State.lostFrame_of_listening (listening : s.mu.station = .listening) :
    s.lostFrame = s.relisten s.mu.cause s.bus.failures := by
  have tuned : s.setMu { s.mu with station := .listening, cause := s.mu.cause } = s := by
    rw [← listening]
    rfl
  unfold State.relisten
  rw [tuned]
  unfold State.lostFrame
  rw [listening]
  rfl

/-- R142: the station after a restart of the listen window, through to the end of the event. -/
theorem State.relisten_concluded (k : IsolationCause) (n : Nat) : (s.relisten k n).staleTest.conclude = s.relisten k n ∧
    (s.relisten k n).conclude = s.relisten k n := by
  have mu := s.relisten_mu k n
  have hu := s.relisten_hu k n
  generalize s.relisten k n = z at *
  have station : z.mu.station = .listening := by rw [mu]
  have silent : z.mu.station.silent = true := by rw [station]; rfl
  have still : ¬ z.Quits := fun quits => by
    rw [quits.1] at station
    cases station
  have whole : z.conclude = z := by
    rw [State.conclude_of_not_quits still, State.closing_of_calm silent (by rw [hu])]
  rw [State.staleTest_of_other (by rw [station]; nofun)]
  exact ⟨whole, whole⟩

end Sys2Proof.Machine
end

section
/-!
SUPPORT. A FLAG frame with a gap (R126), by the station state in which it comes.
-/

namespace Sys2Proof.Machine

variable {s h t u v x y : State}

section
variable {a b : BusUnit} (same : { a with outbound := [] } = { b with outbound := [] })
include same
theorem seq_of_silenced : a.seq = b.seq := by have e := congrArg BusUnit.seq same; exact e
theorem failures_of_silenced : a.failures = b.failures := by have e := congrArg BusUnit.failures same; exact e
theorem beatTimer_of_silenced : a.beatTimer = b.beatTimer := by have e := congrArg BusUnit.beatTimer same; exact e
end

/-- What a FLAG frame of `a` leaves before its recomputation. -/
structure State.Flagged (s x : State) (a : Addr) (seq : Seq) (set clear : BitVec 16) : Prop where
  ct : x.ct = { s.ct with flags := (s.ct.flags ||| set) &&& ~~~clear }
  station : x.mu.station = s.mu.station
  cause : x.mu.cause = s.mu.cause
  orphans : x.mu.orphans = s.mu.orphans
  straps : x.straps = s.straps
  hu : x.hu = s.hu
  rm : x.rm = s.rm
  chans : x.chans = s.chans
  events : x.events = s.events
  member : ∀ d, (x.member d).map Member.stale = (s.member d).map Member.stale
  record : ∀ m ∈ x.member a, m.lastSeq = seq
  bus : { x.bus with lastSender := s.bus.lastSender, rxReady := s.bus.rxReady, access := s.bus.access } = s.bus
  lastSender : x.bus.lastSender = a

theorem State.hearing_flagged (s : State) (a : Addr) (seq : Seq) (set clear : BitVec 16) :
    s.Flagged ((s.hearing ⟨a, seq, .flag set clear⟩).applyFlag set clear) a seq set clear := by
  have heard := s.hearing_heard ⟨a, seq, .flag set clear⟩
  have ct : ((s.hearing ⟨a, seq, .flag set clear⟩).applyFlag set clear).ct =
      { s.ct with flags := (s.ct.flags ||| set) &&& ~~~clear } := by
    unfold State.applyFlag
    rw [State.setCt_ct, heard.ct]
  refine ⟨ct, heard.station, heard.cause, heard.orphans, heard.straps, heard.hu, heard.rm, heard.chans, heard.events, fun d => ?_,
    fun m found => ?_, rfl, heard.lastSender⟩
  · refine (congrArg (Option.map Member.stale) (heard.member d)).trans ?_
    split
    · rw [Option.map_map]
      rfl
    · rfl
  · replace found := (heard.member a).symm.trans found
    rw [if_pos rfl] at found
    obtain ⟨o, -, rfl⟩ := Option.map_eq_some_iff.1 found
    rfl

theorem State.answered_flag (h : State) (a : Addr) (seq : Seq) (set clear : BitVec 16) :
    h.answered ⟨a, seq, .flag set clear⟩ = (h.applyFlag set clear).recompute.evaluateIf true := rfl

theorem takeFrame_flag_of_gap {a : Addr} {seq : Seq} {set clear : BitVec 16} (released : s.inReset = false)
    (receives : s.canReceive = true) (other : a ≠ s.own) (station : s.mu.station ≠ .config)
    (gap : s.hasGap ⟨a, seq, .flag set clear⟩ = true) : ∃ x : State, s.Flagged x a seq set clear ∧
      s.takeFrame a seq (.flag set clear) = (x.recompute.evaluateIf true).lostFrame.staleTest.conclude ∧
      s.FlagApplied ((x.recompute.evaluateIf true).rested) set clear := by
  have flagged := s.hearing_flagged a seq set clear
  have taken := State.takeFrame_of_gap (f := ⟨a, seq, .flag set clear⟩) released receives other station rfl gap
  have applied := (s.hearing_heard ⟨a, seq, .flag set clear⟩).flagApplied rfl
  rw [State.answered_flag] at taken applied
  exact ⟨_, flagged, taken, applied⟩

namespace State.Flagged

variable {a : Addr} {seq : Seq} {set clear : BitVec 16} (flagged : s.Flagged x a seq set clear)
include flagged

theorem isMember (d : Addr) : x.isMember d = s.isMember d := by
  have same := congrArg Option.isSome (flagged.member d)
  rw [Option.isSome_map, Option.isSome_map] at same
  exact same

theorem own : x.own = s.own := own_rested flagged.straps

theorem outbound : x.bus.outbound = s.bus.outbound := by
  have e := congrArg BusUnit.outbound flagged.bus
  exact e

theorem spoken : s.Spoken x :=
  .of_parts flagged.outbound fun c => congrArg Channel.announced (chan_of_chans flagged.chans c)

theorem tidy (neat : s.Tidy) : x.Tidy := tidy_of_rm (congrArg RunUnit.pool flagged.rm) neat

theorem draws {c : Chan} {load : Nat} (here : s.Draws c load) : x.Draws c load :=
  here.of_parts (congrArg RunUnit.pool flagged.rm) (congrArg Channel.mute (chan_of_chans flagged.chans c))

/-- A gap in SYNCED or RESYNC. -/
theorem gapped (here : s.mu.station = .synced ∨ s.mu.station = .resync) (other : a ≠ s.own) (member : s.isMember a = true) :
    let t := (x.recompute.evaluateIf true).lostFrame.staleTest.conclude
    t.ct.flags = (s.ct.flags ||| set) &&& ~~~clear ∧ t.mu.station = .resync ∧
      (s.mu.station = .synced → t.hasEvent .syncLost = true) ∧ t.ct.adoptionPending = true ∧ t.bus.lastSender = a ∧
      (∀ b : Addr, b ≠ s.own → ∀ m ∈ t.member b, m.stale = true) ∧ (∀ m ∈ t.member a, m.lastSeq = seq) ∧
      (∀ b : Addr, t.isMember b = s.isMember b) ∧ t.RecomputedFrom s.ct.table ∧ s.Reannounced t := by
  dsimp only
  obtain ⟨station, lost, adoption, marked, records, flags, table, result, grounds, bus, reannounced⟩ :=
    State.gapped (s := s) (x := x) (p := true) here flagged.station flagged.straps other ((flagged.isMember a).trans member)
  have before : x.ct.table = s.ct.table := by rw [flagged.ct]
  generalize (x.recompute.evaluateIf true).lostFrame.staleTest.conclude = t at *
  refine ⟨by rw [flags, flagged.ct], station, lost, adoption, (lastSender_of_silenced bus).trans flagged.lastSender, marked,
    fun m found => ?_, fun b => ?_, grounds.recomputedFrom before table result, reannounced s flagged.spoken⟩
  · have record := records a
    rw [Option.mem_def.1 found] at record
    obtain ⟨o, found', shape⟩ := Option.map_eq_some_iff.1 record.symm
    exact (congrArg Member.lastSeq shape).symm.trans (flagged.record o found')
  · have same := congrArg Option.isSome (records b)
    rw [Option.isSome_map, Option.isSome_map] at same
    exact same.trans (flagged.isMember b)

/-- A gap in LISTENING. -/
theorem relistened (listening : s.mu.station = .listening) (member : s.isMember a = true) :
    let t := (x.recompute.evaluateIf true).lostFrame.staleTest.conclude
    t.ct.flags = (s.ct.flags ||| set) &&& ~~~clear ∧ t.mu.station = .listening ∧ t.mu.listenWindow = some 4000 ∧
      (∀ b : Addr, t.member b = none) ∧ (∀ (b : Addr) (c : Chan), slot t.ct.table b c = none) ∧ t.mu.orphans = [] ∧
      t.bus.outbound = [] ∧ t.bus.seq = 0 ∧ t.bus.failures = s.bus.failures ∧ t.bus.lastSender = a ∧
      t.ct.adoptionPending = true ∧ t.alloc = ⟨0, 0, 0, true, false⟩ ∧ t.hasEvent .rosterChanged = true ∧
      (s.mu.orphans ≠ [] → t.hasEvent .freezeChanged = true) ∧ t.hasEvent .syncLost = s.hasEvent .syncLost := by
  dsimp only
  have mu : (x.recompute.evaluateIf true).mu = x.mu := (State.evaluateIf_mu _ true).trans x.recompute_mu
  have flags : (x.recompute.evaluateIf true).ct.flags = x.ct.flags := by rw [State.evaluateIf_ct, x.recompute_ct]
  have bus : { (x.recompute.evaluateIf true).bus with outbound := [] } = { x.bus with outbound := [] } :=
    (silenced_of_bare (State.evaluateIf_bare _ true)).trans x.recompute_silenced
  have events : (x.recompute.evaluateIf true).events = x.events :=
    (events_of_bare (State.evaluateIf_bare _ true)).trans x.recompute_events
  generalize x.recompute.evaluateIf true = v at *
  have station : v.mu.station = .listening := by rw [mu, flagged.station, listening]
  rw [State.lostFrame_of_listening station, (v.relisten_concluded _ _).1]
  have failures : v.bus.failures = s.bus.failures := by
    have same := congrArg BusUnit.failures bus
    have same' := congrArg BusUnit.failures flagged.bus
    exact same.trans same'
  have sender : v.bus.lastSender = a := (lastSender_of_silenced bus).trans flagged.lastSender
  have mu' := v.relisten_mu v.mu.cause v.bus.failures
  have ct' := v.relisten_ct v.mu.cause v.bus.failures
  have bus' := v.relisten_bus v.mu.cause v.bus.failures
  have alloc := v.relisten_alloc v.mu.cause v.bus.failures
  have events' := v.hasEvent_relisten v.mu.cause v.bus.failures
  have orphans : v.mu.orphans = s.mu.orphans := by rw [mu, flagged.orphans]
  have roster : (v.rosterSet != 0) = true := by
    refine bne_iff_ne.2 (State.rosterSet_ne_zero (a := a) ?_)
    unfold State.isMember State.member
    rw [mu]
    exact (flagged.isMember a).trans member
  have had : ∀ e, v.hasEvent e = s.hasEvent e := fun e => hasEvent_of_events (events.trans flagged.events) e
  generalize v.relisten v.mu.cause v.bus.failures = t at *
  refine ⟨by rw [ct', flags, flagged.ct], by rw [mu'], by rw [mu'], fun b => ?_, fun b c => ?_, by rw [mu'], by rw [bus'], by rw [bus'],
    by rw [bus', failures], by rw [bus', sender], by rw [ct'], alloc, ?_, fun held => ?_, ?_⟩
  · unfold State.member
    rw [mu']
    exact Vector.getElem_replicate ..
  · rw [ct']
    exact slot_empty b c
  · rw [events', roster]
    simp
  · rw [events', orphans]
    simp [held]
  · rw [events', had]
    simp

/-- A gap where it has no effect. -/
theorem stood (applied : s.FlagApplied ((x.recompute.evaluateIf true).rested) set clear) (member : s.isMember a = true)
    (here : s.mu.station = .leaving ∨ s.mu.station = .clash ∨ s.mu.station = .isolated ∧ s.StaysOnFrame) :
    let t := (x.recompute.evaluateIf true).lostFrame.staleTest.conclude
    s.FlagApplied t set clear ∧ t.mu.station = s.mu.station ∧ t.mu.cause = s.mu.cause ∧ t.mu.orphans = s.mu.orphans ∧
      t.ct.adoptionPending = s.ct.adoptionPending ∧ t.bus.lastSender = a ∧ t.hasEvent .syncLost = s.hasEvent .syncLost ∧
      t.bus.seq = s.bus.seq ∧
      (∃ m, t.member a = some m ∧ m.lastSeq = seq ∧ (s.member a).map Member.stale = some m.stale) ∧
      (∀ b : Addr, t.isMember b = s.isMember b) := by
  have mu : (x.recompute.evaluateIf true).mu = x.mu := (State.evaluateIf_mu _ true).trans x.recompute_mu
  have apart : s.mu.station ≠ .synced ∧ s.mu.station ≠ .resync ∧ s.mu.station ≠ .listening := by
    rcases here with same | same | ⟨same, -⟩
    · rw [same]
      exact ⟨nofun, nofun, nofun⟩
    · rw [same]
      exact ⟨nofun, nofun, nofun⟩
    · rw [same]
      exact ⟨nofun, nofun, nofun⟩
  have stays : s.StaysOnFrame := by
    rcases here with same | same | ⟨-, stays⟩
    · exact .inl (.inl (by rw [same]; nofun))
    · exact .inl (.inl (by rw [same]; nofun))
    · exact stays
  obtain ⟨synced, resync, listening⟩ := apart
  rw [← flagged.station, ← mu] at synced resync listening
  dsimp only
  rw [State.lostFrame_of_other synced resync listening,
    State.conclude_settled (State.staysOnFrame_of_parts flagged.station flagged.cause flagged.chans stays)]
  rcases settle_rests x true with ⟨mu', adoption, -⟩ | ⟨station, -⟩
  · have sender := (settle_lastSender x true).trans flagged.lastSender
    have bus := settle_silenced x true
    have event := (settle_hasEvent x true (e := .syncLost) (by decide)).trans (hasEvent_of_events flagged.events _)
    generalize (x.recompute.evaluateIf true).rested = t at *
    have members : ∀ d, t.member d = x.member d := fun d => by
      unfold State.member
      rw [mu']
    refine ⟨applied, by rw [mu', flagged.station], by rw [mu', flagged.cause], by rw [mu', flagged.orphans], ?_, sender, event, ?_, ?_,
      fun b => ?_⟩
    · rw [adoption, flagged.ct]
    · have same := congrArg BusUnit.seq bus
      have same' := congrArg BusUnit.seq flagged.bus
      exact same.trans same'
    · rw [← flagged.isMember] at member
      obtain ⟨m, found⟩ := Option.isSome_iff_exists.1 member
      refine ⟨m, (members a).trans found, flagged.record m found, ?_⟩
      rw [← flagged.member, found]
      rfl
    · unfold State.isMember
      rw [members]
      exact flagged.isMember b
  · rw [mu] at resync
    exact absurd station resync

end State.Flagged

/-! ### Receive errors -/

section
variable {a : Addr} (other : a ≠ v.own) (member : v.isMember a = true)
include other member

/-- R123, R144: in SYNCED. -/
theorem lostFrame_synced (synced : v.mu.station = .synced) :
    let t := v.lostFrame.conclude
    t.mu.station = .resync ∧ t.hasEvent .syncLost = true ∧ t.ct.adoptionPending = true ∧
      (∀ a : Addr, a ≠ v.own → ∀ m ∈ t.member a, m.stale = true) ∧ (∀ a : Addr, t.isMember a = v.isMember a) ∧
      t.ct.table = v.ct.table ∧ t.alloc = v.alloc ∧ t.bus.lastSender = v.bus.lastSender ∧ t.bus.seq = v.bus.seq ∧
      (v.Tidy → v.ClosedHeads t .resync) ∧ v.Reannounced t := by
  obtain ⟨y, doubtful, shape, -, entered, -⟩ := v.lostFrame_doubtful (.inl synced)
  obtain ⟨event, same⟩ := entered synced
  have heads : v.Tidy → v.ClosedHeads y.closing .resync := fun tidy => by
    rw [same]
    exact tidy.lapsed_closedHeads
  have told := doubtful.reannounced
  have bus := y.closing_bus.trans doubtful.bus
  dsimp only
  rw [shape, (doubtful.concluded (doubtful.anyStale other member)).1]
  refine ⟨?_, ?_, ?_, fun b apart => ?_, fun b => ?_, ?_, ?_, lastSender_of_silenced bus, ?_, heads, told⟩
  · rw [State.closing_mu, doubtful.station]
  · rw [State.closing_hasEvent, event]
  · rw [State.closing_ct, doubtful.ct]
  · rw [State.closing_member]
    exact doubtful.marked apart
  · rw [State.closing_isMember, doubtful.isMember]
  · rw [State.closing_ct, doubtful.ct]
  · rw [State.closing_alloc, doubtful.alloc]
  · exact seq_of_silenced bus

/-- R123, R145: in RESYNC. -/
theorem lostFrame_resync (resync : v.mu.station = .resync) :
    let t := v.lostFrame.conclude
    t.mu.station = .resync ∧ t.ct.adoptionPending = true ∧ (∀ a : Addr, a ≠ v.own → ∀ m ∈ t.member a, m.stale = true) ∧
      (∀ a : Addr, t.isMember a = v.isMember a) ∧ t.ct.table = v.ct.table ∧ t.events = v.events ∧ t.rm = v.rm ∧ t.log = v.log ∧
      (∀ c : Chan, (t.chan c).valve = (v.chan c).valve) ∧ t.bus.lastSender = v.bus.lastSender := by
  obtain ⟨y, doubtful, shape, -, -, restarts⟩ := v.lostFrame_doubtful (.inr resync)
  obtain ⟨plant, -, -, -, events, -⟩ := v.remarked_parts
  rw [← restarts resync] at plant events
  dsimp only
  rw [shape, (doubtful.concluded (doubtful.anyStale other member)).1]
  refine ⟨?_, ?_, fun b apart => ?_, fun b => ?_, ?_, y.closing_events.trans events, y.closing_rm.trans (rm_of_plant plant),
    y.closing_log.trans (log_of_plant plant), fun c => ?_, lastSender_of_silenced (y.closing_bus.trans doubtful.bus)⟩
  · rw [State.closing_mu, doubtful.station]
  · rw [State.closing_ct, doubtful.ct]
  · rw [State.closing_member]
    exact doubtful.marked apart
  · rw [State.closing_isMember, doubtful.isMember]
  · rw [State.closing_ct, doubtful.ct]
  · exact (valve_of_mute (y.closing_chan c)).trans (congrArg Channel.valve (chan_of_chans (chans_of_plant plant) c))

end

/-- R123, R142: in LISTENING. -/
theorem lostFrame_listening (listening : v.mu.station = .listening) :
    let t := v.lostFrame.conclude
    t.mu.station = .listening ∧ t.mu.listenWindow = some 4000 ∧ (∀ a : Addr, t.member a = none) ∧ t.mu.orphans = [] ∧
      t.bus.outbound = [] ∧ t.bus.seq = 0 ∧ t.bus.failures = v.bus.failures ∧ t.ct.adoptionPending = true ∧
      t.ct.flags = v.ct.flags ∧ t.alloc = ⟨0, 0, 0, true, false⟩ := by
  have mu := v.relisten_mu v.mu.cause v.bus.failures
  have ct := v.relisten_ct v.mu.cause v.bus.failures
  have bus := v.relisten_bus v.mu.cause v.bus.failures
  have alloc := v.relisten_alloc v.mu.cause v.bus.failures
  dsimp only
  rw [State.lostFrame_of_listening listening, (v.relisten_concluded _ _).2]
  generalize v.relisten v.mu.cause v.bus.failures = t at *
  refine ⟨by rw [mu], by rw [mu], fun b => ?_, by rw [mu], by rw [bus], by rw [bus], by rw [bus], by rw [ct], by rw [ct], alloc⟩
  unfold State.member
  rw [mu]
  exact Vector.getElem_replicate ..

/-- R123: in CONFIG, CLASH and ISOLATED. -/
theorem lostFrame_silent (here : v.mu.station = .config ∨ v.mu.station = .clash ∨
    (v.mu.station = .isolated ∧ (v.mu.cause ≠ .selfDrop ∨ v.settled = false))) :
    v.lostFrame.conclude = v.setHu { v.hu with ackPending := v.hu.ackPending && !v.settled } := by
  obtain ⟨synced, resync, listening, silent⟩ : v.mu.station ≠ .synced ∧ v.mu.station ≠ .resync ∧ v.mu.station ≠ .listening ∧
      v.mu.station.silent = true := by
    rcases here with same | same | ⟨same, -⟩
    · rw [same]
      exact ⟨nofun, nofun, nofun, rfl⟩
    · rw [same]
      exact ⟨nofun, nofun, nofun, rfl⟩
    · rw [same]
      exact ⟨nofun, nofun, nofun, rfl⟩
  have stays : ¬ v.Quits := fun ⟨station, cause, settled⟩ => by
    rcases here with same | same | ⟨-, other | moves⟩
    · rw [same] at station
      cases station
    · rw [same] at station
      cases station
    · exact other cause
    · rw [settled] at moves
      cases moves
  rw [State.lostFrame_of_other synced resync listening, State.conclude_of_not_quits stays, State.closing_of_silent silent]

/-- R123: in LEAVING. -/
theorem lostFrame_leaving (leaving : v.mu.station = .leaving) : v.lostFrame.conclude = v.closing := by
  rw [State.lostFrame_of_other (by rw [leaving]; nofun) (by rw [leaving]; nofun) (by rw [leaving]; nofun),
    State.conclude_of_not_quits (State.not_quits_of_loud (by rw [leaving]; rfl))]

/-- R124: in CONFIG a frame of another station is not applied. -/
theorem takeFrame_of_config {a : Addr} {seq : Seq} {body : FrameBody} (released : s.inReset = false) (receives : s.canReceive = true)
    (other : a ≠ s.own) (config : s.mu.station = .config) (fits : bodyFits body = true) : s.takeFrame a seq body =
      { s with bus := { s.bus with lastSender := a, rxReady := false, access := .closed } } := by
  unfold State.takeFrame
  rw [State.whenReleased_of_released _ released]
  unfold State.receiveFrame
  rw [if_pos receives, if_pos fits]
  unfold State.classify
  dsimp only
  rw [if_neg (show a ≠ s.endReception.own from other), if_pos (show s.endReception.mu.station = .config from config)]
  rfl

end Sys2Proof.Machine
end

section
namespace Sys2Proof
open Sys2Proof.Machine

/-- Settles O27: a lost frame by the station state in which it is lost. -/
theorem lostFramesByStationState : Obligations.LostFramesByStationState := by
  unfold Obligations.LostFramesByStationState
  intro s chars a seq set clear released receives error
  have lost := exec_receiveError released receives error
  refine ⟨fun synced ⟨b, other, member⟩ => ⟨_, lost, ?_⟩, fun resync ⟨b, other, member⟩ => ⟨_, lost, ?_⟩,
    fun listening => ⟨_, lost, ?_⟩, fun here => ⟨_, lost, ?_⟩, fun leaving => ⟨_, lost, ?_⟩, fun synced other member gap => ?_,
    State.hasGap_iff, fun other member gap => ⟨fun resync => ?_, fun listening => ?_, fun here => ?_⟩,
    fun config other => congrArg Host.Outcome.next (takeFrame_of_config released receives other config rfl)⟩
  · obtain ⟨station, event, adoption, marked, members, table, alloc, sender, seq', heads, told⟩ :=
      lostFrame_synced (v := s.endReception) other member synced
    generalize s.endReception.lostFrame.conclude = t at *
    exact ⟨station, event, adoption, marked, members, table, alloc, sender, seq',
      fun runs one => heads (tidy_of_rm (s := s) rfl (State.tidy_of_sound runs one)), told⟩
  · have stands := lostFrame_resync (v := s.endReception) other member resync
    generalize s.endReception.lostFrame.conclude = t at *
    exact stands
  · have stands := lostFrame_listening (v := s.endReception) listening
    generalize s.endReception.lostFrame.conclude = t at *
    exact stands
  · rw [lostFrame_silent (v := s.endReception) here]
    exact ⟨rfl, rfl, rfl, rfl, rfl, rfl, rfl⟩
  · rw [lostFrame_leaving (v := s.endReception) leaving]
    have bus := s.endReception.closing_bus
    refine ⟨State.closing_mu _, State.closing_ct _, State.closing_rm _, State.closing_log _, State.closing_events _, ?_, ?_, ?_, ?_,
      fun c => with_announced_of_mute (State.closing_chan _ c)⟩
    · exact (seq_of_silenced bus).trans rfl
    · exact (failures_of_silenced bus).trans rfl
    · exact (lastSender_of_silenced bus).trans rfl
    · exact (beatTimer_of_silenced bus).trans rfl
  · obtain ⟨x, flagged, taken, -⟩ := takeFrame_flag_of_gap released receives other (by rw [synced]; nofun) gap
    refine ⟨_, congrArg Host.Outcome.next taken, ?_⟩
    obtain ⟨flags, station, event, adoption, sender, marked, record, members, recomputed, reannounced⟩ :=
      flagged.gapped (.inl synced) other member
    refine ⟨flags, station, event synced, adoption, sender, marked, record, members, recomputed, reannounced, fun runs one => ?_⟩
    obtain ⟨quiet, shuts⟩ := gapped_closes true (flagged.tidy (State.tidy_of_sound runs one)) (flagged.station.trans synced)
      (by rw [flagged.own]; exact other) ((flagged.isMember a).trans member)
    exact ⟨quiet, fun c r head flows drives slow => shuts c _ (flagged.draws (State.draws_of_flowing head flows drives slow))⟩
  · obtain ⟨x, flagged, taken, -⟩ := takeFrame_flag_of_gap released receives other (by rw [resync]; nofun) gap
    refine ⟨_, congrArg Host.Outcome.next taken, ?_⟩
    obtain ⟨flags, station, -, adoption, sender, marked, record, members, -⟩ := flagged.gapped (.inr resync) other member
    exact ⟨flags, station, adoption, sender, marked, record, members⟩
  · obtain ⟨x, flagged, taken, -⟩ := takeFrame_flag_of_gap released receives other (by rw [listening]; nofun) gap
    exact ⟨_, congrArg Host.Outcome.next taken, flagged.relistened listening member⟩
  · have config : s.mu.station ≠ .config := by
      rcases here with same | same | ⟨same, -⟩
      · rw [same]
        nofun
      · rw [same]
        nofun
      · rw [same]
        nofun
    obtain ⟨x, flagged, taken, applied⟩ := takeFrame_flag_of_gap released receives other config gap
    exact ⟨_, congrArg Host.Outcome.next taken, flagged.stood applied member here⟩

end Sys2Proof
end

section
/-!
SUPPORT. What a clean send leaves on the bus (R120), whatever the frame does besides.
-/

namespace Sys2Proof.Machine

variable {s h t u v x y : State} {z : Transmission}

/-- R120: the bus after a clean send of `z`, its outbound set aside. -/
structure State.Counts (s : State) (z : Transmission) (b : BusUnit) : Prop where
  tx : b.tx = none
  failures : b.failures = 0
  seq : b.seq = s.bus.seq + 1
  beatTimer : b.beatTimer = if z.item = .beat then some 2000 else s.bus.beatTimer
  lastSender : b.lastSender = s.own
  rxReady : b.rxReady = false
  access : b.access = .closed

theorem State.countSent_counts (s : State) (z : Transmission) : s.Counts z (s.countSent z).bus := ⟨rfl, rfl, rfl, rfl, rfl, rfl, rfl⟩

theorem State.Counts.of_silenced {a b : BusUnit} (counts : s.Counts z a) (same : { b with outbound := [] } = { a with outbound := [] }) :
    s.Counts z b := by
  have tx := congrArg BusUnit.tx same
  have rxReady := congrArg BusUnit.rxReady same
  have access := congrArg BusUnit.access same
  exact ⟨tx.trans counts.tx, (failures_of_silenced same).trans counts.failures, (seq_of_silenced same).trans counts.seq,
    (beatTimer_of_silenced same).trans counts.beatTimer, (lastSender_of_silenced same).trans counts.lastSender,
    rxReady.trans counts.rxReady, access.trans counts.access⟩

theorem exec_frameSent (released : s.inReset = false) (sends : s.bus.tx = some z) :
    exec .frameSent s = .next (if z.item = .leave then (s.countSent z).enterConfig.conclude else (s.countSent z).applyFrame z.frame) := by
  refine congrArg Host.Outcome.next ((if_neg (by rw [released]; exact Bool.false_ne_true)).trans ?_)
  unfold State.sendClean
  rw [sends]

theorem State.staysOnFrame_of_loud (loud : s.mu.station ≠ .isolated) : s.StaysOnFrame := .inl (.inl loud)

/-- R126, R145: a report of a gap and the test of the stale set write the outbound set alone of the bus, and neither the flags nor
the pointers. -/
theorem State.checked_parts (v : State) (gap : Bool) (synced : v.mu.station = .synced) :
    let t := (if gap = true then v.lostFrame else v).staleTest.conclude
    { t.bus with outbound := [] } = { v.bus with outbound := [] } ∧ t.ct.flags = v.ct.flags ∧ t.ct.pointers = v.ct.pointers := by
  dsimp only
  cases gap with
  | false =>
    rw [if_neg Bool.false_ne_true, State.conclude_staleTest v (State.staysOnFrame_of_loud (by rw [synced]; exact nofun))]
    exact ⟨v.rested_silenced, v.rested_flags, v.rested_pointers⟩
  | true =>
    obtain ⟨y, doubtful, lost, -⟩ := v.lostFrame_doubtful (.inl synced)
    have ct := doubtful.ct
    have bus := doubtful.bus
    have first := y.staleTest_silenced
    obtain ⟨-, -, -, -, -, -, -, tested, -⟩ := y.staleTest_parts
    have loud : y.staleTest.mu.station ≠ .isolated := by
      rcases y.staleTest_station with same | ⟨-, same⟩
      · rw [same, doubtful.station]
        exact nofun
      · rw [same]
        exact nofun
    rw [if_pos rfl, lost]
    generalize y.staleTest = w at *
    rw [State.conclude_staleTest w (State.staysOnFrame_of_loud loud)]
    refine ⟨w.rested_silenced.trans (first.trans bus), w.rested_flags.trans ((flags_of_adoption tested).trans ?_),
      w.rested_pointers.trans ((pointers_of_adoption tested).trans ?_)⟩
    · rw [ct]
    · rw [ct]

/-- A FLAG frame sent clean in SYNCED. -/
theorem sentFlag (synced : s.mu.station = .synced) {set clear : BitVec 16} (body : z.frame.body = .flag set clear) :
    let t := (s.countSent z).applyFrame z.frame
    s.Counts z t.bus ∧ t.ct.flags = (s.ct.flags ||| set) &&& ~~~clear ∧ t.ct.pointers = s.ct.pointers := by
  obtain ⟨frame, item, place⟩ := z
  obtain ⟨a, seq, c⟩ := frame
  dsimp only at body ⊢
  subst body
  have counted := s.countSent_counts ⟨⟨a, seq, .flag set clear⟩, item, place⟩
  have ct : ((s.countSent ⟨⟨a, seq, .flag set clear⟩, item, place⟩).hear ⟨a, seq, .flag set clear⟩).ct = s.ct := rfl
  have shape : ∀ u : State, u.applyFrame ⟨a, seq, .flag set clear⟩ = (if u.hasGap ⟨a, seq, .flag set clear⟩ = true then
      (((u.hear ⟨a, seq, .flag set clear⟩).applyFlag set clear).recompute.evaluateIf true).lostFrame else
      ((u.hear ⟨a, seq, .flag set clear⟩).applyFlag set clear).recompute.evaluateIf true).staleTest.conclude := fun u => rfl
  rw [shape]
  generalize (s.countSent ⟨⟨a, seq, .flag set clear⟩, item, place⟩).hasGap ⟨a, seq, .flag set clear⟩ = gap
  have station : ((s.countSent ⟨⟨a, seq, .flag set clear⟩, item, place⟩).hear ⟨a, seq, .flag set clear⟩).mu.station = s.mu.station := rfl
  have bus : ((s.countSent ⟨⟨a, seq, .flag set clear⟩, item, place⟩).hear ⟨a, seq, .flag set clear⟩).bus =
      (s.countSent ⟨⟨a, seq, .flag set clear⟩, item, place⟩).bus := rfl
  generalize (s.countSent ⟨⟨a, seq, .flag set clear⟩, item, place⟩).hear ⟨a, seq, .flag set clear⟩ = h at *
  have written : (h.applyFlag set clear).ct = { h.ct with flags := (h.ct.flags ||| set) &&& ~~~clear } := rfl
  have mu : (h.applyFlag set clear).mu = h.mu := rfl
  have still : (h.applyFlag set clear).bus = h.bus := rfl
  generalize h.applyFlag set clear = x at *
  have settled : (x.recompute.evaluateIf true).ct = { x.ct with table := x.allocate.table } := by
    rw [State.evaluateIf_ct, x.recompute_ct]
  have own : { (x.recompute.evaluateIf true).bus with outbound := [] } = { x.bus with outbound := [] } :=
    (silenced_of_bare (State.evaluateIf_bare _ true)).trans x.recompute_silenced
  have here : (x.recompute.evaluateIf true).mu.station = .synced := by
    rw [State.evaluateIf_mu, x.recompute_mu, mu, station]
    exact synced
  generalize x.recompute.evaluateIf true = v at *
  obtain ⟨silenced, flags, pointers⟩ := v.checked_parts gap here
  refine ⟨counted.of_silenced (silenced.trans (own.trans ?_)), flags.trans ?_, pointers.trans ?_⟩
  · rw [still, bus]
  · rw [settled, written, ct]
  · rw [settled, written, ct]

end Sys2Proof.Machine
end

section
/-!
SUPPORT. A frame sent clean in SYNCED, RESYNC or LEAVING, its bookkeeping (R120) beside its application.
-/

namespace Sys2Proof.Machine

variable {s h t u v w x y : State} {z : Transmission} {f : Frame}

/-! ### Bodies that leave the station where it is -/

/-- `x` comes from `h` without a change of the station state, of the bus beyond its outbound set, or of what is pending. -/
structure State.Steady (h x : State) : Prop where
  station : x.mu.station = h.mu.station
  bus : { x.bus with outbound := [] } = { h.bus with outbound := [] }
  spoken : h.Spoken x

namespace State.Steady

theorem of_plant (station : x.mu.station = h.mu.station) (plant : x.plant = h.plant) : h.Steady x :=
  ⟨station, by rw [bus_of_plant plant], .of_plant plant⟩

theorem refl (h : State) : h.Steady h := of_plant rfl rfl

theorem enterHalted (h : State) (r : BitVec 4) (g : HaltUnit → HaltUnit) : h.Steady (h.enterHalted r g) := by
  refine ⟨by rw [State.enterHalted_mu], (silenced_of_bare (h.enterHalted_bare r g)).trans ?_, .enterHalted h r g⟩
  rw [bus_of_calm (h.halting_calm r g)]

theorem applyHalt (h : State) (r : BitVec 4) : h.Steady (h.applyHalt r) := by
  have spoken := State.Spoken.applyHalt h r
  unfold State.applyHalt at spoken ⊢
  split
  · exact of_plant rfl rfl
  · split
    · exact enterHalted h _ _
    · exact enterHalted h _ _

theorem applyRelease (h : State) : h.Steady h.applyRelease := by
  obtain ⟨same, -, -⟩ := h.applyRelease_parts
  have mu : h.applyRelease.mu = h.mu := mu_of_bare (s := h.applyRelease.calm) (t := h.calm) same
  exact ⟨congrArg MemberUnit.station mu, silenced_of_bare (s := h.applyRelease.calm) (t := h.calm) same, .applyRelease h⟩

theorem applyDrop (h : State) {target : Byte} (apart : toAddr target = some h.own → h.mu.station.active = false) :
    h.Steady (h.applyDrop target) := by
  cases named : toAddr target with
  | none =>
    rw [State.applyDrop_of_none named]
    exact refl h
  | some d =>
    rw [State.applyDrop_of_some named]
    split
    · next here =>
      rw [State.selfDrop_of_idle (apart (named.trans (congrArg some here)))]
      exact refl h
    · split
      · next member => exact of_plant (State.dropMember_left member).station (h.dropMember_plant d)
      · exact refl h

theorem applyPurge (h : State) {target : Byte} (apart : toAddr target = some h.own → h.mu.station.active = false) :
    h.Steady (h.applyPurge target) := by
  cases named : toAddr target with
  | none =>
    rw [State.applyPurge_of_none named]
    exact refl h
  | some d =>
    rw [State.applyPurge_of_some named]
    split
    · next here =>
      rw [State.selfDrop_of_idle (apart (named.trans (congrArg some here)))]
      exact refl h
    · split
      · next held => exact of_plant (by rw [(State.dropOrphan_parts held).1]) (h.dropOrphan_plant d)
      · by_cases member : h.isMember d = true
        · exact of_plant (State.removeMember_left member).station (h.removeMember_plant d)
        · rw [h.removeMember_of_not_member (Bool.eq_false_iff.2 member)]
          exact refl h

end State.Steady

/-- R127: a body of the station's own, other than a BEAT and other than a DROP or PURGE of itself. -/
theorem State.steady_of_own (sender : f.sender = h.own) (beat : ∀ b, f.body ≠ .beat b)
    (apart : ∀ target, f.body = .drop target ∨ f.body = .purge target → toAddr target = some h.own → h.mu.station.active = false) :
    h.Steady (h.bodied f) := by
  obtain ⟨a, seq, body⟩ := f
  dsimp only at sender beat apart
  cases body with
  | beat b => exact absurd rfl (beat b)
  | claim channel level demand phase cause =>
    obtain ⟨table, pointers, shape⟩ := h.applyClaim_cases a channel level demand phase cause
    have station : (h.applyClaim a channel level demand phase cause).mu.station = h.mu.station := by rw [shape]; rfl
    exact .of_plant station (h.applyClaim_plant a channel level demand phase cause)
  | flag set clear => exact .of_plant rfl rfl
  | gauge g => exact .of_plant rfl rfl
  | drop target => exact .applyDrop h (apart target (.inl rfl))
  | purge target => exact .applyPurge h (apart target (.inr rfl))
  | leave =>
    have same : h.applyLeave a = h := if_pos sender
    have shape : h.bodied ⟨a, seq, .leave⟩ = h := same
    rw [shape]
    exact .refl h
  | halt r => exact .applyHalt h (toReasons r)
  | haltAck m =>
    have station := congrArg MemberUnit.station (mu_of_calm (h.applyHaltAck_calm a m))
    exact .of_plant station (h.applyHaltAck_plant a m)
  | release => exact .applyRelease h

/-! ### The bookkeeping -/

theorem countedSent_of_settle (bus : { x.bus with outbound := [] } = { (s.countSent z).bus with outbound := [] })
    (spoken : s.Spoken x) (p : Bool) : s.CountedSent ((x.recompute.evaluateIf p).rested) z := by
  have counts := s.countSent_counts z |>.of_silenced ((settle_silenced x p).trans bus)
  have keys := ((spoken.trans (.settle x p)).trans (.rested _)).keys
  generalize (x.recompute.evaluateIf p).rested = t at *
  obtain ⟨tx, failures, seq, beatTimer, lastSender, rxReady, access⟩ := counts
  refine ⟨tx, failures, lastSender, rxReady, access, fun _ => ⟨seq, beatTimer, fun g pending => keys g ⟨g, pending, ?_⟩⟩⟩
  exact OutFrame.sameKey_of_key rfl

/-- R136, R149, R150: a DROP or PURGE of the own address ends what the bus was to count. -/
theorem selfDropped_bus (h : State) (b : Bool) :
    let t := ((h.enterIsolated .selfDrop).recompute.evaluateIf b).staleTest.conclude
    t.mu.station.active = false ∧ t.bus.tx = h.bus.tx ∧ t.bus.lastSender = h.bus.lastSender ∧ t.bus.rxReady = h.bus.rxReady ∧
      t.bus.access = h.bus.access := by
  dsimp only
  obtain ⟨out, still, -, bus, -⟩ := h.enterIsolated_out .selfDrop
  generalize h.enterIsolated .selfDrop = x at *
  obtain ⟨busT, -⟩ := settle_silent (by rw [out.station]; rfl) still b
  have mu : (x.recompute.evaluateIf b).mu = x.mu := (State.evaluateIf_mu _ b).trans x.recompute_mu
  have off : (x.recompute.evaluateIf b).mu.station ≠ .resync := by rw [mu, out.station]; decide
  have final : (x.recompute.evaluateIf b).staleTest.conclude = (x.recompute.evaluateIf b).rested.relistenTest := by
    rw [State.staleTest_of_other off, State.conclude_eq_closing, State.rested_of_other off]
  have station : ((x.recompute.evaluateIf b).rested).mu.station = .isolated := by
    rcases settle_station x b with same | ⟨resync, -⟩
    · exact same.trans out.station
    · rw [out.station] at resync
      cases resync
  rw [final]
  generalize (x.recompute.evaluateIf b).rested = y at *
  have parked := busT.trans bus
  by_cases settled : y.mu.station = .isolated ∧ y.mu.cause = .selfDrop ∧ y.settled = true
  · obtain ⟨here, cause, settled⟩ := settled
    rw [State.relistenTest_of_settled here cause settled, State.relisten_bus, State.relisten_mu, parked]
    exact ⟨rfl, rfl, rfl, rfl, rfl⟩
  · rw [State.relistenTest_of_other settled, parked, station]
    exact ⟨rfl, rfl, rfl, rfl, rfl⟩

/-- R120, R126: a clean send in SYNCED, RESYNC or LEAVING is an applied frame without a gap. -/
theorem exec_frameSent_of_sends (sends : s.Sends z) : ∃ h, s.Heard h z.frame ∧ h.bus = (s.countSent z).bus ∧
    exec .frameSent s = .next ((h.answered z.frame).staleTest.conclude) := by
  obtain ⟨released, tx, sender, -, item, number⟩ := sends
  have heard : s.Heard ((s.countSent z).hear z.frame) z.frame := State.hear_heard rfl sender.symm rfl
  have gap : (s.countSent z).hasGap z.frame = false := by
    refine Bool.eq_false_iff.2 fun gap => ?_
    obtain ⟨m, found, differs⟩ := State.hasGap_iff.1 gap
    have here : s.member s.own = some m := (congrArg s.member sender).symm.trans (Option.mem_def.1 found)
    rw [here] at number
    exact differs (eq_of_beq number).symm
  refine ⟨_, heard, rfl, (exec_frameSent released tx).trans ?_⟩
  rw [if_neg item, State.applyFrame_of_next gap]

theorem State.isMember_of_sends (sends : s.Sends z) : s.isMember z.frame.sender = true := by
  obtain ⟨-, -, sender, -, -, number⟩ := sends
  rw [sender]
  unfold State.isMember
  cases found : s.member s.own with
  | none =>
    rw [found] at number
    cases number
  | some m => rfl

section
variable (sends : s.Sends z) (heard : s.Heard h z.frame) (bus : h.bus = (s.countSent z).bus)
include sends heard bus

/-- R120, R127: the own BEAT. -/
theorem sentBeat {b : BeatBody} (body : z.frame.body = .beat b) :
    s.CountedSent ((h.answered z.frame).staleTest.conclude) z ∧
      s.BeatEntered ((h.answered z.frame).staleTest.conclude) s.own z.frame.seq b none ∧
      s.ViewTaken ((h.answered z.frame).staleTest.conclude) s.own b s.mu.orphans s.isMember ∧
      (s.RunsSound → s.OneHead → (s.Adopts → ∃ d : Addr, d ≠ s.own ∧ s.isMember d = true) →
        s.HaltPartTaken ((h.answered z.frame).staleTest.conclude) s.own b) := by
  have member := State.isMember_of_sends sends
  obtain ⟨-, -, sender, active, -, -⟩ := sends
  have config : s.mu.station ≠ .config := fun same => by
    rw [same] at active
    cases active
  have loud : s.mu.station ≠ .isolated := fun same => by
    rw [same] at active
    cases active
  obtain ⟨⟨a, seq, body'⟩, item, place⟩ := z
  dsimp only at body sender member heard ⊢
  subst body sender
  obtain ⟨u, x, intro', beaten, same, spoken, -, answered⟩ := heard.beat (.inl member)
  rw [answered, State.conclude_settled (beaten.staysOnFrame intro' (State.staysOnFrame_of_loud loud))]
  generalize evaluationDue _ h x = p
  have kept : s.mu.orphans = s.keptOrphans s.own := (if_pos member).symm
  have entered := beaten.beatEntered intro' p
  rw [if_pos rfl] at entered
  have roster : ∀ d, s.isMember d = (s.isMember d || d == s.own) := fun d => by
    by_cases here : d = s.own
    · rw [here, member, Bool.true_or]
    · rw [beq_eq_false_iff_ne.2 here, Bool.or_false]
  refine ⟨countedSent_of_settle (same.trans (by rw [bus])) spoken p, entered, beaten.viewTaken intro' p config kept roster,
    fun runs one left => beaten.haltPartTaken intro' p config runs one fun adopts => ?_⟩
  obtain ⟨d, apart, known⟩ := left adopts
  exact ⟨d, apart, .inr known⟩

/-- R120, R127: an own frame other than a BEAT. -/
theorem sentOther (beat : ∀ b, z.frame.body ≠ .beat b) :
    s.CountedSent ((h.answered z.frame).staleTest.conclude) z ∧
      ((∀ target, z.frame.body ≠ .drop target ∧ z.frame.body ≠ .purge target) →
        (h.answered z.frame).staleTest.conclude = (h.answered z.frame).rested) := by
  obtain ⟨-, -, sender, active, -, -⟩ := sends
  have loud : h.mu.station ≠ .isolated := fun same => by
    rw [heard.station.symm.trans same] at active
    cases active
  by_cases self : ∃ target, (z.frame.body = .drop target ∨ z.frame.body = .purge target) ∧ toAddr target = some h.own
  · obtain ⟨target, named, own⟩ := self
    refine ⟨?_, fun others => absurd named (not_or.2 (others target))⟩
    have self : h.bodied z.frame = h.enterIsolated .selfDrop := by
      have drops : h.selfDrop = h.enterIsolated .selfDrop := State.selfDrop_of_active (by rw [heard.station]; exact active)
      unfold State.bodied State.applyBody
      rcases named with named | named <;> rw [named]
      · exact (State.applyDrop_of_some own).trans ((if_pos rfl).trans drops)
      · exact (State.applyPurge_of_some own).trans ((if_pos rfl).trans drops)
    obtain ⟨p, shape⟩ : ∃ p, h.answered z.frame = (h.enterIsolated .selfDrop).recompute.evaluateIf p := by
      unfold State.answered
      rw [self]
      exact ⟨_, rfl⟩
    have ended := selfDropped_bus h p
    have dropped := heard.selfDropped p
    rw [shape]
    generalize ((h.enterIsolated .selfDrop).recompute.evaluateIf p).staleTest.conclude = t at *
    obtain ⟨idle, tx, lastSender, rxReady, access⟩ := ended
    obtain ⟨-, -, -, -, failures, -⟩ := dropped
    have counts := s.countSent_counts z
    rw [← bus] at counts
    refine ⟨tx.trans counts.tx, failures, lastSender.trans counts.lastSender, rxReady.trans counts.rxReady,
      access.trans counts.access, fun again => ?_⟩
    rw [idle] at again
    cases again
  · have steady := State.steady_of_own (f := z.frame) (sender.trans heard.own.symm) beat fun target named own =>
      absurd ⟨target, named, own⟩ self
    obtain ⟨p, shape⟩ : ∃ p, h.answered z.frame = (h.bodied z.frame).recompute.evaluateIf p := ⟨_, rfl⟩
    rw [shape, State.conclude_settled (State.staysOnFrame_of_loud (by rw [steady.station]; exact loud))]
    refine ⟨?_, fun _ => rfl⟩
    have spoken : s.Spoken h := .of_parts heard.outbound fun c => congrArg Channel.announced (heard.chan c)
    exact countedSent_of_settle (steady.bus.trans (by rw [bus])) (spoken.trans steady.spoken) p

/-- R120, R127: everything that a clean send of SYNCED, RESYNC and LEAVING does, by the body of the frame. -/
theorem sentFrame (b : BeatBody) :
    let t := (h.answered z.frame).staleTest.conclude
    s.CountedSent t z ∧
      (∀ channel level demand phase cause, z.frame.body = .claim channel level demand phase cause →
        s.ClaimApplied t s.own channel level demand phase cause) ∧
      (∀ set clear, z.frame.body = .flag set clear → s.FlagApplied t set clear) ∧
      (∀ g, z.frame.body = .gauge g → s.GaugeApplied t s.own g) ∧
      (∀ target, z.frame.body = .drop target → s.DropApplied t target) ∧
      (∀ target, z.frame.body = .purge target → s.PurgeApplied t target) ∧
      (∀ reasons, z.frame.body = .halt reasons → s.HaltApplied t reasons) ∧
      (∀ mask, z.frame.body = .haltAck mask → s.AckApplied t s.own mask) ∧
      (z.frame.body = .release → s.ReleaseApplied t) ∧
      (z.frame.body = .beat b →
        s.BeatEntered t s.own z.frame.seq b none ∧ s.ViewTaken t s.own b s.mu.orphans s.isMember ∧
        (s.RunsSound → s.OneHead → (s.Adopts → ∃ d : Addr, d ≠ s.own ∧ s.isMember d = true) →
          s.HaltPartTaken t s.own b)) := by
  dsimp only
  have member := State.isMember_of_sends sends
  have beats := fun b => sentBeat sends heard bus (b := b)
  have others := sentOther sends heard bus
  obtain ⟨-, -, sender, active, -, -⟩ := sends
  have stays : h.StaysOnFrame := State.staysOnFrame_of_loud fun same => by
    rw [heard.station.symm.trans same] at active
    cases active
  have counted : s.CountedSent ((h.answered z.frame).staleTest.conclude) z := by
    by_cases beat : ∃ b, z.frame.body = .beat b
    · obtain ⟨b, body⟩ := beat
      exact (beats b body).1
    · exact (others fun b body => beat ⟨b, body⟩).1
  have concluded : (∀ b, z.frame.body ≠ .beat b) → (∀ target, z.frame.body ≠ .drop target ∧ z.frame.body ≠ .purge target) →
      (h.answered z.frame).staleTest.conclude = (h.answered z.frame).rested := fun beat => (others beat).2
  refine ⟨counted, fun channel level demand phase cause body => ?_, fun set clear body => ?_, fun g body => ?_,
    fun target body => heard.dropApplied body stays, fun target body => heard.purgeApplied body stays, fun reasons body => ?_,
    fun mask body => ?_, fun body => ?_, fun body => (beats b body).2⟩ <;>
    rw [concluded (by rw [body]; nofun) (by rw [body]; exact fun target => ⟨nofun, nofun⟩)]
  · rw [← sender]
    exact heard.claimApplied body
  · exact heard.flagApplied body
  · rw [← sender]
    exact heard.gaugeApplied body member
  · exact heard.haltApplied body member
  · rw [← sender]
    exact heard.ackApplied body
  · exact heard.releaseApplied body member

end

end Sys2Proof.Machine
end

section
/-!
SUPPORT. The clean send of the LEAVE frame (R147).
-/

namespace Sys2Proof.Machine

variable {s : State} {z : Transmission}

section
variable (s : State)

theorem State.configured_hu : s.configured.hu = { s.hu.clearRound with settle := 0, ackPending := false } := by
  have hu : ((((s.setStation .config).emptyCopy.announceGone).setAdoption false)).hu = s.hu := by
    unfold State.setAdoption State.announceGone
    rw [State.setCt_hu, State.setChans_hu, State.emptyCopy_hu]
    rfl
  unfold State.configured
  dsimp only
  rw [State.setMu_hu, State.setHu_hu, hu]

theorem State.configured_chan (c : Chan) : s.configured.chan c = { s.chan c with announced := .gone none } := by
  have chans : (s.setStation .config).emptyCopy.chans = s.chans := chans_of_plant ((s.setStation .config).emptyCopy_plant.trans rfl)
  have gone : s.configured.chans = mapVec (fun ch => { ch with announced := .gone none }) s.chans := by
    unfold State.configured State.setAdoption
    dsimp only
    rw [State.setMu_chans, State.setHu_chans, State.setBus_chans, State.setCt_chans]
    unfold State.announceGone
    rw [State.setChans_chans, chans]
  unfold State.chan
  rw [gone, mapVec_get]

theorem State.configured_events : s.configured.events = (s.setStation .config).emptyCopy.events := by
  unfold State.configured State.setAdoption State.announceGone
  dsimp only
  rw [State.setMu_events, State.setHu_events, State.setBus_events, State.setCt_events, State.setChans_events]

theorem State.configured_allocate : s.configured.allocate.table = Table.empty ∧
    s.configured.allocate.result = ⟨0, 0, 0, true, false⟩ :=
  State.allocate_of_empty (by rw [State.configured_ct]) (by rw [State.configured_mu]) (by rw [State.configured_mu])
    (by rw [State.configured_ct])

theorem State.enterConfig_mu : s.enterConfig.mu =
    { s.mu with station := .config, roster := Roster.empty, orphans := [], listenWindow := none } := by
  rw [State.enterConfig_eq, State.evaluateIf_mu, State.recompute_mu, State.configured_mu]

theorem State.enterConfig_ct : s.enterConfig.ct =
    { s.ct with table := Table.empty, capacityView := 0, announcedSet := [], adoptionPending := false } := by
  rw [State.enterConfig_eq, State.evaluateIf_ct, State.recompute_ct, s.configured_allocate.1, State.configured_ct]

theorem State.enterConfig_alloc : s.enterConfig.alloc = ⟨0, 0, 0, true, false⟩ := by
  rw [State.enterConfig_eq, alloc_of_bare (State.evaluateIf_bare _ _), State.recompute_alloc, s.configured_allocate.2]

theorem State.enterConfig_hu : s.enterConfig.hu = { s.hu.clearRound with settle := 0, ackPending := false } := by
  rw [State.enterConfig_eq, State.evaluateIf_hu, State.recompute_hu, State.configured_hu]

theorem State.enterConfig_chain : RunSide ((s.configured.setTable s.configured.allocate.table).setAlloc
    s.configured.allocate.result) s.enterConfig := by
  rw [State.enterConfig_eq]
  exact RunSide.settleCopy _ _

theorem State.enterConfig_silent : ((s.configured.setTable s.configured.allocate.table).setAlloc
    s.configured.allocate.result).mu.station.silent = true := by
  rw [State.setAlloc_mu]
  unfold State.setTable
  rw [State.setCt_mu, State.configured_mu]
  rfl

theorem State.enterConfig_bus : s.enterConfig.bus = { s.bus with outbound := [], beatTimer := none } := by
  rw [s.enterConfig_chain.bus_of_silent s.enterConfig_silent, State.setAlloc_bus]
  unfold State.setTable
  rw [State.setCt_bus, State.configured_bus]

theorem State.enterConfig_announced (c : Chan) : (s.enterConfig.chan c).announced = .gone none := by
  rw [s.enterConfig_chain.announced_of_silent s.enterConfig_silent c, State.chan_written, State.configured_chan]

theorem State.hasEvent_enterConfig (e : SiteEvent) : s.enterConfig.hasEvent e =
    (s.hasEvent e || (s.rosterSet != 0 && decide (e = .rosterChanged)) ||
      (!s.mu.orphans.isEmpty && decide (e = .freezeChanged))) := by
  have events : s.enterConfig.events = (s.setStation .config).emptyCopy.events := by
    rw [State.enterConfig_eq, events_of_bare (State.evaluateIf_bare _ _), State.recompute_events, State.configured_events]
  rw [hasEvent_of_events events, State.hasEvent_emptyCopy]
  rfl

/-- R147: an entry to CONFIG owes nothing at the end of its event. -/
theorem State.enterConfig_concluded : s.enterConfig.conclude = s.enterConfig := by
  have station : s.enterConfig.mu.station = .config := by rw [s.enterConfig_mu]
  have clear : s.enterConfig.hu.ackPending = false := by rw [s.enterConfig_hu]
  generalize s.enterConfig = t at *
  rw [State.conclude_eq_closing, State.closing_of_calm (by rw [station]; rfl) clear]
  exact State.relistenTest_of_other fun same => by
    rw [station] at same
    exact absurd same.1 (by decide)

end

/-- R147, R169: the LEAVE frame sent clean. -/
theorem sentLeave (s : State) (z : Transmission) :
    let t := (s.countSent z).enterConfig.conclude
    t.mu.station = .config ∧ (∀ a : Addr, t.member a = none) ∧
      (∀ (a : Addr) (c : Chan), slot t.ct.table a c = none) ∧ t.mu.orphans = [] ∧ t.bus.outbound = [] ∧
      t.bus.tx = none ∧ t.bus.beatTimer = none ∧ t.bus.failures = 0 ∧ t.bus.seq = s.bus.seq + 1 ∧
      t.ct.adoptionPending = false ∧ t.ct.announcedSet = [] ∧ t.alloc = ⟨0, 0, 0, true, false⟩ ∧
      t.hu.round = .none ∧ t.hu.settle = 0 ∧ t.hu.ackPending = false ∧ (∀ c : Chan, (t.chan c).announced = .gone none) ∧
      (s.isMember s.own = true → t.hasEvent .rosterChanged = true) := by
  dsimp only
  have counts := s.countSent_counts z
  have members : (s.countSent z).isMember s.own = s.isMember s.own := rfl
  rw [State.enterConfig_concluded]
  generalize s.countSent z = u at *
  have mu := u.enterConfig_mu
  have ct := u.enterConfig_ct
  have hu := u.enterConfig_hu
  have bus := u.enterConfig_bus
  have alloc := u.enterConfig_alloc
  have announced := u.enterConfig_announced
  have events := u.hasEvent_enterConfig .rosterChanged
  generalize u.enterConfig = t at *
  refine ⟨by rw [mu], fun a => ?_, fun a c => ?_, by rw [mu], by rw [bus], ?_, by rw [bus], ?_, ?_, by rw [ct], by rw [ct], alloc,
    by rw [hu]; rfl, by rw [hu], by rw [hu], announced, fun own => ?_⟩
  · unfold State.member
    rw [mu]
    exact Vector.getElem_replicate ..
  · rw [ct]
    exact slot_empty a c
  · rw [bus]
    exact counts.tx
  · rw [bus]
    exact counts.failures
  · rw [bus]
    exact counts.seq
  · rw [events, bne_iff_ne.2 (State.rosterSet_ne_zero (members.trans own)), decide_eq_true rfl, Bool.true_and, Bool.or_true,
      Bool.true_or]

end Sys2Proof.Machine
end

section
/-!
SUPPORT. The own first BEAT sent clean in LISTENING (R143).
-/

namespace Sys2Proof.Machine

variable {s h t u v w x : State} {z : Transmission}

/-! ### The stages of a BEAT after its first -/

/-- `x` comes from `u` by stages of a BEAT that neither move the station nor change the roster. -/
structure State.Onward (u x : State) : Prop where
  station : x.mu.station = u.mu.station
  isMember : ∀ d, x.isMember d = u.isMember d
  bus : { x.bus with outbound := [] } = { u.bus with outbound := [] }
  keeps : ∀ e, u.hasEvent e = true → x.hasEvent e = true
  spoken : u.Spoken x
  adoption : u.AdoptionSound → x.AdoptionSound

theorem State.Onward.trans (first : u.Onward v) (second : v.Onward x) : u.Onward x :=
  ⟨second.station.trans first.station, fun d => (second.isMember d).trans (first.isMember d), second.bus.trans first.bus,
    fun e had => second.keeps e (first.keeps e had), first.spoken.trans second.spoken, fun sound => second.adoption (first.adoption sound)⟩

theorem State.applyGauge_onward (u : State) (a : Addr) (g : GaugeField) : u.Onward (u.applyGauge a g) :=
  ⟨rfl, fun d => State.isMember_modMember u a d _, rfl, fun _ had => had, .of_plant (State.modMember_plant u a _),
    adoptionSound_of_seat rfl⟩

theorem State.beatView_onward (u : State) (a : Addr) (b : BeatBody) (adopt : Bool) : u.Onward (u.beatView a b adopt) := by
  obtain ⟨mu, -, -, bus, keeps, -⟩ := u.beatView_viewed a b adopt
  have spoken := State.Spoken.beatView u a b adopt
  have adoption := u.beatView_adoptionSound a b adopt
  generalize u.beatView a b adopt = v at *
  refine ⟨by rw [mu], fun d => ?_, bus, keeps, spoken, adoption⟩
  unfold State.isMember State.member
  rw [mu]

theorem State.beatEntries_onward (v : State) (a : Addr) (items : List EntryItem) :
    v.Onward ((v.settleRemoval a).beatEntries a items).refreshView := by
  obtain ⟨mu, -, bus, -, chans, -, member, ct, events⟩ := v.beatEntries_parts a items
  generalize ((v.settleRemoval a).beatEntries a items).refreshView = x at *
  refine ⟨by rw [mu], fun d => ?_, by rw [bus], fun e had => ?_,
    .of_parts (by rw [bus]) fun c => congrArg Channel.announced (chan_of_chans chans c), adoptionSound_of_seat ?_⟩
  · unfold State.isMember
    rw [member]
    split
    · exact Option.isSome_map
    · rfl
  · rw [events, had, Bool.true_or]
  · unfold State.seat
    rw [ct, mu]

theorem State.applyBeat_onward (h : State) (a : Addr) (seq : Seq) (b : BeatBody) :
    (h.beatStation a seq b).Onward (h.applyBeat a seq b) :=
  ((State.applyGauge_onward _ a b.gauge).trans (State.beatView_onward _ a b h.ct.adoptionPending)).trans
    (State.beatEntries_onward _ a b.entries)

/-! ### The end of a frame in SYNCED -/

theorem settle_synced (p : Bool) (synced : x.mu.station = .synced) :
    let t := (x.recompute.evaluateIf p).rested
    t.mu.station = .synced ∧ t.ct.adoptionPending = x.ct.adoptionPending ∧ (∀ e, t.hasEvent e = x.hasEvent e) ∧ x.Spoken t ∧
      ∀ c, t.Holds c := by
  have mu : (x.recompute.evaluateIf p).mu = x.mu := (State.evaluateIf_mu _ p).trans x.recompute_mu
  have ct : (x.recompute.evaluateIf p).ct.adoptionPending = x.ct.adoptionPending := by rw [State.evaluateIf_ct, x.recompute_ct]
  have events : (x.recompute.evaluateIf p).events = x.events := (events_of_bare (State.evaluateIf_bare _ p)).trans x.recompute_events
  have spoken := State.Spoken.settle x p
  dsimp only
  generalize x.recompute.evaluateIf p = v at *
  have here : v.mu.station = .synced := by rw [mu]; exact synced
  rw [State.rested_of_other (by rw [here]; decide)]
  refine ⟨?_, ?_, fun e => ?_, spoken.trans (.closing v), State.closing_holds (by rw [here]; rfl)⟩
  · rw [State.closing_mu]
    exact here
  · rw [State.closing_ct]
    exact ct
  · rw [State.closing_hasEvent]
    exact hasEvent_of_events events e

/-! ### The entry to SYNCED -/

theorem State.enterSynced_silenced (w : State) : { w.enterSynced.bus with outbound := [] } = { w.bus with outbound := [] } := by
  refine (silenced_of_bare w.enterSynced_bare).trans ?_
  rfl

theorem State.isMember_enterSynced (w : State) (d : Addr) : w.enterSynced.isMember d = w.isMember d := by
  unfold State.isMember
  have same : w.enterSynced.member d = w.regained.member d := by
    unfold State.member
    rw [mu_of_bare w.enterSynced_bare]
  rw [same, member_regained, Option.isSome_map]

theorem State.hasEvent_enterSynced (w : State) (e : SiteEvent) :
    w.enterSynced.hasEvent e = (w.hasEvent e || decide (e = .syncRegained)) := by
  have events : w.enterSynced.events = w.regained.events := events_of_bare w.enterSynced_bare
  have raised : w.regained.events = ((w.setStation .synced).raise .syncRegained).events := rfl
  rw [hasEvent_of_events (events.trans raised), State.hasEvent_raise]
  rfl

/-- R134, R137: the own record at the station's first BEAT. -/
theorem State.withMember_parts (h : State) (a : Addr) (m : Member) : let w := h.withMember a m
    (∀ d, d ≠ a → w.member d = h.member d) ∧ w.isMember a = true ∧ w.hu = h.hu ∧ w.hasEvent .rosterChanged = true := by
  dsimp only
  have known : (h.withMember a m).isMember a = true := by
    rw [State.isMember_withMember, decide_eq_true rfl, Bool.or_true]
  refine ⟨fun d apart => ?_, known, ?_, ?_⟩
  · unfold State.withMember State.member
    rw [State.dropOrphan_mu]
    exact (h.member_setMember a d (some m)).trans (if_neg (Ne.symm apart))
  · unfold State.withMember
    rw [State.dropOrphan_hu]
    rfl
  · have raised : ((h.setMember a (some m)).raise .rosterChanged).hasEvent .rosterChanged = true := State.hasEvent_raise_same _ _
    unfold State.withMember State.dropOrphan
    split
    · exact State.setOrphans_keeps _ _ raised
    · exact raised

/-- R143: the own first BEAT, as its body ends. -/
theorem sentFirst (listening : s.mu.station = .listening) {b : BeatBody} {seq : Seq}
    (frame : z.frame = ⟨s.own, seq, .beat b⟩) (stranger : s.isMember s.own = false) :
    let t := (s.countSent z).applyFrame z.frame
    s.Counts z t.bus ∧ t.mu.station = .synced ∧ t.isMember s.own = true ∧ t.ct.adoptionPending = false ∧
      t.hasEvent .syncRegained = true ∧ t.hasEvent .rosterChanged = true ∧
      (∀ a : Addr, a ≠ s.own → (s.member a).any Member.silent = true → OutFrame.drop a ∈ t.bus.outbound) ∧
      (s.pressureLost = true → s.hu.halt ≠ .halted → t.HaltPending 1) ∧ s.Reannounced t := by
  have unknown : s.member s.own = none := Option.isNone_iff_eq_none.1 (by
    unfold State.isMember at stranger
    rw [← Option.not_isSome, stranger]
    rfl)
  have heard : s.Heard ((s.countSent z).hear z.frame) z.frame := State.hear_heard rfl (by rw [frame]; rfl) rfl
  have bus : ((s.countSent z).hear z.frame).bus = (s.countSent z).bus := rfl
  have gap : (s.countSent z).hasGap z.frame = false := by
    refine Bool.eq_false_iff.2 fun gap => ?_
    obtain ⟨m, found, -⟩ := State.hasGap_iff.1 gap
    rw [frame] at found
    exact absurd (unknown.symm.trans (Option.mem_def.1 found)) (by exact nofun)
  have counts := s.countSent_counts z
  dsimp only
  rw [State.applyFrame_of_next gap]
  rw [← bus] at counts
  generalize (s.countSent z).hear z.frame = h at *
  rw [frame] at heard ⊢
  have started : h.beatStation s.own seq b = (h.withMember s.own (h.newMember s.own seq b)).enterSynced := by
    have out : h.isMember s.own ≠ true := by rw [heard.isMember, stranger]; exact Bool.false_ne_true
    refine (if_neg out).trans ((State.addMember_eq h s.own seq b).trans (if_pos ⟨heard.own.symm, heard.station.trans listening⟩))
  have plant := h.withMember_plant s.own (h.newMember s.own seq b)
  obtain ⟨others, known, hu, roster⟩ := h.withMember_parts s.own (h.newMember s.own seq b)
  have onward := h.applyBeat_onward s.own seq b
  rw [started] at onward
  obtain ⟨p, shape⟩ : ∃ p, h.answered ⟨s.own, seq, .beat b⟩ = (h.applyBeat s.own seq b).recompute.evaluateIf p := ⟨_, rfl⟩
  rw [shape]
  generalize h.withMember s.own (h.newMember s.own seq b) = w at *
  have own : w.own = s.own := own_rested ((straps_of_plant plant).trans heard.straps)
  obtain ⟨drops, pressure⟩ := w.enterSynced_queues
  obtain ⟨station, isMember, silenced, keeps, spoken, adoption⟩ := onward
  have entered := w.enterSynced_silenced
  have off : w.enterSynced.AdoptionSound := adoptionSound_of_false w.enterSynced_adoption
  generalize h.applyBeat s.own seq b = x at *
  have synced : x.mu.station = .synced := station.trans w.enterSynced_station
  have quiet : x.ct.adoptionPending = false := Bool.eq_false_iff.2 fun pending => by
    rcases adoption off pending with same | same <;> rw [synced] at same <;> cases same
  rw [State.conclude_settled (State.staysOnFrame_of_loud (by rw [synced]; decide))]
  have last := settle_silenced x p
  have member := settle_isMember x p s.own
  obtain ⟨stationT, adoptionT, eventsT, spokenT, holds⟩ := settle_synced p synced
  generalize (x.recompute.evaluateIf p).rested = t at *
  have said := spoken.trans spokenT
  refine ⟨counts.of_silenced (last.trans (silenced.trans (entered.trans (by rw [bus_of_plant plant])))), stationT, ?_,
    adoptionT.trans quiet, ?_, ?_, fun a apart silent => ?_, fun pressed running => ?_, ?_⟩
  · rw [member, isMember, w.isMember_enterSynced, known]
  · rw [eventsT]
    exact keeps _ (by rw [w.hasEvent_enterSynced, decide_eq_true rfl, Bool.or_true])
  · rw [eventsT]
    exact keeps _ (by rw [w.hasEvent_enterSynced, roster, Bool.true_or])
  · refine said.drop (drops a (by rw [own]; exact apart) ?_)
    rw [others a apart, heard.member]
    split
    · next same => exact absurd same.symm apart
    · exact silent
  · refine said.urges 1 (pressure ?_ ?_)
    · rw [pressureLost_of_parts ((straps_of_plant plant).trans heard.straps) (by rw [hu, heard.hu])]
      exact pressed
    · rw [hu, heard.hu]
      exact running
  · have first : s.Spoken w := (State.Spoken.of_parts heard.outbound fun c => congrArg Channel.announced (heard.chan c)).trans (.of_plant plant)
    exact ((first.trans (.enterSynced w)).trans said).reannounced holds

end Sys2Proof.Machine
end

section
namespace Sys2Proof
open Sys2Proof.Machine

/-- Settles O26: a clean send is counted, and the frame applied to its own sender as to any receiver; the LEAVE frame and the
first BEAT take the station to CONFIG and to SYNCED. -/
theorem framesSentClean : Obligations.FramesSentClean := by
  unfold Obligations.FramesSentClean
  intro s z b released tx
  have sent := exec_frameSent released tx
  refine ⟨fun set clear synced item body => ?_, fun sends => ?_, fun leaves => ?_, fun listening beat frame stranger => ?_⟩
  · rw [if_neg (by rw [item]; nofun)] at sent
    obtain ⟨counts, flags, pointers⟩ := sentFlag synced body
    refine ⟨_, sent, counts.tx, counts.failures, counts.seq, counts.lastSender, counts.beatTimer.trans ?_, flags, pointers⟩
    rw [item]
    rfl
  · obtain ⟨h, heard, bus, step⟩ := exec_frameSent_of_sends sends
    exact ⟨_, step, sentFrame sends heard bus b⟩
  · rw [if_pos leaves] at sent
    exact ⟨_, sent, sentLeave s z⟩
  · rw [if_neg (by rw [beat]; nofun)] at sent
    obtain ⟨counts, station, member, adoption, regained, roster, drops, pressure, told⟩ := sentFirst listening frame stranger
    refine ⟨_, sent, station, member, counts.beatTimer.trans ?_, counts.failures, counts.seq, counts.lastSender, adoption,
      regained, roster, drops, pressure, told⟩
    rw [beat]
    rfl

end Sys2Proof
end

section
/-!
SUPPORT. JOIN and LEAVE (R140, R146, R147).
-/

namespace Sys2Proof.Machine

variable {s v w x : State}

/-! ### JOIN -/

theorem exec_join (released : s.inReset = false) (awaits : s.port.awaits .join = true) : exec .join s = .next s.runJoin :=
  congrArg Host.Outcome.next (State.onCommand_of_awaits State.runJoin released awaits)

theorem State.mayJoin_iff : s.mayJoin = true ↔ s.mu.station = .isolated ∨ (s.mu.station = .config ∧ s.site.isSet = true) := by
  unfold State.mayJoin
  cases s.mu.station <;> simp

theorem State.recompute_site (s : State) : s.recompute.site = s.site := by
  rw [site_of_bare s.recompute_bare, State.setAlloc_site]
  unfold State.setTable
  rw [State.setCt_site]

/-- R140: an entry to LISTENING leaves the port and the site configuration. -/
theorem State.relisten_port (s : State) (k : IsolationCause) (n : Nat) :
    (s.relisten k n).port = s.port ∧ (s.relisten k n).site = s.site := by
  have plant := (s.tuned k).emptyCopy_plant
  have parts : ((s.tuned k).emptied n).port = s.port ∧ ((s.tuned k).emptied n).site = s.site := by
    unfold State.emptied State.setAdoption State.announceGone
    dsimp only
    rw [State.setMu_port, State.setHu_port, State.setBus_port, State.setCt_port, State.setChans_port, State.setMu_site,
      State.setHu_site, State.setBus_site, State.setCt_site, State.setChans_site]
    exact ⟨(port_of_plant plant).trans rfl, (site_of_plant plant).trans rfl⟩
  rw [State.relisten_eq, port_of_bare (State.evaluateIf_bare _ _), State.recompute_port, site_of_bare (State.evaluateIf_bare _ _),
    State.recompute_site]
  exact parts

theorem runJoin_of_mayJoin (may : s.mayJoin = true) : s.runJoin = (s.relisten .none 0).accept [] := by
  have concluded := (s.relisten_concluded .none 0).2
  have shape : s.runJoin = s.enterListening.conclude.accept [] := if_pos may
  have entered : s.enterListening = s.relisten .none 0 := rfl
  rw [shape, entered, concluded]

/-! ### LEAVE -/

theorem exec_leaveCommand (released : s.inReset = false) (awaits : s.port.awaits .leave = true) :
    exec .leaveCommand s = .next s.runLeave :=
  congrArg Host.Outcome.next (State.onCommand_of_awaits State.runLeave released awaits)

theorem State.anyStuck_iff : s.anyStuck = true ↔ ∃ c : Chan, (s.chan c).present = true ∧ (s.chan c).valve = .stuck := by
  unfold State.anyStuck
  rw [List.any_eq_true]
  constructor
  · rintro ⟨c, -, both⟩
    rw [Bool.and_eq_true] at both
    exact ⟨c, both.1, eq_of_beq both.2⟩
  · rintro ⟨c, present, stuck⟩
    exact ⟨c, mem_allChans c, by rw [present, stuck]; rfl⟩

theorem State.parting_plant (s : State) : s.parting.plant = s.plant := rfl

/-- R66, R82: closing every FLOWING head for one purpose leaves the units as they are, less the channels and the outbound set. -/
theorem State.shutAll_kept (x : State) (q : Purpose) : (x.shutAll q).port = x.port ∧ (x.shutAll q).mu = x.mu ∧ (x.shutAll q).ct = x.ct ∧
    (x.shutAll q).alloc = x.alloc ∧ { (x.shutAll q).bus with outbound := [] } = { x.bus with outbound := [] } ∧ x.Spoken (x.shutAll q) := by
  have bare : (x.closeAll q).announceAll.bare = x.bare := (State.announceAll_bare _).trans (x.closeAll_bare q)
  have spoken : x.Spoken (x.closeAll q).announceAll :=
    (State.Spoken.of_runSide (RunSide.closeAll x q)).trans (.of_runSide (RunSide.announceAll _))
  unfold State.shutAll
  generalize (x.closeAll q).announceAll = y at *
  exact ⟨y.closing_port.trans (port_of_bare bare), y.closing_mu.trans (mu_of_bare bare), y.closing_ct.trans (ct_of_bare bare),
    y.closing_alloc.trans (alloc_of_bare bare), y.closing_bus.trans (silenced_of_bare bare), spoken.trans (.closing y)⟩

theorem State.parting_shutAll_station (s : State) : (s.parting.shutAll .leave).mu.station = .leaving := by
  obtain ⟨-, mu, -⟩ := s.parting.shutAll_kept .leave
  rw [mu]
  rfl

theorem State.enterLeaving_concluded (s : State) : s.enterLeaving.conclude = s.parting.shutAll .leave := by
  have entered : s.enterLeaving.conclude = (s.parting.shutAll .leave).relistenTest := rfl
  have station := s.parting_shutAll_station
  rw [entered]
  generalize s.parting.shutAll .leave = t at *
  exact State.relistenTest_of_other fun same => by
    rw [station] at same
    exact absurd same.1 (by decide)

/-- R146: the state after an entry to LEAVING, as the event ends. -/
theorem runLeave_of_takes (takes : s.mu.station.takesSiteCommand = true) (free : s.anyStuck = false) :
    s.runLeave = (s.parting.shutAll .leave).accept [] := by
  have shape : s.runLeave = s.enterLeaving.conclude.accept [] := if_pos (by rw [takes, free]; rfl)
  rw [shape, s.enterLeaving_concluded]

/-- R147: LEAVE is queued as the event ends in LEAVING with every present valve CLOSED. -/
theorem State.closing_leaves {y : State} (leaving : y.mu.station = .leaving) (idle : y.bus.tx = none)
    (closed : ∀ c : Chan, (y.chan c).present = true → (y.chan c).valve = .closed) : OutFrame.leave ∈ y.closing.bus.outbound := by
  have mu' := y.closing_mu
  have chans' := y.closing_chan
  have bus' := y.closing_bus
  unfold State.closing at mu' chans' bus' ⊢
  generalize y.announceAll.ackTest = w at *
  have mute := w.leaveTest_mute
  have mu : w.mu = y.mu := (mu_of_mute mute).symm.trans mu'
  have chans : ∀ c, (w.chan c).mute = (y.chan c).mute := fun c => (chan_of_mute mute c).symm.trans (chans' c)
  have bus : { w.bus with outbound := [] } = { y.bus with outbound := [] } := (bus_of_mute mute).symm.trans bus'
  have tx : w.bus.tx = y.bus.tx := by
    have e := congrArg BusUnit.tx bus
    exact e
  rw [State.leaveTest_of_closed (by rw [mu]; exact leaving) (State.allClosed_iff.2 fun c present => ?_) (tx.trans idle)]
  · exact mem_insertOut_self fun g same => match g, same with
      | .leave, _ => rfl
  · have present' : (y.chan c).present = true := by
      unfold Channel.present at present ⊢
      rw [← settings_of_mute (chans c)]
      exact present
    exact (valve_of_mute (chans c)).trans (closed c present')

/-- R146: the state after an entry to LEAVING, before the event ends. -/
theorem State.parting_shut (s : State) : (s.parting.closeAll .leave).announceAll.mu.station = .leaving ∧
    (s.parting.closeAll .leave).announceAll.bus.tx = s.bus.tx ∧
    (∀ c, ((s.parting.closeAll .leave).announceAll.chan c).present = (s.chan c).present) ∧
    ∀ c, (s.chan c).fixed → ((s.parting.closeAll .leave).announceAll.chan c).mute = (s.chan c).mute := by
  have bare : (s.parting.closeAll .leave).announceAll.bare = s.parting.bare :=
    (State.announceAll_bare _).trans (State.closeAll_bare _ .leave)
  exact ⟨(congrArg MemberUnit.station (mu_of_bare bare)).trans rfl, (tx_of_bare bare).trans rfl,
    fun c => Channel.present_of_bare (chan_of_bare bare c), fun c => (Fixed.closeAll (c := c) s.parting .leave).trans (.of_mute (State.announceAll_mute _))⟩

/-- R147: LEAVE is queued at once where every present valve is CLOSED. -/
theorem State.parting_leaves (s : State) (idle : s.bus.tx = none)
    (rests : ∀ c : Chan, (s.chan c).present = true → (s.chan c).valve = .closed) :
    OutFrame.leave ∈ (s.parting.shutAll .leave).bus.outbound := by
  obtain ⟨station, tx, presence, same⟩ := s.parting_shut
  unfold State.shutAll
  generalize (s.parting.closeAll .leave).announceAll = y at *
  have closed : ∀ c : Chan, (y.chan c).present = true → (y.chan c).valve = .closed := fun c present => by
    rw [presence] at present
    have shut := rests c present
    exact (valve_of_mute (same c (Channel.fixed_of_closed shut))).trans shut
  exact State.closing_leaves station (tx.trans idle) closed

theorem State.parting_holds (s : State) (c : Chan) : (s.parting.shutAll .leave).Holds c := by
  obtain ⟨station, -⟩ := s.parting_shut
  unfold State.shutAll
  generalize (s.parting.closeAll .leave).announceAll = y at *
  exact State.closing_holds (by rw [station]; rfl) c

/-- R146, R66, R82: an entry to LEAVING, as its event ends. -/
theorem parted_shutAll (s : State) : let t := s.parting.shutAll .leave
    t.port = s.port ∧ t.mu.station = .leaving ∧ (∀ a : Addr, ∀ m ∈ t.member a, m.stale = false) ∧
      (∀ a : Addr, t.isMember a = s.isMember a) ∧ t.ct.adoptionPending = false ∧ t.ct.table = s.ct.table ∧ t.alloc = s.alloc ∧
      t.bus.seq = s.bus.seq ∧ t.bus.beatTimer = s.bus.beatTimer ∧ t.mu.orphans = s.mu.orphans ∧
      (s.RunsSound → s.OneHead → s.ClosedHeads t .leave) ∧ s.Reannounced t ∧
      (s.bus.tx = none → (∀ c : Chan, (s.chan c).present = true → (s.chan c).valve = .closed) →
        OutFrame.leave ∈ t.bus.outbound) := by
  dsimp only
  have closed := fun runs one => (tidy_of_rm (s := s) (t := s.parting) rfl (State.tidy_of_sound runs one)).shutAll_closedHeads
    (q := .leave) (by decide) (v := s) rfl rfl
  have leaves := s.parting_leaves
  have loud := s.parting_holds
  obtain ⟨port, mu, ct, alloc, bus, spoken⟩ := s.parting.shutAll_kept .leave
  have mine : s.parting.mu = { s.mu with station := .leaving, roster := s.parting.mu.roster } := rfl
  have table : s.parting.ct = { s.ct with adoptionPending := false } := rfl
  have records : ∀ a, s.parting.member a = (s.member a).map fun m => { m with stale := false } := fun a =>
    member_clearStale (s.setStation .leaving) a
  generalize s.parting.shutAll .leave = t at *
  have member : ∀ a, t.member a = (s.member a).map fun m => { m with stale := false } := fun a => by
    unfold State.member
    rw [mu]
    exact records a
  refine ⟨port, by rw [mu, mine], fun a m found => ?_, fun a => ?_, by rw [ct, table], by rw [ct, table], alloc,
    seq_of_silenced bus, beatTimer_of_silenced bus, by rw [mu, mine], closed, ?_, leaves⟩
  · rw [member] at found
    obtain ⟨o, -, rfl⟩ := Option.map_eq_some_iff.1 found
    rfl
  · unfold State.isMember
    rw [member, Option.isSome_map]
  · exact ((State.Spoken.of_plant s.parting_plant).trans spoken).reannounced loud

end Sys2Proof.Machine
end

section
namespace Sys2Proof
open Sys2Proof.Machine

/-- Settles O9: JOIN is `State.relisten` where it is accepted, and LEAVE an entry to LEAVING. -/
theorem joinAndLeaveCommands : Obligations.JoinAndLeaveCommands := by
  unfold Obligations.JoinAndLeaveCommands
  intro s released
  refine ⟨fun awaits => ?_, fun awaits => ?_⟩
  · rw [exec_join released awaits]
    refine ⟨fun other config => congrArg Host.Outcome.next (if_neg fun may => ?_), fun may => ?_⟩
    · rcases State.mayJoin_iff.1 may with isolated | ⟨here, site⟩
      · exact other isolated
      · rcases config with away | unset
        · exact away here
        · rw [site] at unset
          cases unset
    · have mu := s.relisten_mu .none 0
      have ct := s.relisten_ct .none 0
      have hu := s.relisten_hu .none 0
      have bus := s.relisten_bus .none 0
      have alloc := s.relisten_alloc .none 0
      have gone := s.relisten_announced .none 0
      obtain ⟨port, site⟩ := s.relisten_port .none 0
      rw [runJoin_of_mayJoin (State.mayJoin_iff.2 may)]
      generalize s.relisten .none 0 = t at *
      have same : (t.accept []).mu = t.mu ∧ (t.accept []).ct = t.ct ∧ (t.accept []).hu = t.hu ∧ (t.accept []).bus = t.bus :=
        ⟨rfl, rfl, rfl, rfl⟩
      obtain ⟨muA, ctA, huA, busA⟩ := same
      rw [mu] at muA
      rw [ct] at ctA
      rw [hu] at huA
      rw [bus] at busA
      refine ⟨_, rfl, State.finish_port_congr port .ok [], by rw [muA], by rw [muA], by rw [muA], by rw [muA], fun a => ?_,
        fun a c => ?_, by rw [ctA], by rw [ctA], alloc, by rw [ctA], by rw [ctA], by rw [ctA], by rw [busA], by rw [busA],
        by rw [busA], by rw [busA], by rw [busA], by rw [huA]; rfl, by rw [huA]; rfl, by rw [huA]; rfl, by rw [huA]; rfl, fun a => ?_,
        by rw [huA]; rfl, by rw [huA]; rfl, by rw [huA], by rw [huA], gone, site⟩
      · unfold State.member
        rw [muA]
        exact Vector.getElem_replicate ..
      · rw [ctA]
        exact slot_empty a c
      · rw [huA]
        exact Vector.getElem_replicate ..
  · rw [exec_leaveCommand released awaits]
    refine ⟨fun refused => congrArg Host.Outcome.next (if_neg fun both => ?_), fun here free => ?_⟩
    · rw [Bool.and_eq_true, StationState.takesSiteCommand_iff, Bool.not_eq_true', Bool.eq_false_iff, ne_eq, State.anyStuck_iff] at both
      rcases refused with ⟨synced, resync⟩ | stuck
      · exact both.1.elim synced resync
      · exact both.2 stuck
    · have parted := parted_shutAll s
      rw [runLeave_of_takes ((StationState.takesSiteCommand_iff _).2 here) (Bool.eq_false_iff.2 fun stuck => by
        obtain ⟨c, present, valve⟩ := State.anyStuck_iff.1 stuck
        exact free c present valve)]
      generalize s.parting.shutAll .leave = t at *
      obtain ⟨port, rest⟩ := parted
      exact ⟨_, rfl, State.finish_port_congr port .ok [], rest⟩

end Sys2Proof
end
